-- ==== Sys2Proof/Word.lean ====
section
/-! DEFINITION. The word types of the KD9 and the sparse table type: bytes, 32-bit sample words, 80-bit accumulators,
eight-lane vectors, and key-sorted tables that hold only what differs from a default. -/

namespace Sys2Proof

/-- One byte of a packet, a memory or a buffer. -/
abbrev Byte := BitVec 8

/-- The 32-bit sample word and register word (02 R51, 04 R119). -/
abbrev W32 := BitVec 32

/-- One accumulator lane, 80 bits, two's complement (04 R119, R140). -/
abbrev A80 := BitVec 80

/-- Eight lanes, lane 0 the lowest (04 R119). -/
structure Oct (α : Type) where
  a0 : α
  a1 : α
  a2 : α
  a3 : α
  a4 : α
  a5 : α
  a6 : α
  a7 : α
  deriving DecidableEq, Repr

/-- A table keyed by number, held with its keys strictly rising. -/
abbrev Tab (α : Type) := List (Nat × α)

end Sys2Proof
end

