-- ==== Sys2Proof/Units/Base.lean ====
section
/-! DEFINITION. Types shared by every unit of the KD9: saturating counters, transports, and what the node sends outwards. -/

namespace Sys2Proof

/-- A saturating counter with its sticky saturation flag (00 R737). -/
structure Sat where
  n   : Nat := 0
  sat : Bool := false
  deriving DecidableEq, Repr

/-- The transport a GCP packet arrives on, in the SOURCE codes of 14 R568. -/
inductive Src where
  | pcie | mg | link | al0 | al1 | pair
  deriving DecidableEq, Repr

/-- A GCP request that has passed steps 1 to 11 of 13 R520 and holds its acceptance number. `made` is the handle that the Active
chose, in a mirrored copy (13 R535). `noted` says that the audit log knows it: the place of its record, or none where it is only counted (14 R566);
`ran` is the Calendar count and local time of its execution (14 R567). -/
structure Req where
  src     : Src := .pcie
  ret     : Nat × Nat := (0, 0)
  ver     : Nat := 2
  flags   : Nat := 0
  opcode  : Nat := 0
  tag     : Nat := 0
  seq     : Nat := 0
  role    : Nat := 0
  slot    : Nat := 0
  applyAt : Nat := 0
  crc     : Nat := 0
  acc     : Nat := 0
  trust   : Bool := false
  made    : Option Nat := none
  noted   : Option (Option Nat) := none
  ran     : Option (Nat × Nat) := none
  params  : List Byte := []
  deriving DecidableEq, Repr

/-- What kind of thing the node sent outwards; the fields of `Out` say the rest. -/
inductive OutKind where
  /-- Reply bytes written to host memory at address `a` (13 R543). -/
  | hostReply
  /-- A ring descriptor read at host address `a`, with its BUF_ADDR `b` and LEN `c` (13 R541, R542). -/
  | ringRead
  /-- A ring descriptor written at host address `a`: its 16 bytes, with STATUS `b` and LEN `c` (13 R542). -/
  | ringDesc
  /-- An MSI-X vector `a` (13 R545). -/
  | msix
  /-- A UDP datagram out of port `a` to address `b`, port `c` (13 R546). -/
  | udp
  /-- A frame out of link port `b`, its FCS included; `a` is the TYPE of a Sogus frame, 16 for a frame that is none of a listed TYPE (10 R375). -/
  | sogus
  /-- A pair message of MSG `a`, its PAIR_SEQ in `b` (15 R583). -/
  | pairMsg
  /-- An Ethernet frame out of an AL or MG port `a` (10 R416). -/
  | eth
  /-- A reply on ARP or ICMP out of port `a` (10 R407, R412). -/
  | echo
  /-- An IGMPv3 report out of link port `a` for the group `b` (10 R407). -/
  | igmp
  /-- A tone of `a` Hz for `b` ms at code `c` (09 R360). -/
  | tone
  /-- An AVSBus set-point request of `a` mV (18 R665). -/
  | avs
  /-- A pulse on output `a` at local time `b` ns, width `c` (11 R461). -/
  | pulse
  /-- Bytes sent on METER_TX (19 R704) or METER_SEAL_IND (19 R705), as `a` says. -/
  | meterTx
  /-- An NVMe write on drive `a` at byte offset `b`: `bytes`, or `c` zero bytes (12 R477). -/
  | nvme
  /-- An audio write on drive `a` at byte offset `b`, with FUA: `bytes` (12 R476, R486). -/
  | nvmeFua
  /-- A PLCA beacon on AL port `a` (10 R415). -/
  | plca
  /-- An RTP packet of sender `a`, timestamp `b` (10 R409). -/
  | rtp
  /-- A PTP message of type `a` out of port `b`, 4 for MG; with `c` = 1 in UDP on IPv4, else in an Ethernet frame of its own (11 R448, R449). -/
  | ptp
  /-- A reply handed to a waiting relay or fabric master: response code `a` (07 R272). -/
  | fabric
  deriving DecidableEq, Repr

/-- One thing the node sent outwards; `codes` are the responses of a fabric access, beat by beat (07 R272). -/
structure Out where
  kind  : OutKind
  a     : Nat := 0
  b     : Nat := 0
  c     : Nat := 0
  bytes : List Byte := []
  codes : List Nat := []
  deriving DecidableEq, Repr

/-- The four ordering variants (00 R2). -/
inductive Variant where
  | f | b | a | s
  deriving DecidableEq, Repr

end Sys2Proof
end

