-- ==== Sys2Proof/Units/Cfg.lean ====
section
/-! DEFINITION. The configuration that the Commit Gate binds at tick boundaries (01 R21): time base, slot map, chains and
their taps, fixed blocks, port, flow and stream tables, mute, recording and replay assignments. One value of `Cfg` is the
live configuration of one sample tick (02 R69). -/

namespace Sys2Proof

/-- A slot map entry (02 R56). -/
structure MapEnt where
  kind   : Nat := 0
  align  : Nat := 0
  source : Nat := 0
  deriving DecidableEq, Repr

/-- A chain descriptor with its binding tables (04 R163, R164). A binding is (space, slot), a tap (line, operator, delay). -/
structure Desc where
  stage      : Nat := 0
  flags      : Nat := 0
  pinEngine  : Nat := 0
  affinity   : Nat := 0
  codeBytes  : Nat := 0
  stateBytes : Nat := 0
  entry      : Nat := 0
  costFixed  : Nat := 0
  costSample : Nat := 0
  paramOff   : Nat := 0
  paramWords : Nat := 0
  holdMs     : Nat := 0
  tailMs     : Nat := 0
  rateMap    : Nat := 0
  tickMap    : Nat := 0
  opMask     : Nat := 0
  ins        : List (Nat × Nat) := []
  outs       : List (Nat × Nat) := []
  taps       : List (Nat × Bool × Nat) := []
  lines      : List Nat := []
  deriving DecidableEq, Repr

/-- A chain as the gate runs it: its descriptor and its present tap delays (04 R162). -/
structure ChainCfg where
  desc   : Desc := {}
  delays : List Nat := []
  first  : Nat := 0
  deriving DecidableEq, Repr

/-- A DYN_CONFIG block (06 R242). -/
structure DynCfg where
  flags    : Nat := 0
  link     : Nat := 0
  insSpace : Nat := 0
  insSlot  : Nat := 0
  scSpace  : Nat := 0
  scSlot   : Nat := 0
  look     : Nat := 0
  deriving DecidableEq, Repr

/-- A DYN_SET_PARAMS block with the defaults of 06 R243. -/
structure DynPar where
  thr     : Int := 0
  ratio   : Nat := 0x0400
  knee    : Nat := 0x0600
  attack  : Nat := 1000
  release : Nat := 100
  makeup  : Nat := 0
  deriving DecidableEq, Repr

/-- A METER_OP_SET block (06 R255). -/
structure OpMeterCfg where
  space  : Nat := 0
  slot   : Nat := 0
  flags  : Nat := 0
  bqEn   : Nat := 0
  decK   : Nat := 0
  shBq   : Nat := 0
  shDet  : Nat := 0
  shDec  : Nat := 0
  shAvg  : Nat := 0
  avgLen : Nat := 1
  coeff  : List Int := []
  deriving DecidableEq, Repr

/-- An SP_CONFIG block (09 R334). -/
structure SpCfg where
  flags   : Nat := 0
  format  : Nat := 0
  ch      : Nat := 2
  word    : Nat := 24
  slot    : Nat := 32
  fsDelay : Nat := 0
  fsWidth : Nat := 0
  srcBase : Nat := 0
  dstBase : Nat := 0
  deriving DecidableEq, Repr

/-- An AE_CONFIG block (09 R342). -/
structure AeCfg where
  flags   : Nat := 0
  srcBase : Nat := 0
  dstBase : Nat := 0
  txRef   : Nat := 0
  deriving DecidableEq, Repr

/-- A DRV_CONFIG block (09 R354). -/
structure DrvCfg where
  flags : Nat := 0
  dst   : Nat := 0
  deriving DecidableEq, Repr

/-- The DRV_SET_FREQ block (09 R347, R354). -/
structure DrvFreq where
  mode     : Nat := 0
  index    : Nat := 0
  stations : List Nat := []
  deriving DecidableEq, Repr

/-- A TG_SET block (09 R363) and the boundary at which it was bound, the seed instant of its noise (R365). -/
structure TgCfg where
  flags    : Nat := 0
  signal   : Nat := 0
  channels : Nat := 0
  srcBase  : Nat := 0
  level    : Nat := 0
  arg      : Nat := 0
  seedAt   : Nat := 0
  deriving DecidableEq, Repr

/-- The SLP_SET_LISTEN block (09 R361). -/
structure SlpCfg where
  left  : Nat := 0
  right : Nat := 0
  gain  : Nat := 0
  flags : Nat := 0
  mic   : Nat := 0
  deriving DecidableEq, Repr

/-- An outbound flow entry (10 R382); `ports` holds the port of each copy, as placed (05 R232). -/
structure FlowOut where
  ch      : Nat := 1
  kind    : Nat := 1
  dstBase : Nat := 0
  target  : Nat := 0
  copies  : List Nat := []
  ports   : List Nat := []
  deriving DecidableEq, Repr

/-- An inbound flow entry (10 R386). -/
structure FlowIn where
  source  : Nat := 0
  partner : Nat := 0
  flow    : Nat := 0
  ch      : Nat := 1
  depth   : Nat := 1
  srcBase : Nat := 0
  conceal : Nat := 2
  deriving DecidableEq, Repr

/-- An AOIP_SENDER_SET or AOIP_RECEIVER_SET block (10 R426); `base` is DST_BASE or SRC_BASE, `opt` TTL or CONCEAL. -/
structure Aoip where
  flags  : Nat := 0
  ch     : Nat := 1
  port   : Nat := 0
  base   : Nat := 0
  ptime  : Nat := 1
  addr   : Nat := 0
  udp    : Nat := 0
  pt     : Nat := 96
  opt    : Nat := 0
  src    : Nat := 0
  last   : Nat := 0
  bound  : Nat := 0
  deriving DecidableEq, Repr

/-- A LINK_CONFIG block (10 R418). -/
structure LinkCfg where
  speed  : Nat := 0
  fec    : Nat := 0
  tag    : Nat := 0xC000
  asym   : Int := 0
  ip     : Nat := 0
  plen   : Nat := 24
  deriving DecidableEq, Repr

/-- A bound recording: its number and first sample tick, and its job as it was defined when it was bound (12 R482, R484). -/
structure RecCfg where
  number : Nat := 0
  first  : Nat := 0
  flags  : Nat := 0
  dstF   : Nat := 0
  tracks : Nat := 0
  deriving DecidableEq, Repr

/-- A bound replay (12 R492) and the sample tick it starts at (R493). -/
structure ReplayCfg where
  tracks : Nat := 0
  recording : Nat := 0
  firstTrack : Nat := 0
  srcFirst : Nat := 0
  start  : Nat := 0
  bound  : Nat := 0
  deriving DecidableEq, Repr

/-- The live configuration of one sample tick. -/
structure Cfg where
  rate     : Nat := 1                 -- sample rate, RATE_MAP bit number | 02 R49, 13 R550 | DC 20
  n        : Nat := 2                 -- tick size N in samples | 02 R49 | DC 20
  mapMi    : Tab MapEnt := []         -- slot map, 4096 MIX-IN entries of 32 bits | 02 R56 | all zero (R736)
  mapDst   : Tab MapEnt := []         -- slot map, 4096 DST entries of 32 bits | 02 R56 | all zero (R736)
  chains   : Tab ChainCfg := []       -- chains that run, by handle | 04 R163, R168 | none
  dyn      : Tab DynCfg := []         -- 512 DYN_CONFIG blocks | 06 R242 | zero (R264)
  dynPar   : Tab DynPar := []         -- 512 DYN_SET_PARAMS blocks | 06 R243 | defaults of R243
  meters   : Tab OpMeterCfg := []     -- 256 operator meter blocks | 06 R255 | all disabled (R264)
  silThr   : Int := -23040            -- node silence threshold, signed 1/256 dBFS | 06 R258 | 0xA600
  silHold  : Nat := 2000              -- node silence hold time, ms | 06 R259 | 2000
  sp       : Tab SpCfg := []          -- SP0-SP7 tables | 09 R334 | disabled (R369)
  ae       : Tab AeCfg := []          -- AE0-AE3 tables | 09 R342 | disabled (R369)
  drv      : Tab DrvCfg := []         -- 32 Drive Modulator channels | 09 R354 | disabled (R369)
  drvFreq  : DrvFreq := {}            -- switching frequency mode, index and stations | 09 R347 | code 0x0 fixed (R369)
  slp      : SlpCfg := {}             -- SLP listen block | 09 R361 | listen off (R369)
  tg       : Tab TgCfg := []          -- 16 test generators | 09 R363 | disabled (R367)
  links    : Tab LinkCfg := []        -- K0-K3 port tables | 10 R418 | disabled (R427)
  flowOut  : Tab FlowOut := []        -- outbound flow table, 4096 entries by flow ID | 10 R382, R406 | empty (R427)
  flowIn   : Tab FlowIn := []         -- inbound flow table, 4096 entries by SOURCE and FLOW | 10 R386, R406 | empty (R427)
  aoTx     : Tab Aoip := []           -- 128 audio-over-IP senders | 10 R426 | empty (R427)
  aoRx     : Tab Aoip := []           -- 128 audio-over-IP receivers | 10 R426 | empty (R427)
  mute     : Bool := false            -- SYS_MUTE_ALL in force | 13 R551 | 0
  recs     : Tab RecCfg := []         -- recording jobs now recording | 12 R484 | none (R502)
  replays  : Tab ReplayCfg := []      -- replays bound | 12 R492 | none (R502)
  deriving DecidableEq, Repr

end Sys2Proof
end

