-- ==== Sys2Proof/Units/Audio.lean ====
section
/-! DEFINITION. State of the Slot Exchange and tick pipeline, the Sward and the fixed blocks. -/

namespace Sys2Proof

/-- One block of N samples of a slot. -/
abbrev Blk := List W32

/-- One sample tick in the pipeline: its configuration and its slots, the bypass copies included (02 R62, R63). -/
structure TickRec where
  k      : Nat
  cfg    : Cfg := {}
  src    : Tab Blk := []
  miPre  : Tab Blk := []
  mi     : Tab Blk := []
  mia    : Tab Blk := []
  mo     : Tab Blk := []
  dst    : Tab Blk := []
  deriving DecidableEq, Repr

/-- The Frame Sequencer and the Slot Exchange. -/
structure Pipe where
  running : Bool := false          -- data plane runs | 17 R648 | 0
  cal     : Nat := 0               -- Calendar count, 48 bits | 01 R25, 11 R454 | 0 (R455)
  first   : Nat := 0               -- first sample tick processed; earlier sample ticks read zero | 02 R75, 17 R642 | 0
  live    : Cfg := {}              -- live copies of the Commit Gate | 01 R21 | see the tables
  recs    : List TickRec := []     -- the slot spaces SRC, MIX-IN, MIX-OUT, DST of the sample ticks in flight and the align history, newest first | 02 R62, R63, R68 | zero
  before  : Tab Cfg := []          -- configurations of the four sample ticks before the first one, by sample tick | 02 R69, R75 | none
  mid     : Bool := false          -- a tick has begun and its deadline has not come | 02 R77 | 0
  outSp   : Tab Blk := []          -- words now leaving SP outputs, by 32 x port + channel | 09 R328 | zero (R369)
  outAe   : Tab Blk := []          -- words now leaving AE transmitters, by 2 x port + channel | 09 R340 | zero (R369)
  outSlp  : Tab Blk := []          -- words now leaving SLP_SDO, left 0 and right 1 | 09 R356 | zero (R369)
  held    : Bool := false          -- outputs hold their last sample until a handover boundary | 15 R595 | 0
  deriving DecidableEq, Repr

/-- A Sward node (03 R88, R92). -/
structure Node where
  cur : Nat := 0
  tgt : Nat := 0
  pol : Bool := false
  deriving DecidableEq, Repr

/-- A column's ramp context (03 R107). -/
structure Ramp where
  on  : Bool := false
  pos : Nat := 0
  len : Nat := 0
  deriving DecidableEq, Repr

/-- A tile's power state and row count (03 R109). -/
structure Tile where
  state    : Nat := 0
  rowsLast : Nat := 0
  deriving DecidableEq, Repr

/-- One bound Sward record: a rectangle of nodes, a code or a polarity or both, the command's ramp length, and whether it is a fill record
(03 R112, R113). -/
structure SwRec where
  r0   : Nat
  r1   : Nat
  c0   : Nat
  c1   : Nat
  code : Option Nat := none
  pol  : Option Bool := none
  len  : Nat := 1
  acc  : Nat := 0
  fill : Bool := false
  deriving DecidableEq, Repr

/-- The Sward. -/
structure Sward where
  nodes : Tab Node := []           -- gain and polarity of node (i, j) at 4096 x j + i, 16 + 16 + 1 bits | 03 R104, R106 | 0x0000, polarity 0 (R101)
  ramps : Tab Ramp := []           -- ramp context of each column, 32 bits | 03 R107 | 0
  clips : Tab Sat := []            -- clip counter of each MIX-OUT slot, 16 bits, with flag | 03 R91, R108 | 0
  tiles : Tab Tile := []           -- tile status of T00-T63, 32 bits | 03 R109 | STATE 0x0 or 0x3
  bound : Tab (List SwRec) := []   -- sets bound at a tick and not yet met by their Sward pass, by sample tick | 03 R93 | none (R101)
  deriving DecidableEq, Repr

/-- Running state of a dynamics channel (06 R248, R249). -/
structure DynRun where
  g      : Int := 0
  buf    : List W32 := []
  maxRed : Int := 0
  deriving DecidableEq, Repr

/-- Running state of an operator meter (06 R251-R253): biquad states, the first of each decimation pair, the averaged samples newest
first, the slow value, samples entered, and the coarse sums: of the block in progress, of the block that ended in this tick, and of the
block shown. -/
structure MeterRun where
  bq      : List (Int × Int) := []
  dec     : List (Option Nat) := []
  win     : List Nat := []
  level   : Nat := 0
  entered : Nat := 0
  coarse  : Bool := true
  cSum    : Nat := 0
  cCount  : Nat := 0
  cDone   : Option Nat := none
  cVal    : Nat := 0
  ovf     : Bool := false
  deriving DecidableEq, Repr

/-- The fixed blocks. -/
structure Fixed where
  dyn      : Tab DynRun := []      -- smoothed reduction, delay buffer and largest reduction of 512 channels | 06 R248, R249, R263 | zero (R264)
  showMi   : Tab (DynCfg × DynPar) := []  -- dynamics blocks of the last Stage A run | 06 R263 | defaults
  showDst  : Tab (DynCfg × DynPar) := []  -- dynamics blocks of the last Stage B run | 06 R263 | defaults
  meters   : Tab MeterRun := []    -- running state of 256 operator meters | 06 R251 | restarted (R264)
  seen     : Tab (OpMeterCfg × MeterRun) := [] -- operator meters at the end of the last completed tick | 06 R257 | disabled (R264)
  seenRate : Nat := 1              -- rate code of that tick | 06 R252, R254, R257 | 1 (02 R46)
  silBase  : Nat := 0              -- sample tick from which every silence count runs | 06 R259, R264 | 0
  loudMi   : Tab Nat := []         -- last not-quiet sample tick + 1 of each MIX-IN slot: its count of quiet ticks | 06 R259 | count zero
  loudDst  : Tab Nat := []         -- last not-quiet sample tick + 1 of each DST slot: its count of quiet ticks | 06 R259 | count zero
  silMi    : Nat := 0              -- MIX-IN sample ticks the detectors have seen | 06 R259 | 0
  silDst   : Nat := 0              -- DST sample ticks the detectors have seen | 06 R259 | 0
  lfsr     : Tab Nat := []         -- noise state of generator g channel c at 64 x g + c, 32 bits | 09 R365 | seeded at binding
  pink     : Tab (List (Int × Int)) := []  -- three pink-noise sections of generator g channel c | 09 R365 | zero
  deriving DecidableEq, Repr

end Sys2Proof
end

