-- ==== Sys2Proof/Units/Capture.lean ====
section
/-! DEFINITION. State of the Capture Store: drives, volume, segments, jobs, staging and replays. -/

namespace Sys2Proof

/-- What a superblock copy with a good CRC says (12 R478). -/
structure Super where
  volId : Nat := 0
  mask  : Nat := 0
  mirr  : Bool := false
  clean : Bool := false
  gen   : Nat := 0
  deriving DecidableEq, Repr

/-- A drive slot (12 R506). -/
structure Drive where
  state   : Nat := 0               -- STATE: 0 none, 1 identifying, 2 member, 3 not a member, 4 failed | 12 R506 | 0
  link    : Nat := 0               -- LINK: PCIe generation and width | 12 R506 | DC 2
  wear    : Nat := 0               -- WEAR, Percentage Used | 12 R499 | DC 2
  warn    : Bool := false          -- NVMe critical warning | 12 R499 | 0
  bytes   : Nat := 0               -- capacity C in bytes | 12 R477 | DC 2
  segs    : Nat := 0               -- SEGMENTS S | 12 R477 | DC 2
  timeouts : Sat := {}             -- TIMEOUTS, 16 bits | 12 R506 | 0
  media   : Sat := {}              -- MEDIA_ERRORS, 16 bits | 12 R506 | 0
  written : Nat := 0               -- WRITTEN, 64 bits | 12 R506 | DC 2
  volId   : Nat := 0               -- superblock VOLUME_ID | 12 R478 | DC 2
  volMask : Nat := 0               -- superblock DRIVE_MASK, zero for no volume | 12 R478 | DC 2
  volMirr : Bool := false          -- superblock FLAGS bit 0 | 12 R478 | DC 2
  clean   : Bool := false          -- superblock FLAGS bit 1 CLEAN | 12 R478 | DC 2
  gen     : Nat := 0               -- superblock GENERATION | 12 R478 | DC 2
  fits    : Bool := true           -- revision, block size and capacity are those that a slot takes | 12 R476 | DC 2
  deriving DecidableEq, Repr

/-- A segment in use: its map entry (12 R479), run table and the data it holds per capture tick (R480). -/
structure Seg where
  drive   : Nat
  index   : Nat
  st      : Nat := 1
  prot    : Bool := false
  copy    : Bool := false
  packed  : Bool := false
  byJrn   : Bool := false
  job     : Nat := 0
  group   : Nat := 0
  recNo   : Nat := 0
  firstT  : Nat := 0
  lastT   : Nat := 0
  rate    : Nat := 1
  n       : Nat := 2
  tracks  : Nat := 1
  dstF    : Nat := 0
  mDrive  : Nat := 0xFF
  mIndex  : Nat := 0
  epoch   : Int := 0
  seq     : Nat := 0
  runs    : List (Nat × Nat) := []
  data    : Tab (List W32) := []
  deriving DecidableEq, Repr

/-- A recording job (12 R482, R509). -/
structure Job where
  defined : Bool := false
  flags   : Nat := 0
  dstF    : Nat := 0
  tracks  : Nat := 0
  number  : Nat := 0
  gaps    : Sat := {}
  deriving DecidableEq, Repr

/-- A recording track group: its staged ticks, oldest first, with the local time in ns at which each was staged, how many of them are at the drives,
the drives' completed writes of those, once for each write, and whether it stopped for want of a segment (12 R486-R488, R496). `avoid` is the drive that
its last rewrite leaves (R498). -/
structure Group where
  staged  : List (Nat × List W32) := []
  since   : List Nat := []
  sent    : Nat := 0
  acks    : List Nat := []
  job     : Nat := 0
  grp     : Nat := 0
  redir   : Bool := false
  avoid   : Option Nat := none
  seg     : Option (Nat × Nat) := none
  mseg    : Option (Nat × Nat) := none
  stopped : Bool := false
  final   : Option Nat := none
  number  : Nat := 0
  dstF    : Nat := 0
  tracks  : Nat := 1
  packed  : Bool := false
  n       : Nat := 2
  rate    : Nat := 1
  epoch   : Int := 0
  deriving DecidableEq, Repr

/-- A replay's running state (12 R494, R510). `filled` names the staged CAP_REPLAYs of it whose read-ahead is filled (R493). -/
structure ReplayRun where
  st      : Nat := 0
  gaps    : Sat := {}
  under   : Sat := {}
  filled  : List Nat := []
  deriving DecidableEq, Repr

/-- The Capture Store. -/
structure Capture where
  drives  : Tab Drive := []        -- drive slots 0-3 | 12 R476, R506 | no drive
  vol     : Nat := 0               -- volume STATE | 12 R505 | 0x0
  mirr    : Bool := false          -- volume is mirrored | 12 R505 | 0
  mask    : Nat := 0               -- DRIVE_MASK of the mounted volume | 12 R505 | 0
  volId   : Nat := 0               -- VOLUME_ID of the mounted volume | 12 R478 | 0
  alarm   : Bool := false          -- fill alarm flag | 12 R495 | 0
  full    : Bool := false          -- FULL | 12 R496 | 0
  policy  : Nat := 0               -- full-volume policy | 12 R496 | 0x0
  jrnDone : Bool := false          -- journal replayed at the last mount | 12 R505 | 0
  opened  : Bool := false          -- a segment has opened since the mount | 12 R501 | 0
  segs    : List Seg := []         -- segments in use | 12 R479 | none
  marks   : Tab Nat := []          -- capture journal in MRAM: last mark of each open segment, at 2^32 x drive + index | 12 R486, R501 | empty (DC 3)
  seq     : Nat := 0               -- volume-wide open order | 12 R479 | DC 2
  recNo   : Nat := 0               -- last recording number given out | 12 R484 | DC 2
  jobs    : Tab Job := []          -- jobs 0-15 | 12 R482 | undefined
  groups  : Tab Group := []        -- track groups at 64 x job + group; from 1024 on groups that have stopped and still hold staged ticks | 12 R482, R486 | none
  replays : Tab ReplayRun := []    -- replays 0-15 | 12 R510 | idle
  gaps    : Sat := {}              -- GAP_TICKS, 16 bits, with flag | 12 R505 | 0
  overw   : Sat := {}              -- OVERWRITTEN, 16 bits, with flag | 12 R505 | 0
  redir   : Sat := {}              -- REDIRECTED, 16 bits, with flag | 12 R505 | 0
  depth   : List Nat := []         -- largest staged depth per tick, ms, last 64 ticks | 12 R505 | empty
  gapAt   : Option Nat := none     -- local time of the last tick-not-staged fault | 12 R487 | none
  underAt : Option Nat := none     -- local time of the last replay underrun fault | 12 R494 | none
  deriving DecidableEq, Repr

end Sys2Proof
end

