-- ==== Sys2Proof/Units/Mem.lean ====
section
/-! DEFINITION. State of the Core Fabric, the Heath, delay memory, MRAM and the line table. -/

namespace Sys2Proof

/-- One access of a master to a target, over the fabric or through a home port (07 R270-R273, 08 R287-R291). `kind`: 0 read, 1 write,
2 ATOMIC_ADD, 3 ATOMIC_SWAP, 4 a request for a locked sequence. `n`: beats of 64 bytes, of an atomic operation the bytes of its word.
`mask`: byte lanes written, empty for all. `lock`: it belongs to a locked sequence; `last`: and ends it. What the access meets: `ue`, the
64-bit words, counted from its first, with an uncorrectable error; `ce`, corrected errors; `lost`, the words that the home port writes in
the same cycle; `code`: the words hold the code of a control processor. `eng`: the engine of the Lea for which its slot mover asks (07 R279). -/
structure Access where
  kind : Nat := 0
  m    : Nat := 0
  addr : Nat := 0
  n    : Nat := 1
  data : List Byte := []
  mask : List Bool := []
  lock : Bool := false
  last : Bool := false
  ue   : List Nat := []
  ce   : Nat := 0
  lost : List Nat := []
  code : Bool := false
  home : Bool := false
  eng  : Nat := 0
  deriving DecidableEq, Repr

/-- A locked sequence on a target (07 R282, R283); `iso`: a Plane reset ended it. -/
structure Lock where
  target : Nat
  master : Nat
  beats  : Nat := 0
  iso    : Bool := false
  deriving DecidableEq, Repr

/-- The Core Fabric. -/
structure Fabric where
  remap : Bool := false            -- FAB_CTRL REMAP, 1 bit | 07 R277 | 0
  priLo : Tab Nat := []            -- FAB_PRI_LO_t of 24 targets, 32 bits, where it differs from reset | 07 R275 | 0xAAAA_AAAA
  priHi : Tab Nat := []            -- FAB_PRI_HI_t of 24 targets, 32 bits, where it differs from reset | 07 R276 | 0x0000_23E5
  last  : Tab Nat := []            -- master last granted by each target | 07 R274 | DC 2
  round : Tab (List (Nat × Nat)) := [] -- grants left to each master in the weighted round of a target and level, at 4 x target + level | 07 R279 | none
  locks : List Lock := []          -- locked sequences in progress | 07 R282 | none
  ended : List Lock := []          -- locked sequences ended by a limit, whose later beats abort | 07 R283 | none
  waiting : List Access := []      -- accesses that their target has not granted yet | 07 R274, R282, 08 R293, R294 | none
  isolated : Bool := false         -- isolation wrappers closed | 17 R641 | 0
  deriving DecidableEq, Repr

/-- One Heath bank's registers (08 R300-R303). -/
structure Bank where
  policy : Nat := 0                -- HEATH_CTRL POLICY, 2 bits | 08 R300 | 0x0
  retain : Bool := false           -- HEATH_CTRL RETAIN_WARM | 08 R300 | 0
  pstate : Nat := 3                -- HEATH_STAT PSTATE, 2 bits | 08 R301 | 0x3
  waking : Bool := false           -- leaving Retention | 08 R294 | 0
  ce     : Nat := 0                -- HEATH_ECC CE_COUNT, 16 bits | 08 R302 | 0x0000
  ue     : Nat := 0                -- HEATH_ECC UE_COUNT, 16 bits | 08 R302 | 0x0000
  ceSat  : Bool := false           -- HEATH_STAT CE_SAT, RWS | 08 R301 | 0
  ueSat  : Bool := false           -- HEATH_STAT UE_SAT, RWS | 08 R301 | 0
  ueAt   : List Nat := []          -- local times of its uncorrectable errors | 15 R594 | none
  deriving DecidableEq, Repr

/-- The memories. -/
structure MemSt where
  cells   : List Host.Cell := []   -- bytes of Heath, delay memory, MRAM and xSPI by 40-bit fabric address; an unlisted byte reads 0x00, in the xSPI window 0xFF | 07 R267 | zero (R293, R307; MRAM: DC 3)
  poison  : List Nat := []         -- poisoned 64-bit Heath words, by word address | 08 R291 | none (R299)
  banks   : Tab Bank := []         -- registers of H00-H19 | 08 R300-R303 | reset values
  ready   : Bool := false          -- DRAM_STAT READY | 08 R310 | 0
  zeroing : Bool := false          -- DRAM_STAT ZEROING | 08 R310 | 0
  selfRef : Bool := false          -- DRAM_STAT SELF_REFRESH | 08 R310 | 0
  warmExit : Bool := false         -- DRAM_STAT WARM_EXIT | 08 R310 | 0
  dramCe  : Nat := 0               -- DRAM_ECC CE_COUNT, 16 bits | 08 R311 | 0x0000
  dramUe  : Nat := 0               -- DRAM_ECC UE_COUNT, 16 bits | 08 R311 | 0x0000
  dramOvf : Bool := false          -- DRAM_POISON OVF, RWS | 08 R312 | 0
  dramCeSat : Bool := false        -- DRAM_POISON CE_SAT, RWS | 08 R312 | 0
  dramUeSat : Bool := false        -- DRAM_POISON UE_SAT, RWS | 08 R312 | 0
  dramTab : List Nat := []         -- poison table of 4096 word addresses; ENTRIES is its length | 08 R305, R312 | empty
  dramBad : List Nat := []         -- uncorrectable words that the full table could not list | 08 R305 | none
  used    : List Nat := []         -- regions of delay memory below the line pool that the KD9's own units have used since it was zeroed | 08 R307, R309 | none
  wrote   : List Nat := []         -- bytes of those regions that fabric masters have written since the units last worked there | 08 R309 | none
  kept    : Bool := false          -- delay memory kept in self-refresh while Dormant or Parked | 18 R671, R675 | 0
  deriving DecidableEq, Repr

/-- A delay line (08 R313, R314). -/
structure Line where
  len  : Nat
  cap  : Nat
  base : Nat
  mark : Nat
  deriving DecidableEq, Repr

/-- The line table. -/
structure Lines where
  tab : Tab Line := []             -- line table, 16,384 lines by ID: LENGTH, C, base and write mark | 08 R313, R314 | empty (R738)
  deriving DecidableEq, Repr

end Sys2Proof
end

