-- ==== Sys2Proof/Units/Ctl.lean ====
section
/-! DEFINITION. State of the control plane: the part's fuses, operating mode, Command Processor, Commit Gate, register
window, credentials, audit log and life-cycle. -/

namespace Sys2Proof

/-- What is fused or fitted and never changes. -/
structure Part where
  variant : Variant := .f   -- ordering variant fuses | 00 R2, 01 R44 | DC 4
  dieId   : Nat := 0        -- 64-bit die identifier | 01 R43 | DC 4
  stepMaj : Nat := 0        -- silicon stepping, major, 8 bits | 01 R43 | DC 4
  stepMin : Nat := 0        -- silicon stepping, minor, 8 bits | 01 R43 | DC 4
  dramMiB : Nat := 14336    -- usable LPDDR5X fitted, MiB | 08 R304 | DC 4
  deriving DecidableEq, Repr

/-- The operating mode and the fields of WIN_MODE that are held. -/
structure ModeSt where
  mode    : Nat := 2        -- MODE, 4 bits | 01 R41, R42 | 0x2
  prev    : Nat := 0        -- PREV_MODE, 4 bits | 01 R41 | 0x0
  limp    : Bool := false   -- LIMP | 01 R41 | 0
  parked  : Bool := false   -- PARKED | 01 R41 | 0
  forced  : Bool := false   -- FORCED, RWS | 01 R41 | 0
  dormant : Option Bool := none -- PWR_SET_DORMANT accepted, waiting for its boundary; the value keeps delay memory | 18 R671 | none
  deriving DecidableEq, Repr

/-- A reply in the reply cache of one credential (13 R523). -/
structure Cached where
  role  : Nat
  slot  : Nat
  seq   : Nat
  crc   : Nat
  reply : List Byte
  deriving DecidableEq, Repr

/-- An outer SYS_RELAY or partner reset that waits for an answer (13 R548, 15 R605); `forced` where FORCE was needed for it (13 R550). -/
structure Waiting where
  req  : Req
  node : Nat := 0
  forced : Bool := false
  deriving DecidableEq, Repr

/-- One UDP reassembly in progress on a port (13 R546). -/
structure Reasm where
  port  : Src
  ident : Nat
  got   : List (Nat × List Byte) := []
  last  : Option Nat := none
  deriving DecidableEq, Repr

/-- The Command Processor. -/
structure Cp where
  started  : Bool := false        -- Command Processor started at bring-up step 7 | 01 R32, 17 R648 | 0
  p0       : List Req := []       -- queue P0, 256 deep | 13 R527 | empty (R532)
  p1       : List Req := []       -- queue P1, 256 deep | 13 R527 | empty (R532)
  p2       : List Req := []       -- queue P2, 128 deep | 13 R527 | empty (R532)
  p3       : List Req := []       -- queue P3, 64 deep | 13 R527 | empty (R532)
  p3Wait   : Nat := 0             -- executions from P0-P2 while P3 waited, 0-64 | 13 R528 | DC 2
  acc      : Nat := 0             -- acceptance number, the last given out | 13 R529 | DC 2
  hw0      : Nat := 0             -- HIGH_WATER of P0, 16 bits | 13 R552 | DC 2
  hw1      : Nat := 0             -- HIGH_WATER of P1, 16 bits | 13 R552 | DC 2
  hw2      : Nat := 0             -- HIGH_WATER of P2, 16 bits | 13 R552 | DC 2
  hw3      : Nat := 0             -- HIGH_WATER of P3, 16 bits | 13 R552 | DC 2
  badCrc   : Tab Sat := []        -- BAD_CRC replies per transport (0 PCIe, 1 MG, 2 link, 3 AL0 and AL1), 16 bits each, with flag | 13 R526 | DC 2
  badAuth  : Tab Sat := []        -- BAD_AUTH replies per transport, 16 bits each, with flag | 13 R526 | DC 2
  stale    : Tab Sat := []        -- STALE_SEQUENCE replies per transport, 16 bits each, with flag | 13 R526 | DC 2
  authAt   : Tab (List Nat) := [] -- local times of the recent BAD_AUTH replies per transport | 13 R526 | empty
  authNote : Tab Nat := []        -- local time of the last BAD_AUTH Note fault per transport | 13 R526 | empty
  qFull    : Sat := {}            -- QUEUE_FULL replies, 16 bits, with flag | 13 R552 | DC 2
  authAll  : Sat := {}            -- BAD_AUTH of all transports as SYS_GET_STATUS returns it | 13 R552 | DC 2
  staleAll : Sat := {}            -- STALE of all transports as SYS_GET_STATUS returns it | 13 R552 | DC 2
  cache    : List Cached := []    -- reply cache, 16 replies per credential | 13 R523 | empty
  relays   : List Waiting := []   -- SYS_RELAY requests that wait for their inner reply | 13 R548 | empty
  partner  : List Waiting := []   -- SYS_RESET of the partner that waits for its answer | 15 R605 | empty
  meterWait : List Req := []      -- Sealed Meter operations that the meter has not answered | 19 R709 | empty
  reasm    : List Reasm := []     -- UDP reassemblies, at most 8 per port | 13 R546 | empty
  deriving DecidableEq, Repr

/-- One staged command in the Commit Gate (01 R21, 13 R530). `due` is the boundary it binds at, or, with `alm`, the Almanac
entry it waits on; `want` is the APPLY_AT it was sent with; `quiet` marks a change that is bound at a boundary without a
reply of its own (06 R256, R261, 09 R362); `note` holds what execution chose for it (the ports of a placed flow); `rank`: 0, or one more than the Almanac
entry whose firing binds it (11 R467, R469). -/
structure Staged where
  req    : Req
  due    : Nat
  alm    : Option Nat := none
  want   : Nat := 0
  quiet  : Bool := false
  key    : List Byte := []
  mirr   : Bool := false
  forced : Bool := false
  payload : List Byte := []
  note   : List Nat := []
  met    : Bool := false
  rank   : Nat := 0
  deriving DecidableEq, Repr

/-- The Commit Gate: staged records; the live copy is the pipeline's configuration. -/
structure Gate where
  staged : List Staged := []      -- staged records in order of execution | 01 R21, 02 R71 | empty (R532)
  first  : Option Nat := none     -- first tick F of the last TIME_SET_EPOCH, with which Sward records take length 1 | 11 R457, 03 R102 | none
  frozen : Bool := false          -- commits frozen by the shut-down sequence | 18 R672 | 0
  lastT  : Nat := 0               -- while frozen, the boundary in progress, the last to bind sets | 18 R672 | 0
  deriving DecidableEq, Repr

/-- The PCIe register window and mailbox rings. -/
structure Win where
  reqBase : Nat := 0              -- WIN_REQ_BASE_LO/HI, 64 bits, 4 KiB aligned | 13 R539 | 0
  rplBase : Nat := 0              -- WIN_RPL_BASE_LO/HI, 64 bits, 4 KiB aligned | 13 R539 | 0
  reqEn   : Bool := false         -- WIN_REQ_CTRL ENABLE | 13 R540 | 0
  reqSize : Nat := 4              -- WIN_REQ_CTRL SIZE, 4 bits | 13 R540 | 0x4
  rplEn   : Bool := false         -- WIN_RPL_CTRL ENABLE | 13 R540 | 0
  rplSize : Nat := 4              -- WIN_RPL_CTRL SIZE, 4 bits | 13 R540 | 0x4
  reqProd : Nat := 0              -- WIN_REQ_PROD, 16 bits | 13 R541 | DC 2
  reqCons : Nat := 0              -- WIN_REQ_CONS, 16 bits | 13 R541 | DC 2
  rplProd : Nat := 0              -- WIN_RPL_PROD, 16 bits | 13 R541 | DC 2
  rplDone : Nat := 0              -- WIN_RPL_DONE, 16 bits | 13 R541 | DC 2
  fetched : List (List Byte × Option (List Byte)) := [] -- request descriptors announced and not yet fetched, each with what its buffer holds | 13 R542, R543 | empty
  posted  : List (Nat × Nat × Bool) := []   -- reply buffers posted and not yet used: address, size, whether it can be written | 13 R542, R543 | empty
  waiting : List (List Byte) := []          -- replies waiting in H16 for a posted buffer | 13 R543 | empty
  stMode  : Bool := false         -- WIN_INT_STAT MODE, W1C | 13 R544 | 0
  seen    : Nat := 2              -- WIN_MODE as last compared, against which a change sets MODE | 13 R544 | 0x2 (01 R41)
  stRing  : Bool := false         -- WIN_INT_STAT RING_ERR, W1C | 13 R544 | 0
  stReply : Bool := false         -- WIN_INT_STAT REPLY, W1C | 13 R544 | 0
  intEn   : Nat := 0              -- WIN_INT_EN, 5 bits | 13 R545 | 0
  msixEn  : Bool := false         -- MSI-X enabled in configuration space | 13 R545 | DC 2
  capsOn  : Bool := false         -- option loader has finished, so the WIN_CAPS words show | 01 R46 | 0
  deriving DecidableEq, Repr

/-- One audit record as written (14 R567); `returned` once AUDIT_READ gave it out. -/
structure Audit where
  bytes    : List Byte
  returned : Bool := false
  deriving DecidableEq, Repr

/-- Credentials, audit log, life-cycle and tamper state. -/
structure Sec where
  keys     : Tab (List Byte) := []  -- 24 credential slots, a 32-byte key or empty, at 8 x role + slot | 14 R558 | all empty (R570)
  lastSeq  : Tab Nat := []          -- last accepted sequence L, 32 bits, per credential | 13 R521, R522 | 0
  work     : Tab (List Byte) := []  -- working copies of the keys in the secure region | 14 R558 | zero (08 R297)
  trust    : Nat := 0               -- Local Trust ceiling | 14 R563 | 0x0
  lc       : Nat := 0               -- life-cycle state | 14 R570 | DC 3
  log      : Tab Audit := []        -- audit log ring, 16,384 records of 64 bytes, by number of records before | 14 R566 | empty (DC 3)
  base     : Nat := 0               -- records written before the part left Blank, from which INDEX counts | 14 R567 | 0 (DC 3)
  next     : Nat := 0               -- records ever written; next audit INDEX is next - base, 64 bits | 14 R567 | 0 (DC 3)
  ovf      : Sat := {}              -- audit overflow counter, 16 bits, with flag | 14 R569 | 0 (DC 3)
  unlogged : Sat := {}              -- unlogged operator requests, 32 bits, with flag | 14 R566 | 0 (DC 3)
  resp1    : Nat := 1               -- tamper response of source 0x1 | 14 R574 | 0x1
  resp2    : Nat := 1               -- tamper response of source 0x2 | 14 R574 | 0x1
  resp3    : Nat := 1               -- tamper response of source 0x3 | 14 R574 | 0x1
  level    : Nat := 0               -- present level of each tamper source, bits 1-3 | 14 R576 | DC 2
  fired    : Nat := 0               -- tamper sources that fired and are not re-armed, bits 1-3 | 14 R574 | DC 2
  region   : Bool := false          -- secure region holds working keys (bring-up step 6 done) | 14 R558 | 0
  deriving DecidableEq, Repr

end Sys2Proof
end

