-- ==== Sys2Proof/Units/Slots.lean ====
section
/-! DEFINITION. The fields of an engine bundle's two slots (04 R130-R132), as the commands of the engine rows carry them. -/

namespace Sys2Proof

/-- The fields of an M-slot operation beside its code (04 R131), and what its access finds: 64-bit words of the state block with
an uncorrectable error, by number, the count of correctable errors, and an uncorrectable error at its fetch (04 R126-R128). -/
structure MArgs where
  pe : Bool := false
  pn : Bool := false
  pq : Nat := 0
  md : Nat := 0
  ma : Nat := 0
  mb : Nat := 0
  mi : Nat := 0
  ue : List Nat := []
  ce : Nat := 0
  fe : Bool := false
  deriving DecidableEq, Repr

/-- The fields of an L-slot operation beside its code (04 R132), and what its access finds, as in `MArgs`; `late`: the
window it reads is not yet filled (04 R158). -/
structure LArgs where
  pe : Bool := false
  pn : Bool := false
  pq : Nat := 0
  ld : Nat := 0
  lp : Nat := 0
  lx : Nat := 0
  ue : List Nat := []
  ce : Nat := 0
  fe : Bool := false
  late : Bool := false
  deriving DecidableEq, Repr

/-- An M-slot operation: MOP and its fields; MOP 0x00 is NOP. -/
structure MSlot where
  op : Nat := 0
  x  : MArgs := {}
  deriving DecidableEq, Repr

/-- An L-slot operation: LOP and its fields; LOP 0x00 is NOP. -/
structure LSlot where
  op : Nat := 0
  x  : LArgs := {}
  deriving DecidableEq, Repr

/-- A bundle: format, both slots and the long immediate (04 R130). -/
structure Bundle where
  fmt : Nat := 0
  m   : MSlot := {}
  l   : LSlot := {}
  imm : Nat := 0
  deriving DecidableEq, Repr

end Sys2Proof
end

