-- ==== Sys2Proof/Units/Engine.lean ====
section
/-! DEFINITION. State of the engines, the chains and the Placement Unit. -/

namespace Sys2Proof

/-- A pointer register: address, base and length, 18 bits each (04 R119). -/
structure Ptr where
  addr : BitVec 18 := 0
  base : BitVec 18 := 0
  len  : BitVec 18 := 0
  deriving DecidableEq, Repr

/-- A loop in progress: its counter, its first bundle, the bundle after its last, and the passes left (04 R153). -/
structure LoopSt where
  lc    : Nat
  start : Nat
  stop  : Nat
  left  : Nat
  deriving DecidableEq, Repr

/-- The architectural registers of an engine (04 R119); a register not listed holds zero. -/
structure Regs where
  v  : Tab (Oct W32) := []         -- V0-V31, 8 lanes of 32 bits | 04 R119 | zero (R120)
  a  : Tab (Oct A80) := []         -- A0-A7, 8 lanes of 80 bits | 04 R119 | zero (R120)
  s  : Tab W32 := []               -- S0-S31, 32 bits | 04 R119 | zero (R120)
  p  : Tab Ptr := []               -- P0-P6, three 18-bit parts; P7 reads zero | 04 R119 | zero (R120)
  lc : Tab Nat := []               -- LC0, LC1, 16 bits | 04 R119 | zero (R120)
  q  : Tab Bool := []              -- Q0-Q3, 1 bit | 04 R119 | zero (R120)
  deriving DecidableEq, Repr

/-- One engine. -/
structure Engine where
  pst      : Nat := 0              -- placement state: 0 Fallow, 1 Active, 2 Suspect, 3 Out of service | 05 R193, R235 | Fallow
  waking   : Bool := false         -- being woken | 04 R118 | 0
  regs     : Regs := {}            -- the architectural registers | 04 R119 | zero (R120)
  pc       : Nat := 0              -- byte offset of the next bundle in the chain's code | 04 R137, R168 | 0
  loops    : List LoopSt := []     -- loops in progress, innermost first | 04 R153 | none
  todo     : List Nat := []        -- chains of the run list still to run in this tick | 04 R168 | empty
  cur      : Nat := 0              -- handle of the chain now running, zero for none | 04 R168 | none
  cycles   : Nat := 0              -- handshake cycles of the chain's tick so far | 04 R136, R174 | 0
  used     : Nat := 0              -- handshake cycles of the chains that ended in this tick | 05 R190 | 0
  journal  : Tab (List (Nat × Byte) × List Nat) := [] -- undo journal: the lines' bytes and poison marks at the start of the tick | 04 R171 | empty
  marks    : List Nat := []        -- per-tick marks of 256-byte lines | 04 R170 | clear
  outWin   : Tab W32 := []         -- output windows, by 32 x binding + position | 04 R154, R157 | zero
  lineWin  : Tab W32 := []         -- line-write windows, by 32 x binding + position | 04 R154, R157 | zero
  swapWait : Bool := false         -- the chain's swapped block, or the final copy of a twin run, has not arrived | 04 R172, 05 R211 | 0
  before   : Tab Byte × List Nat := ([], []) -- block and poison marks of the current chain at the end of its last tick | 04 R180 | none
  start    : List Nat := []        -- poison marks of the current chain's block as its tick began | 04 R172 | none
  stalled  : Option Bundle := none -- the bundle at which the engine stalls for a window | 04 R158 | none
  missTick : Nat := 0              -- chain misses in this tick | 05 R190 | 0
  slack    : List Nat := []        -- slack of the ticks of this period, newest first | 05 R190, R191 | none
  missPer  : Nat := 0              -- misses in this period, 16 bits | 05 R235 | 0
  failPer  : Nat := 0              -- tick failures in this period | 05 R191 | 0
  fig      : Option (Nat × Nat × Nat) := none -- SLACK_AVG, SLACK_P10 and MISSES of the last completed period | 05 R235 | none (1000, 1000, 0)
  parkEnd  : Nat := 0              -- chains parked at the end of the last completed period | 05 R235 | 0
  missRun  : Nat := 0              -- consecutive periods with misses | 05 R205, 15 R594 | 0
  removed  : Nat := 0              -- measured cycles of the chains removed since the last completed period | 05 R739 | 0
  passRun  : Nat := 0              -- consecutive self-test slices passed | 05 R221 | 0
  mismatch : List Nat := []        -- periods of its COMPARE_MISMATCH aborts | 05 R218 | none
  ueAt     : List Nat := []        -- local times of its uncorrectable local-store errors | 05 R218, 15 R594 | none
  uePer    : Nat := 0              -- uncorrectable local-store errors in this period | 05 R218 | 0
  ce       : Nat := 0              -- corrected local-store events | 04 R126 | DC 2
  store    : Tab Byte := []        -- bytes that fabric writes put into the local store where no chain's code or block stands, by offset | 04 R123, R124 | zero (R118)
  touched  : Bool := false         -- units of the KD9 have used the local store since it was zeroed | 04 R118, R154, R172 | 0
  bad      : List Nat := []        -- poisoned words of the local store where no chain's code or block stands, by offset / 8 | 04 R126 | none
  woken    : Bool := false         -- woken since the last completed period | 05 R739 | 0
  testAt   : Option Nat := none    -- local time of the last self-test slice | 15 R591 | none
  deriving DecidableEq, Repr

/-- One chain as loaded (04 R181-R188). -/
structure Chain where
  st       : Nat := 1              -- chain state of R185 | 04 R185 | Loading when begun
  desc     : Desc := {}            -- descriptor, pin and affinity as changed since | 04 R163, 05 R203 | as loaded
  image    : Tab Byte := []        -- code image bytes in the home bank of its Lea | 04 R127 | as loaded
  code     : Tab Byte := []        -- code bytes in the instruction store of its engine | 04 R123, R127 | the image
  codeGot  : List (Nat × Nat) := [] -- code ranges supplied | 04 R182 | none
  init     : Tab Byte := []        -- initial-state image bytes | 04 R182 | zero
  blk      : Tab Byte := []        -- state block bytes | 04 R163, R171 | the initial state
  poison   : List Nat := []        -- poisoned 64-bit words of the state block | 04 R128 | none
  badCode  : List Nat := []        -- code words with an uncorrectable error, until rewritten | 04 R127 | none
  engine   : Nat := 0xFFFF         -- engine now running the chain | 04 R184 | 0xFFFF
  swap     : Option Nat := none    -- Heath bank that holds the swapped state block | 04 R172, 05 R225 | none
  misses   : Sat := {}             -- miss counter, 16 bits, with flag | 02 R80 | 0
  fails    : Sat := {}             -- fail counter, 16 bits, with flag | 04 R169 | 0
  overrun  : Bool := false         -- sticky OVERRUN flag | 04 R174 | 0
  cycLast  : Nat := 0              -- CYCLES_LAST, 32 bits | 04 R184 | 0
  cycMax   : Nat := 0              -- CYCLES_MAX, 32 bits | 04 R184 | 0
  cycPer   : Nat := 0              -- largest cycles in this period | 05 R191 | 0
  cycBest  : Option Nat := none    -- largest measured cycles in a completed period | 05 R739 | none
  added    : Bool := true          -- added to its engine since the last completed period | 05 R739 | 1
  parked   : Bool := false         -- parked | 04 R177 | 0
  parkTicks : Nat := 0             -- PARKED_TICKS, 32 bits | 04 R184 | 0
  quiet    : Nat := 0              -- consecutive quiet sample ticks | 04 R177 | 0
  first    : Option Nat := none    -- first sample tick, once bound | 04 R180, R188 | none
  stop     : Option Nat := none    -- apply-at tick of a bound unload | 04 R181 | none
  prev     : Nat := 1              -- state before the unload was staged | 04 R187, R188 | 1
  ran      : Bool := false         -- the chain has run | 04 R181 | 0
  params   : List (Nat × List (Nat × List Byte)) := [] -- words bound at T and not yet written into the block: (T, byte offset and bytes) | 04 R175 | none
  delays   : List (Nat × List (Nat × Nat)) := [] -- tap delays bound at T and not yet in force | 04 R162 | none
  taps     : List Nat := []        -- tap delays in force | 04 R162 | the descriptor's
  cum      : List Nat := []        -- cumulative marks of 256-byte lines | 04 R170 | clear
  placedAt : Nat := 0              -- period since which the chain is on its engine | 05 R201 | as placed
  abortAt  : Option Nat := none    -- period of its last abort | 05 R201 | none
  abortTo  : Nat := 0xFFFF         -- destination of its consecutive aborts | 05 R201 | none
  aborts   : Nat := 0              -- consecutive aborts towards that destination | 05 R201 | 0
  excluded : Tab Nat := []         -- engines excluded for the chain and the period until which | 05 R201 | none
  evacFail : Nat := 0              -- aborted evacuations from its Suspect engine | 05 R219 | 0
  displaced : Bool := false        -- displaced from its pin with event 0x05 | 05 R205 | 0
  pinWait  : Bool := false         -- its migration to a new pin has aborted and the pin is not yet reached | 05 R204 | 0
  pinReq   : Option Req := none    -- CHAIN_SET_PLACEMENT whose reply waits for its migration to start | 05 R204 | none
  skip     : Bool := false         -- its next run counts as a failed tick (R220) | 05 R220 | 0
  deriving DecidableEq, Repr

/-- The engines and chains together. -/
structure Eng where
  engines : Tab Engine := []       -- E000-E191 | 04 R119, 05 R193 | Fallow
  chains  : Tab Chain := []        -- loaded chains by handle 0x0001-0x0FFF | 04 R181 | none
  runList : Tab (List Nat) := []   -- run list of each engine | 04 R168, 05 R207 | empty
  twins   : Tab Chain := []        -- a migrating chain's copy on its destination engine, by handle | 05 R211 | none
  deriving DecidableEq, Repr

/-- The policy block (05 R194). -/
structure PlacePolicy where
  freeze : Nat := 0
  slackTarget : Nat := 100
  slackEmerg : Nat := 30
  packMargin : Nat := 100
  thermTarget : Nat := 95
  thermEmerg : Nat := 105
  maxMigr : Nat := 4
  copierRate : Nat := 38
  residence : Nat := 16
  swapMiB : Nat := 2
  flags : Nat := 3
  deriving DecidableEq, Repr

/-- One migration or admission copy in progress (05 R209, R211, R207). `phase`: 0 pre-copy, 1 converged and waiting for the
final copy, 2 final copy done, 3 admission copy. `lines`: the lines that the pre-copy round in progress copies. `bank`: the bank of the
block on the destination where it is swapped there. `mine`, `other`: output and line-write windows and the lines stored to of the source's
run of the sample tick and of the destination's, the compare buffer; `bad`: the destination missed or failed it. -/
structure Migr where
  handle : Nat
  src    : Nat
  dst    : Nat
  emerg  : Bool := false
  forPin : Bool := false
  start  : Nat := 0
  phase  : Nat := 0
  rounds : Nat := 0
  commit : Nat := 0
  parked : Nat := 0
  failed : Bool := false
  lines  : List Nat := []
  bank   : Option Nat := none
  mine   : Option (Tab W32 × Tab W32 × List Nat) := none
  other  : Option (Tab W32 × Tab W32 × List Nat) := none
  bad    : Bool := false
  deriving DecidableEq, Repr

/-- The Placement Unit. -/
structure Place where
  policy  : PlacePolicy := {}      -- the policy block, 32 bytes | 05 R194 | defaults (R196)
  next    : Option PlacePolicy := none -- policy accepted for the next period boundary | 05 R195 | none
  hold    : Bool := false          -- the Management Processor holds the freeze | 05 R194, R230 | 0
  period  : Nat := 0               -- decision periods completed | 05 R197 | 0
  migr    : List Migr := []        -- migrations in progress, oldest first | 05 R210 | none
  log     : Tab (List Byte × Bool) := [] -- event log, 4096 records of 16 bytes by index, and whether each was read | 05 R236 | empty
  idx     : Nat := 0               -- index of the next event record, 32 bits | 05 R238 | 0
  ovf     : Sat := {}              -- event log overflow counter, 16 bits, with flag | 05 R236 | 0
  stats   : Tab Sat := []          -- the fifteen counters of R239, 16 bits each, with flags | 05 R239 | 0
  leaTemp : Tab Int := []          -- Lea temperatures, degrees C | 05 R191, 18 R679 | DC 2
  occ     : Tab Nat := []          -- average occupancy per fabric target, per mille (FAB_OCC_t) | 07 R285 | 0
  drvQ    : Tab Nat := []          -- average queue depth per drive of the last period | 05 R233, 12 R506 | DC 2
  deriving DecidableEq, Repr

end Sys2Proof
end

