-- ==== Sys2Proof/Units/Clock.lean ====
section
/-! DEFINITION. State of the clean-up and time unit: local clock, candidates, servo, PTP, PULSE outputs, timestamps, Almanac. -/

namespace Sys2Proof

/-- A CLK_SET_REF block (11 R436). -/
structure RefCfg where
  flags    : Nat := 0
  prio     : Nat := 15
  type     : Nat := 0
  nominal  : Nat := 0
  phaseOff : Int := 0
  accPpm   : Nat := 10
  rejPpm   : Nat := 25
  accS     : Nat := 2
  missE    : Nat := 3
  stampDiv : Nat := 0
  deriving DecidableEq, Repr

/-- A candidate's monitors (11 R432, R433). -/
structure Cand where
  cfg    : RefCfg := {}            -- CLK_SET_REF block | 11 R436 | disabled
  qual   : Bool := false           -- Qualified | 11 R433 | 0
  ppb    : Option Int := none      -- last frequency reading, ppb from nominal | 11 R432 | none
  locked : Bool := false           -- the servo has been Locked to it | 11 R439 | 0
  missed : Nat := 0                -- consecutive missing edges | 11 R432 | 0
  came   : Nat := 0                -- edges of the current tick that came or were counted as missing, of a receiver or port without lock | 11 R435 | 0
  good   : Nat := 0                -- updates of 100 ms within ACCEPT_PPM without a missing edge | 11 R433 | 0
  edges  : Nat := 0                -- selected edges since the configuration | 11 R463 | 0
  frame  : Option Nat := none      -- frame of the video sequence that the last pulse due began, once one was aligned | 11 R442 | none
  stamps : List Nat := []          -- timestamp queue, 16 (REFIN inputs) | 11 R463 | empty
  drops  : Sat := {}               -- stamps dropped, 16 bits, with flag | 11 R464 | 0
  deriving DecidableEq, Repr

/-- A PULSE_CONFIG block (11 R460); of REFIN sources the event count, the last 16 timestamped edges, and the edges that DIVIDE selects whose pulse
is still to come, each with its event number (11 R461). -/
structure Pulse where
  source : Nat := 0
  flags  : Nat := 0
  rate   : Nat := 0
  divide : Nat := 1
  offset : Int := 0
  width  : Nat := 10
  edges  : Nat := 0
  times  : List Nat := []
  sel    : List (Nat × Nat) := []
  deriving DecidableEq, Repr

/-- An Almanac entry as written (11 R465), its remaining COUNT, next time and the Calendar count of its last firing. -/
structure Alm where
  raw    : List Byte := []
  action : Nat := 0
  tick   : Bool := false
  start  : Nat := 0
  period : Nat := 0
  count  : Nat := 0
  arg    : Nat := 0
  left   : Nat := 0
  next   : Option Nat := none
  last   : Nat := 0
  late   : Bool := false
  deriving DecidableEq, Repr

/-- PTP_CONFIG and the state of the ordinary clock (11 R448-R450). -/
structure Ptp where
  raw     : List Byte := []        -- PTP_CONFIG block, 16 bytes | 11 R449 | DC 2 (none)
  state   : Nat := 0               -- port state: 0 disabled, 1 listening, 2 uncalibrated, 3 slave, 4 master | 11 R434, R448 | DC 2
  gm      : Nat := 0               -- grandmaster identity | 11 R450 | DC 2
  best    : List Byte := []        -- data set of the master followed, as its Announce gives it | 11 R448 | none
  parent  : Nat := 0               -- port identity of the master followed, 80 bits | 11 R448 | DC 2
  twoStep : Option (Nat × Nat × Int) := none -- sequence, arrival and correction of a two-step Sync that waits for its Follow_Up | 11 R448 | none
  corr    : Int := 0               -- corrections of the last Sync and its Follow_Up, ns | 11 R448 | DC 2
  offset  : Int := 0               -- last measured offset from the master, ns | 11 R448 | DC 2
  delay   : Int := 0               -- last measured mean path delay, ns | 11 R448 | DC 2
  t1      : Nat := 0               -- Sync departure timestamp | 11 R448 | DC 2
  t2      : Nat := 0               -- Sync arrival timestamp | 11 R448 | DC 2
  t3      : Nat := 0               -- Delay_Req departure timestamp | 11 R448 | DC 2
  seq     : Nat := 0               -- sequence of the next message sent | 11 R448 | DC 2
  deriving DecidableEq, Repr

/-- The time unit. -/
structure Clock where
  pll     : Bool := false          -- clean-up PLL locked or free running | 11 R455, 17 R648 | 0
  now     : Nat := 1577836837000000000 -- local clock, 48-bit seconds and 32-bit ns, as ns | 11 R428, R455 | 1,577,836,837 s
  epoch   : Int := 1577836837000000000 -- EPOCH, 80-bit signed ns | 11 R455 | 1,577,836,837 s
  w       : Int := 0               -- DCO word, signed ppt | 11 R429 | DC 2
  sub     : Nat := 0               -- how far beyond `now` the last 250 MHz cycle reached, in 2^-48 ns; its low 16 bits are the residue of the noise shaping | 11 R428, R429 | 0
  cycles  : Nat := 0               -- 250 MHz cycles since the clock started | 11 R428 | 0
  wSum    : Int := 0               -- w held over the second so far, in ppt ns | 11 R445 | 0
  wNs     : Int := 0               -- the time of it, ns | 11 R445 | 0
  state   : Nat := 0               -- CLK_STAT STATE, 3 bits | 11 R441, R470 | 0x0
  sel     : Nat := 0xF             -- CLK_STAT SELECTED, 4 bits | 11 R470 | 0xF
  unset   : Bool := true           -- CLK_STAT TIME_UNSET | 11 R470 | 1
  hoShort : Bool := false          -- CLK_STAT HO_SHORT | 11 R470 | 0
  hist    : Nat := 0               -- CLK_HIST, 32 bits, RWS | 11 R471 | 0x0000_0000
  intEn   : Nat := 0               -- CLK_INT_EN, 32 bits | 11 R472 | 0
  cands   : Tab Cand := []         -- candidates 0x0-0xC | 11 R432 | disabled
  mode    : Nat := 0               -- CLK_SET_SELECT MODE | 11 R438, R440 | DC 2
  forced  : Nat := 0               -- CLK_SET_SELECT FORCED | 11 R440 | DC 2
  limit   : Nat := 10000000        -- DCO_LIMIT, ppt | 11 R440 | 10,000,000
  trim    : Int := 0               -- FREERUN_TRIM, signed ppt | 11 R440 | 0
  jump    : Nat := 1000            -- JUMP_THRESHOLD, ns | 11 R440 | 1000
  hoUnc   : Nat := 40              -- HO_UNCERT, ppt | 11 R447 | 40
  hoAge   : Nat := 10              -- HO_AGING, 0.001 ppt/s | 11 R447 | 10
  hoLim   : Nat := 1000            -- HO_LIMIT, ns | 11 R447 | 1000
  means   : List (Nat × Int) := [] -- means of w over each Locked second with its end, newest first, 80 kept | 11 R445 | empty
  spread  : Nat := 0               -- peak-to-peak spread of the means used, ppt | 11 R447 | 0
  hoDone  : Bool := false          -- the holdover timer has reached HO_LIMIT | 11 R447 | 0
  err     : Option Int := none     -- last servo error, ns of phase or ppb of frequency | 11 R444, R452 | none
  hoFrom  : Option Nat := none     -- local time at which Holdover began | 11 R447 | none
  within  : Option Nat := none     -- local time since which the error lies within the lock limit | 11 R444 | none
  phase   : Option Int := none     -- last servo phase error, signed ns | 11 R452, R458 | none
  fresh   : Bool := true           -- the next measurement is the first after selection | 11 R452 | 1
  estab   : Bool := false          -- time is established | 11 R451 | 0
  stepped : Bool := false          -- time was stepped to the PTP master's time | 11 R451, R474 | 0
  ptp     : Ptp := {}              -- PTP ordinary clock | 11 R448 | disabled
  pulses  : Tab Pulse := []        -- PULSE0-PULSE3 | 11 R460 | off (R475)
  pulseNew : Tab (Nat × Pulse) := [] -- PULSE_CONFIG blocks that wait for their first event, with the time of their reply | 11 R462 | none
  alm     : Tab Alm := []          -- Almanac, 32 entries | 11 R465 | empty (R475)
  deriving DecidableEq, Repr

end Sys2Proof
end

