-- ==== Sys2Proof/Units/Faults.lean ====
section
/-! DEFINITION. State of the Fault Collector, of reset, bring-up, firmware, settings and options, and of power. -/

namespace Sys2Proof

/-- The first-error capture WIN_FF0 to WIN_FF6 (16 R617-R620). -/
structure FirstFault where
  valid  : Bool := false           -- WIN_FF0 VALID, W1C | 16 R618 | 0
  more   : Bool := false           -- WIN_FF0 MORE | 16 R618 | 0
  cls    : Nat := 0                -- WIN_FF0 CLASS, 2 bits | 16 R618 | 0x0
  id     : Nat := 0                -- WIN_FF0 FAULT_ID, 16 bits | 16 R618 | 0x0000
  detail : Nat := 0                -- WIN_FF1 ADDR_LO and WIN_FF2 ADDR_HI, 40 bits | 16 R619, R620 | 0
  master : Nat := 0                -- WIN_FF2 MASTER, 5 bits | 16 R619 | 0x00
  target : Nat := 0                -- WIN_FF2 TARGET, 5 bits | 16 R619 | 0x00
  access : Nat := 0                -- WIN_FF2 ACCESS, 4 bits | 16 R619 | 0x0
  resp   : Nat := 0                -- WIN_FF2 RESP, 3 bits | 16 R619 | 0x0
  cal    : Nat := 0                -- WIN_FF3 and WIN_FF4, 48 bits | 16 R620 | 0
  ns     : Nat := 0                -- WIN_FF5 TIME_NS, 32 bits | 16 R620 | 0
  sec    : Nat := 0                -- WIN_FF6 TIME_S, 32 bits | 16 R620 | 0
  deriving DecidableEq, Repr

/-- A fault injection in progress (16 R627). -/
structure Inject where
  id     : Nat
  left   : Nat
  gap    : Nat := 0
  detail : Nat := 0
  allow  : Bool := false
  deriving DecidableEq, Repr

/-- The Fault Collector. -/
structure Collector where
  ff      : FirstFault := {}       -- first-error capture | 16 R617 | clear
  log     : Tab (List Byte × Bool × Bool) := [] -- fault log, 8192 records of 32 bytes by INDEX; whether interrupting and whether returned | 16 R622 | empty (DC 3)
  next    : Nat := 0               -- records ever written; next INDEX is next - base, 32 bits | 16 R622 | 0
  base    : Nat := 0               -- number of records ever written before the last Cold reset, from which INDEX counts | 16 R622 | 0
  due     : Nat := 0               -- deepest reset named by the faults of the step in progress, zero between steps | 16 R612 | 0
  rel     : Nat := 0               -- ID of a fault of the step in progress that asks for a relinquish; zero between steps | 16 R612 | 0
  ack     : Nat := 0               -- acknowledged index, 32 bits | 16 R613 | next INDEX
  ovf     : Sat := {}              -- log overflow counter, 16 bits, with flag | 16 R624 | 0
  counts  : Tab Sat := []          -- counter of each fault ID, 16 bits, with flag | 16 R624 | 0
  logAt   : Tab Nat := []          -- local time of the last record of each fault ID | 16 R623 | none
  supp    : List Nat := []         -- fault IDs suppressed since their last record | 16 R623 | none
  react   : Tab Nat := []          -- REACTION byte of each fault ID where FAULT_SET_REACTION changed it | 16 R611 | defaults of R608
  fstate  : Bool := false          -- fault state | 16 R614 | 0
  recov   : Sat := {}              -- recovery counter, 16 bits, with flag | 16 R614 | 0
  quiet   : Nat := 500             -- QUIET, ms | 16 R614 | 500
  shed    : Nat := 0               -- shedding level | 16 R626 | 0x0
  inject  : Option Inject := none  -- injection in progress | 16 R627 | none
  aliveM  : Nat := 0               -- WIN_ALIVE_CFG MODE, 2 bits | 16 R616 | 0x0
  aQuiet  : Bool := false          -- ALIVE stopped for QUIET after a Degraded fault | 16 R616 | 0
  beat    : Bool := false          -- Management Processor heartbeat within the last 1 ms | 16 R615 | 0
  tickOk  : Bool := false          -- a tick has begun within the last 1 ms | 16 R615 | 0
  deriving DecidableEq, Repr

/-- The fields of an option-byte copy (17 R643). The two copies themselves are bytes of MRAM (R643). -/
structure Opt where
  resetMap : Nat := 0
  strapMode : Nat := 0
  strapVal : Nat := 0
  gen      : Nat := 0
  sliceM   : Nat := 0
  sliceT   : Nat := 0
  dramRate : Nat := 0
  xspi     : Nat := 0
  deriving DecidableEq, Repr

/-- A firmware image slot (17 R648, R660): 0 invalid, 1 valid, 2 receiving. -/
structure Image where
  state   : Nat := 0               -- STATE_A or STATE_B | 17 R660 | 0 (DC 3)
  version : Nat := 0               -- VERSION, 32 bits | 17 R660 | 0 (DC 3)
  len     : Nat := 0               -- image length of the transfer | 17 R653 | 0
  schema  : Nat := 0               -- settings schema the image writes | 17 R648 | 0 (DC 3)
  deriving DecidableEq, Repr

/-- The operating parts of the boot path: option bytes, straps, boot record, images and bring-up progress. -/
structure Boot where
  depth   : Nat := 4               -- WIN_RSTCAUSE DEPTH, 3 bits | 17 R638 | 0x4
  cause   : Nat := 1               -- WIN_RSTCAUSE bits [15:0], W1C | 17 R638 | 0x0001
  step    : Nat := 1               -- bring-up step in progress, 1-8; 9 when done | 17 R648 | 1
  halted  : Bool := false          -- held in reset: `rising`, `pinLow` or `hot`, or Off | 17 R634-R636, 20 R723 | 1 after power-on, here released
  rising  : Bool := false          -- the power-on reset waits for the rails | 20 R723 | 1 after power-on, here ended
  pinLow  : Bool := false          -- RESET_N held low | 17 R636 | 0
  hot     : Bool := false          -- held for the thermal release | 17 R634 | 0
  trainZ  : Bool := false          -- this bring-up trains and zeroes delay memory | 08 R307, 17 R634 | 1 at Cold
  opt     : Opt := {}              -- option values in force | 17 R644 | fuse-table values
  fromA   : Bool := true           -- the loaded copy was A | 17 R645 | DC 2
  optDef  : Bool := false          -- OPT_DEFAULT | 17 R644, R660 | 0
  pinBoot : Nat := 0               -- BOOT_SEL[1:0] pins | 17 R646, 20 R716 | 0x0 (pull-down)
  pinClk  : Nat := 0               -- CLK_MODE[1:0] pins | 17 R646, 20 R716 | 0x0 (pull-down)
  testEn  : Bool := false          -- TEST_EN pin | 01 R36, 20 R716 | low (pull-down)
  bootSel : Nat := 0               -- effective BOOT_SEL | 17 R646 | 0x0
  clkMode : Nat := 0               -- effective CLK_MODE | 17 R646 | 0x0
  once    : Bool := false          -- BOOT_SEL 0x2 applies to the next boot only | 17 R659 | 0
  imgA    : Image := {}            -- image slot A | 17 R648 | DC 3
  imgB    : Image := {}            -- image slot B | 17 R648 | DC 3
  running : Nat := 2               -- RUNNING: 0 A, 1 B, 2 golden | 17 R660 | DC 2
  fwVer   : Nat := 0               -- FW_VERSION of the running firmware, zero while the boot ROM runs | 01 R43 | 0
  schema  : Nat := 0               -- SCHEMA written by the running firmware | 17 R660 | DC 2
  commit  : Nat := 0xFF            -- boot record: committed slot, 0xFF none | 17 R648, R660 | none (DC 3)
  trial   : Nat := 0xFF            -- boot record: trial slot, 0xFF none | 17 R648, R660 | none (DC 3)
  tries   : Nat := 0               -- boot record: TRIES, 0-3 | 17 R649 | 0 (DC 3)
  healthy : Bool := false          -- the trial boot is healthy | 17 R650 | 0
  badSev  : Bool := false          -- a Severe or Fatal fault arose in the present 60 s of a start mode | 17 R650 | 0
  ignore  : Bool := false          -- settings ignored by BOOT_SEL | 17 R647, R660 | 0
  limp    : Bool := false          -- the start mode is Settings-Limp | 17 R651, R656 | 0
  startRun : Bool := false         -- start mode of the loaded settings is Run | 01 R36 | 0
  waiting : Bool := false          -- data plane start waits under CLK_MODE | 11 R474 | 0
  planeR  : Bool := false          -- a Plane reset is in progress | 17 R640 | 0
  deriving DecidableEq, Repr

/-- The power manager and the shut-down sequence. -/
structure Power where
  fixed   : Bool := false          -- PWR_SET_POLICY FLAGS bit 0 | 18 R668 | 0
  vmin    : Nat := 720             -- VCORE_MIN, mV | 18 R668 | 720
  vmax    : Nat := 900             -- VCORE_MAX, mV | 18 R668 | 900
  vfix    : Nat := 0               -- VCORE_FIXED, mV | 18 R668 | 0
  margin  : Nat := 150             -- LOWER_MARGIN, per mille | 18 R668 | 150
  next    : Option (Bool × Nat × Nat × Nat × Nat) := none -- policy accepted for the next period boundary | 18 R668 | none
  target  : Nat := 0x320           -- PWR_VCORE TARGET, 10 bits, mV | 18 R669 | 0x320
  setp    : Nat := 0x320           -- PWR_VCORE SETPOINT, 10 bits, mV | 18 R669 | 0x320
  slew    : Bool := false          -- PWR_VCORE SLEWING | 18 R669 | 0
  noResp  : Bool := false          -- PWR_VCORE NO_RESPONSE, RWS | 18 R669 | 0
  sent    : Nat := 0x320           -- set point last sent to the regulator, mV | 18 R665 | 0x320
  pend    : Option Nat := none     -- set-point request coalesced within 50 us | 18 R665 | none
  askAt   : Option Nat := none     -- local time of the last AVSBus request | 18 R665 | none
  low     : Nat := 0x320           -- lower of the old and the new target while unconfirmed, mV | 18 R665, R666 | 800
  above   : Nat := 0               -- consecutive periods with every Active engine at or above target plus margin | 18 R664 | 0
  ma      : Nat := 0               -- VCORE_MA as last read, 100 mA units | 18 R679 | DC 72
  watts   : Nat := 0xFFFF          -- TOTAL_W as last read, 0.1 W units | 18 R679 | 0xFFFF (not reported)
  lastShut : Nat := 2              -- LAST_SHUTDOWN | 18 R679 | 0x2
  seq     : Nat := 0               -- SEQUENCE, step of R672 in progress | 18 R679 | 0
  broke   : Nat := 0               -- rails that browned out during the sequence, bit per row of R662 | 18 R674 | 0
  dramOut : Bool := false          -- VDDQ or VDD2H browned out while Parked | 18 R675 | 0
  pwrLow  : Bool := false          -- PWRFAIL_N is low | 18 R672 | 0
  back    : Bool := false          -- PWRFAIL_N returned high before the sequence ended | 18 R675 | 0
  clean   : Bool := false          -- clean-shutdown flag in MRAM | 18 R672, R674 | DC 3
  maxTemp : Int := 0               -- MAX_TEMP as last read, signed degrees C | 18 R679 | DC 72
  deriving DecidableEq, Repr

end Sys2Proof
end

