-- ==== Sys2Proof/Units/Links.lean ====
section
/-! DEFINITION. State of the link ports, flows, directory, groups, rings, audio over IP, MG and the Array Links. -/

namespace Sys2Proof

/-- Status and counters of a link port (10 R423). -/
structure LinkSt where
  state    : Nat := 0              -- STATE: 0 disabled, 1 training, 2 up, 3 down, 4 down by CRC rate | 10 R423 | 0
  badFcs   : Sat := {}             -- BAD_FCS, 16 bits, with flag | 10 R423 | 0
  hopLimit : Sat := {}             -- HOP_LIMIT, 16 bits, with flag | 10 R423 | 0
  unknown  : Sat := {}             -- UNKNOWN, 16 bits, with flag | 10 R423 | 0
  noEntry  : Sat := {}             -- NO_ENTRY, 16 bits, with flag | 10 R423 | 0
  portDown : Sat := {}             -- PORT_DOWN, 16 bits, with flag | 10 R423 | 0
  cutShort : Sat := {}             -- CUT_SHORT, 16 bits, with flag | 10 R423 | 0
  sent     : Sat := {}             -- SENT, 32 bits | 10 R423 | 0
  received : Sat := {}             -- RECEIVED, 32 bits | 10 R423 | 0
  annDrop  : Sat := {}             -- ANNOUNCE_DROP, 16 bits, with flag | 10 R423 | 0
  seq      : Nat := 0              -- SEQ of the next frame out of the port, 16 bits | 10 R376 | DC 2
  ringProt : Bool := false         -- ring port state Protected | 10 R401 | Normal (R427)
  lost     : Bool := false         -- its ring segment is lost | 10 R401 | 0
  badAt    : List Nat := []        -- local times of the frames with a bad FCS of the last second, newest first | 10 R405 | none
  queue    : List Out := []        -- egress queue: frames that wait to be sent, oldest first | 10 R397 | empty
  deriving DecidableEq, Repr

/-- A node directory entry (10 R424); `ports` holds the best hop count heard per arrival port. -/
structure DirEnt where
  pinned : Bool := false
  learnt : Bool := false
  prim   : Nat := 0
  primH  : Nat := 0
  alt    : Nat := 0xFF
  altH   : Nat := 0
  die    : Nat := 0
  ports  : Tab Nat := []
  deriving DecidableEq, Repr

/-- A multicast group entry (10 R400). -/
structure GroupEnt where
  isLocal : Bool := false
  ports   : Nat := 0
  protect : Nat := 0
  deriving DecidableEq, Repr

/-- A ring (10 R421 RING_SET). -/
structure Ring where
  enabled : Bool := false
  portA   : Nat := 0
  portB   : Nat := 1
  wtr     : Nat := 10
  prot    : Bool := false
  deriving DecidableEq, Repr

/-- Receiving state of an inbound flow or stream (10 R391, R392, R420): blocks held by stamp and first channel, the last
presented sample of each channel, and the counters. -/
structure FlowRx where
  blocks  : List (Nat × Nat × List Blk) := []
  lastS   : List W32 := []
  missing : List Nat := []
  state   : Nat := 0
  pres    : Sat := {}
  late    : Sat := {}
  early   : Sat := {}
  dup     : Sat := {}
  stby    : Sat := {}
  malf    : Sat := {}
  conc    : Sat := {}
  zero    : Sat := {}
  arrMax  : Option Int := none
  malfAt  : Option Nat := none
  deriving DecidableEq, Repr

/-- Running state and counters of an audio-over-IP sender or receiver (10 R426); `bound` is the tick of the entry that they belong to. -/
structure AoSt where
  count : Sat := {}
  late  : Sat := {}
  lost  : Sat := {}
  oos   : Sat := {}
  seq   : Nat := 0
  got   : Bool := false
  buf   : Tab Blk := []
  conc  : Nat := 0
  lastS : List W32 := []
  bound : Nat := 0
  deriving DecidableEq, Repr

/-- An Array Link port (10 R415, R416, R425). -/
structure Al where
  flags  : Nat := 0                -- AL_CONFIG FLAGS | 10 R425 | disabled (R427)
  plcaId : Nat := 0                -- PLCA_ID | 10 R425 | DC 2
  plcaN  : Nat := 0                -- PLCA_COUNT | 10 R425 | DC 2
  ip     : Nat := 0                -- IPV4 | 10 R425 | DC 2
  plen   : Nat := 24               -- PREFIX | 10 R425 | DC 2
  mac    : Nat := 0                -- MAC | 10 R425 | DC 2
  fell   : Bool := false           -- fallen back to CSMA/CD | 10 R415 | 0
  queue  : List (List Byte) := []  -- received frame queue, 32 | 10 R416 | empty
  sent   : Sat := {}               -- frames sent, 16 bits, with flag | 10 R425 | 0
  recv   : Sat := {}               -- frames received, 16 bits, with flag | 10 R425 | 0
  coll   : Sat := {}               -- collisions, 16 bits, with flag | 10 R425 | 0
  drop   : Sat := {}               -- attempt-limit discards, 16 bits, with flag | 10 R425 | 0
  beacon : Sat := {}               -- beacon losses, 16 bits, with flag | 10 R425 | 0
  ovf    : Sat := {}               -- queue overflows, 16 bits, with flag | 10 R425 | 0
  deriving DecidableEq, Repr

/-- The management port (10 R412-R414, R425). -/
structure Mg where
  flags  : Nat := 0                -- MG_CONFIG FLAGS | 10 R425 | disabled (R427)
  plen   : Nat := 24               -- PREFIX | 10 R425 | DC 2
  limit  : Nat := 10               -- PAUSE_LIMIT, ms | 10 R413 | 10
  ip     : Nat := 0                -- IPV4 | 10 R425 | DC 2
  gw     : Nat := 0                -- GATEWAY | 10 R425 | DC 2
  mac    : Nat := 0                -- MAC | 10 R425 | DC 2
  wake   : Tab (Bool × Nat × Nat) := [] -- 8 wake patterns: enabled, check value, 128-bit mask | 10 R414 | DC 2
  paused : Bool := false           -- sending is paused | 10 R413 | 0
  ignore : Bool := false           -- pause frames are ignored | 10 R413 | 0
  events : Sat := {}               -- pause-limit events | 10 R413 | 0
  held   : List Out := []          -- frames that wait while sending is paused | 10 R413 | none
  deriving DecidableEq, Repr

/-- Links and service network. -/
structure Links where
  node     : Nat := 0              -- node ID in force, 16 bits; zero for none | 10 R372, R374 | 0x0000
  ether    : Nat := 0x88B5         -- EtherType in force, 16 bits | 10 R375 | 0x88B5
  crcLim   : Nat := 100            -- CRC_LIMIT in force | 10 R405 | 100
  nodeSet  : Option (Nat × Nat × Nat) := none -- LINK_SET_NODE values for the next Warm reset | 10 R417 | none
  ports    : Tab LinkSt := []      -- status of K0-K3 | 10 R423 | disabled (R427)
  dir      : Tab DirEnt := []      -- node directory, 4096 entries | 10 R399, R406 | empty (R427)
  groups   : Tab GroupEnt := []    -- group table, 1024 entries | 10 R400, R406 | empty (R427)
  rings    : Tab Ring := []        -- rings 0 and 1 | 10 R421 | Normal (R427)
  flows    : Tab FlowRx := []      -- receiving state of the inbound flows, at 4096 x SOURCE + FLOW | 10 R391, R392, R420 | idle
  seen     : Tab (List Nat) := []  -- SEQs of the Announces flooded last per SOURCE, newest first | 10 R399 | none
  aoTx     : Tab AoSt := []        -- audio-over-IP sender state | 10 R426 | disabled
  aoRx     : Tab AoSt := []        -- audio-over-IP receiver state | 10 R426 | disabled
  mg       : Mg := {}              -- MG | 10 R412 | disabled
  al0      : Al := {}              -- AL0 | 10 R415 | disabled
  al1      : Al := {}              -- AL1 | 10 R415 | disabled
  deriving DecidableEq, Repr

end Sys2Proof
end

