-- ==== Sys2Proof/Units/Pair.lean ====
section
/-! DEFINITION. State of pairing and fail-over. -/

namespace Sys2Proof

/-- A PAIR_CONFIG block (15 R580). -/
structure PairCfg where
  flags   : Nat := 0
  rank    : Nat := 0
  partner : Nat := 0
  pathA   : Nat := 0
  pathB   : Nat := 1
  rate    : Nat := 200
  deriving DecidableEq, Repr

/-- A Mirror sent and not yet acknowledged (15 R588). -/
structure MirrorOut where
  seq    : Nat
  req    : Req
  due    : Nat := 0
  status : Option Nat := none
  bytes  : List Byte := []
  deriving DecidableEq, Repr

/-- The Active's copy of the chain that joins (15 R601 step 3): rounds done, the lines of the round in progress, none, converged or copied
to its end as 0, 1, 2, and the sample tick T from which the Shadow runs the chain. -/
structure Join where
  rounds : Nat := 0
  lines  : List Nat := []
  phase  : Nat := 0
  commit : Nat := 0
  deriving DecidableEq, Repr

/-- Pairing. -/
structure Pair where
  cfg     : PairCfg := {}          -- PAIR_CONFIG in force | 15 R580 | pairing off (DC 3)
  next    : Option PairCfg := none -- PAIR_CONFIG set for the next Cold, System or Warm reset; the settings hold it | 15 R580 | none
  key     : List Byte := []        -- pair key, 32 bytes or empty | 15 R586 | empty (DC 3)
  state   : Nat := 0               -- pair state of R581 | 15 R581 | 0x0
  reason  : Nat := 0               -- REASON of Unsynced | 15 R593 | 0
  actOut  : Bool := false          -- PAIR_ACT_OUT level | 15 R579 | low
  actIn   : Bool := false          -- PAIR_ACT_IN level | 15 R578 | low (pulled low)
  boot    : Nat := 0               -- boot count in MRAM, 16 bits | 15 R583 | DC 3
  seq     : Nat := 0               -- PAIR_SEQ of this node's next message, 32 bits | 15 R583 | DC 2
  seenBoot : Nat := 0              -- BOOT of the last message accepted | 15 R585 | DC 2
  seenSeq : Option Nat := none     -- PAIR_SEQ of the last message accepted | 15 R585 | none
  pathUpA : Bool := false          -- PATH_A up | 15 R586 | 0
  pathUpB : Bool := false          -- PATH_B up | 15 R586 | 0
  pMode   : Nat := 0               -- partner's mode in its last Beat | 15 R584 | DC 2
  pState  : Nat := 0               -- partner's pair state in its last Beat | 15 R584 | DC 2
  vigil   : List Byte := []        -- partner's last Vigil body, 24 bytes | 15 R593, R604 | empty
  vigilOk : Bool := false          -- a Vigil arrived within 300 ms | 15 R592 | 0
  absent  : Bool := false          -- the Shadow counts as absent, its fault raised | 15 R592 | 0
  out     : List MirrorOut := []   -- Mirrors sent and not acknowledged | 15 R588 | none
  lastMir : Nat := 0               -- PAIR_SEQ of the last Mirror sent | 15 R584 | 0
  diff    : Option Nat := none     -- PAIR_SEQ of a Mirror whose status differed, for the next Beat | 15 R588 | none
  doneMir : Tab Nat := []          -- statuses of the Mirrors executed, by acceptance number, the last 256 | 15 R588 | none
  frag    : Option (Nat × List (Nat × List Byte)) := none -- fragments of the message in arrival: its PAIR_SEQ and bodies | 15 R583 | none
  loaded  : Nat := 0               -- resynchronisation steps whose data has arrived | 15 R601 | 0
  listen  : Nat := 0               -- listening at bring-up: 0 no, 1 first 200 ms, 2 the further 300 ms | 15 R582 | 0
  handover : Option Nat := none    -- H of a Relinquish sent | 15 R595 | none
  takeAt  : Option Nat := none     -- H of a Relinquish accepted | 15 R596 | none
  takeNow : Bool := false          -- PAIR_ACT_IN seen low while Ready: take over at the next boundary | 15 R596 | 0
  noRel   : Bool := false          -- this node took over without a Relinquish | 15 R598 | 0
  fallBack : Bool := false         -- returns to Run-Shadow at its next boundary | 15 R598 | 0
  step    : Nat := 0               -- resynchronisation step in progress, 0 none, 1-5 | 15 R601 | 0
  snap    : Nat := 0               -- snapshot boundary S | 15 R601 | 0
  join    : Join := {}             -- on the Active, the copy of the chain that joins | 15 R601 | none
  recd    : List (Bool × TickRec) := [] -- inputs of the fixed blocks that the Shadow records from S, oldest first: Stage B, and the tick's record | 15 R601 | none
  behind  : Option Fixed := none   -- state of the fixed blocks that runs the recorded ticks | 15 R601 | none
  serve   : List Nat := []         -- on the Active, the chains that have still to join, the one that joins first | 15 R601 | none
  joined  : Nat := 0               -- chains joined | 15 R593, R601 | 0
  toJoin  : Nat := 0               -- chains to join | 15 R593 | 0
  joinAt  : Nat := 0               -- sample tick at which the last chain joined | 15 R601 | 0
  checks  : Nat := 0               -- consecutive DST checks that matched | 15 R601 | 0
  failed  : Nat := 0               -- failed resynchronisations in a row | 15 R602 | 0
  paused  : Bool := false          -- waits for PAIR_RESYNC after three failures | 15 R602 | 0
  chkNew  : Bool := false          -- the DST check is to go with the next Beat | 15 R584, R590 | 0
  check   : Option (Nat × Nat) := none -- DST check of the last check tick: sample tick and CRC | 15 R590 | none
  pCheck  : Option (Nat × Nat) := none -- partner's DST check not yet compared | 15 R590 | none
  chkTick : Nat := 0               -- CHECK_TICK of the last check compared | 15 R593 | 0
  chkOk   : Bool := false          -- CHECK_OK | 15 R593 | 0
  sPass   : Nat := 0               -- self-test slices passed since the last Vigil | 15 R593 | 0
  sFail   : Nat := 0               -- self-test slices failed since the last Vigil | 15 R593 | 0
  misses  : Nat := 0               -- deadline misses since the last Vigil | 15 R593 | 0
  severe  : Nat := 0               -- Severe faults since the last Vigil | 15 R593 | 0
  failAt  : List (Nat × Nat) := [] -- engine and local time of the failed slices | 15 R594 | none
  lateRel : Sat := {}              -- late Relinquishes | 15 R596, R604 | 0
  reject  : Sat := {}              -- rejected Pair frames | 15 R585, R604 | 0
  takes   : Sat := {}              -- takeovers | 15 R604 | 0
  deriving DecidableEq, Repr

end Sys2Proof
end

