-- ==== Sys2Proof/Units/Ports.lean ====
section
/-! DEFINITION. State of the serial and AES3 ports, the Drive Modulator and the Service Listen Port. -/

namespace Sys2Proof

/-- Status of a serial port (09 R336). -/
structure SpSt where
  state  : Nat := 0                -- STATE: 0 disabled, 1 master, 2 acquiring, 3 locked, 4 locked through ASRC, 5 muted | 09 R336 | 0
  phase  : Int := 0                -- PHASE, signed ns, 16 bits | 09 R330, R336 | DC 2
  rate   : Nat := 0                -- RATE, Hz, 32 bits | 09 R336 | 0
  under  : Sat := {}               -- UNDERRUNS, 16 bits, with flag | 09 R333, R336 | 0
  overr  : Sat := {}               -- OVERRUNS, 16 bits, with flag | 09 R333, R336 | 0
  loss   : Sat := {}               -- CLOCK_LOSSES, 16 bits, with flag | 09 R332, R336 | 0
  unmute : Bool := false           -- relocked, unmutes at the next boundary | 09 R332 | 0
  delay  : Nat := 0                -- ASRC group delay, ns | 09 R342 | DC 2
  tail   : Bool := false           -- disabled while its clock ran: it sends until the output half follows | 09 R335 | 0
  deriving DecidableEq, Repr

/-- Status of an AES3 port (09 R342). -/
structure AeSt where
  state  : Nat := 0                -- STATE: 0 disabled, 1 acquiring, 2 locked, 3 locked through ASRC, 4 muted | 09 R342 | 0
  cons   : Bool := false           -- FLAGS bit 0 CONSUMER | 09 R339 | DC 2
  valid  : Bool := false           -- FLAGS bit 1 validity set since last read | 09 R342 | DC 2
  crccEv : Bool := false           -- FLAGS bit 2 CRCC error since last read | 09 R342 | DC 2
  rate   : Nat := 0                -- RATE, Hz, 32 bits | 09 R342 | 0
  phase  : Int := 0                -- PHASE, signed ns, 16 bits | 09 R342 | DC 2
  parity : Sat := {}               -- parity errors, 16 bits | 09 R342 | 0
  crcc   : Sat := {}               -- CRCC errors, 16 bits | 09 R342 | 0
  slips  : Sat := {}               -- slips, 16 bits | 09 R338 | 0
  losses : Sat := {}               -- lock losses, 16 bits | 09 R338 | 0
  block  : List Byte := []         -- last good channel-status block, 24 bytes | 09 R342 | DC 2 (zero)
  last0  : W32 := 0                -- previous good sample of channel 0 | 09 R339 | DC 2
  last1  : W32 := 0                -- previous good sample of channel 1 | 09 R339 | DC 2
  delay  : Nat := 0                -- ASRC group delay, ns | 09 R342 | DC 2
  in0    : W32 := 0                -- frame received last and not yet presented, channel 0 | 02 R65, 09 R338 | zero (R369)
  in1    : W32 := 0                -- frame received last and not yet presented, channel 1 | 02 R65, 09 R338 | zero (R369)
  out0   : W32 := 0                -- word taken last and not yet sent, channel 0 | 02 R65 | zero (R369)
  out1   : W32 := 0                -- word taken last and not yet sent, channel 1 | 02 R65 | zero (R369)
  unmute : Bool := false           -- relocked, unmutes at the next boundary | 09 R338 | 0
  lock   : Bool := false           -- receiver locked to its preambles; a Plane reset leaves it | 09 R338, 11 R435 | 0
  sent   : List Byte := []         -- channel-status block that the transmitter sends, 24 bytes; empty while it is off | 09 R340 | off (R369)
  vu     : Nat := 0                -- validity and user bits that the transmitter sends | 09 R340 | zero
  deriving DecidableEq, Repr

/-- A Drive Modulator channel (09 R344-R355). `run` is the run state before the order of R354 is applied: 0 off,
1 idle on silence, 2 soft start, 3 running, 4 muting. -/
structure DrvCh where
  run    : Nat := 0                -- run state: soft start, running, muting, idle | 09 R352, R355 | off
  trip   : Bool := false           -- DC trip | 09 R349 | 0
  taken  : List Int := []          -- modulation index of each sample position taken in this tick, sent in the next, in 1/(20 x 2^23) | 09 R343, R344 | none
  index  : List Int := []          -- modulation index of each sample position now sent, same unit; none with the gates off | 09 R344 | none (R369)
  pwm    : List (Nat × Nat) := []  -- duty of PWMA and PWMB at each sample position now sent, in 1/(40 x 2^23); none: both low | 09 R344 | low (R369)
  dc     : Int := 0                -- output of the 2 Hz low-pass, 24 bits | 09 R349 | DC 2
  dcOver : Nat := 0                -- ns for which its magnitude has exceeded 167,772 | 09 R349 | 0
  fb     : Int := 0                -- decimated feedback, 24 bits; a free value of each tick | 09 R345 | DC 2
  corr   : Int := 0                -- loop correction from the feedback, 24 bits; a free value of each tick | 09 R345 | DC 2
  clips  : Sat := {}               -- clip counter, 16 bits, with flag | 09 R344 | 0
  trips  : Nat := 0                -- TRIPS, 8 bits, saturating | 09 R354 | 0
  fbLost : Bool := false           -- FB_LOST | 09 R345 | 0
  deriving DecidableEq, Repr

/-- The Drive Modulator. -/
structure Drv where
  ch      : Tab DrvCh := []        -- 32 channels | 09 R344, R355 | disabled (R369)
  cfg     : Tab DrvCfg := []       -- channel tables that the output stage last used | 02 R69, 09 R368 | disabled (R369)
  code    : Nat := 0               -- switching frequency code in use | 09 R346, R354 | 0x0 (R369)
  pendCode : Option Nat := none    -- frequency change waiting for the carrier boundary | 09 R348 | none
  fault   : Bool := false          -- driver fault latched | 09 R351 | 0
  faultN  : Bool := true           -- DRV_FAULT_N level | 09 R354, 20 R716 | high (pull-up)
  clkErr  : Bool := false          -- clock error | 09 R350 | 0
  fallback : Bool := false         -- edge generator on the 25 MHz fallback | 09 R350 | 0
  deriving DecidableEq, Repr

/-- An SLP event (09 R358, R361). -/
structure SlpEvt where
  code   : Nat
  detail : Nat := 0
  cal    : Nat := 0
  deriving DecidableEq, Repr

/-- The Service Listen Port. -/
structure Slp where
  plug    : Bool := false          -- debounced plug presence | 09 R357 | DC 2
  kind    : Nat := 0               -- accessory: 0 none, 1 headphone, 2 headset, 3 line | 09 R357 | DC 2
  press   : Bool := false          -- a press is in progress | 09 R357, R358 | 0
  long    : Bool := false          -- that press was reported as a long press | 09 R358 | 0
  held    : Bool := false          -- that press passed 500 ms | 09 R358 | 0
  shorts  : Nat := 0               -- short presses in the sequence | 09 R358 | 0
  queue   : List SlpEvt := []      -- event queue, 16 | 09 R359 | empty (R369)
  ovf     : Sat := {}              -- event overflow counter, 16 bits, with flag | 09 R359 | 0
  tone    : Option (Nat × Nat × Nat) := none -- tone playing: Hz, ms, code | 09 R360 | none
  tonePos : Nat := 0               -- samples of the tone already sent | 09 R360 | 0
  tones   : List (Nat × Nat × Nat) := [] -- tones and pauses still to play, Hz 0 for a pause | 17 R658, R659 | none
  choice  : Nat := 4               -- Recovery menu choice, 1-4 | 17 R659 | 4
  confirm : Option Nat := none     -- action that follows the answering tone: 0 fallback, 1-3 the choice | 17 R658, R659 | none
  mclk    : Nat := 0               -- MCLKOUT selector, 0x0-0x3 | 09 R337 | 0x0 (R369)
  deriving DecidableEq, Repr

/-- The local audio ports. -/
structure Ports where
  sp  : Tab SpSt := []             -- SP0-SP7 status | 09 R336 | disabled
  ae  : Tab AeSt := []             -- AE0-AE3 status | 09 R342 | disabled
  drv : Drv := {}                  -- Drive Modulator | 09 R344 | disabled
  slp : Slp := {}                  -- Service Listen Port | 09 R356 | off
  deriving DecidableEq, Repr

end Sys2Proof
end

