-- ==== Sys2Proof/Units/Settings.lean ====
section
/-! DEFINITION. The settings slots of MRAM (17 R651, R652): what a slot records of the node's configuration. -/

namespace Sys2Proof

/-- The configuration that a settings slot records, item by item as chapter 17 lists it. -/
structure Snapshot where
  cfg    : Cfg := {}
  nodes  : Tab Node := []
  lines  : Tab Line := []
  chains : Tab Chain := []
  cands  : Tab RefCfg := []
  clkMode : Nat := 0
  clkForced : Nat := 0
  clkLimit : Nat := 10000000
  clkTrim : Int := 0
  clkJump : Nat := 1000
  hoUnc  : Nat := 40
  hoAge  : Nat := 10
  hoLim  : Nat := 1000
  ptp    : List Byte := []
  pulses : Tab Pulse := []
  groups : Tab GroupEnt := []
  dir    : Tab DirEnt := []
  rings  : Tab Ring := []
  node   : Option (Nat × Nat × Nat) := none
  mg     : Mg := {}
  al0    : Al := {}
  al1    : Al := {}
  mclk   : Nat := 0
  capPolicy : Nat := 0
  jobs   : Tab Job := []
  pair   : PairCfg := {}
  policy : PlacePolicy := {}
  power  : Bool × Nat × Nat × Nat × Nat := (false, 720, 900, 0, 150)
  heath  : Tab (Nat × Bool) := []
  run    : Bool := false
  deriving DecidableEq, Repr

/-- One settings slot. -/
structure SetSlot where
  valid  : Bool := false           -- the slot's header and CRC are good | 17 R651 | 0 (DC 3)
  schema : Nat := 0                -- schema version, 16 bits | 17 R651, R660 | 0 (DC 3)
  gen    : Nat := 0                -- GENERATION, 32 bits | 17 R651, R660 | 0 (DC 3)
  snap   : Snapshot := {}          -- the configuration recorded | 17 R652 | empty (DC 3, DC 16)
  deriving DecidableEq, Repr

/-- The settings slots and what firmware holds beside them. -/
structure Settings where
  a      : SetSlot := {}           -- settings slot A, 3 MiB of MRAM | 17 R651 | empty (DC 3)
  b      : SetSlot := {}           -- settings slot B, 3 MiB of MRAM | 17 R651 | empty (DC 3)
  deriving DecidableEq, Repr

end Sys2Proof
end

