-- ==== Sys2Proof/Units/Resync.lean ====
section
/-! DEFINITION. What a resynchronisation carries from the Active to the Shadow (15 R601). The spec gives the contents and no layout, so the
command that brings them carries them as they are (log entry 28). -/

namespace Sys2Proof

/-- One part of a resynchronisation. -/
inductive Resync where
  /-- Step 1: the snapshot boundary S, the live settings, of which the slot map, ports, flows and fixed blocks as they stand are `cfg`, the handles of
  the chains, gain memory and polarity, and the staged records with a tick at or after S. -/
  | tables (snap : Nat) (cfg : Cfg) (set : Snapshot) (hs : List Nat) (nodes : Tab Node) (staged : List Staged)
  /-- Step 2: the state of the fixed blocks and the ramp contexts at the end of sample tick S - 1. The replay positions follow from the settings
  and the tick. -/
  | blocks (fixed : Fixed) (ramps : Tab Ramp)
  /-- Step 3: one chain's code and state after its final copy, its configuration where it runs, and the sample tick T from which the Shadow runs it. -/
  | chain (h t : Nat) (c : Chain) (x : Option ChainCfg)
  deriving DecidableEq, Repr

end Sys2Proof
end

