-- ==== Sys2Proof/Units/TickIn.lean ====
section
/-! DEFINITION. What comes in at the pins of the audio ports: the words of the input frames in the tick that begins, and a frame that is cut
short (log entry 10). -/

namespace Sys2Proof

/-- The words received in a tick, N per channel: serial inputs at 32 x port + channel and AES3 subframes at 2 x port + channel, each the
low bits of a word as the port's word length gives it (an ASRC input: after conversion); the SLP microphone; and the replays whose
read-ahead does not hold the tick in time (12 R494). -/
structure TickIn where
  sp   : Tab (List W32) := []
  ae   : Tab (List W32) := []
  mic  : List W32 := []
  late : List Nat := []
  deriving DecidableEq, Repr

/-- A frame of a serial port that is shorter than its slots: the port, the position in the tick in progress, and the bit times it had
(09 R333). -/
structure ShortFrame where
  port : Nat := 0
  pos  : Nat := 0
  bits : Nat := 0
  deriving DecidableEq, Repr

/-- A PTP message as it arrives (10 R411, 11 R449): the MAC address its frame is sent to, whether it comes in UDP on IPv4 rather than in an
Ethernet frame of its own, and the message. -/
structure PtpIn where
  dest : Nat
  udp  : Bool
  body : List Byte
  deriving DecidableEq, Repr

end Sys2Proof
end

