-- ==== Sys2Proof/Syntax.lean ====
section
/-! DEFINITION. The commands of the KD9: one constructor per row of spec/opcode_table.json. Those with operands stand
first: Lean compiles no constructor with operands beyond the first 245. -/

namespace Sys2Proof

/-- The commands. -/
inductive Instr where
  /-- GCP_REQUEST_RECEIVED (R520): A whole GCP request arrives on a transport and is checked in order, then queued with an acceptance number or refused. -/
  | gcpRequestReceived (src : Src) (ret : Nat × Nat) (bytes : List Byte)
  /-- RING_ENABLE (R540): Writing ENABLE = 1 to a ring control register zeroes the ring's indices and starts the ring. -/
  | ringEnable (rpl : Bool) (size : Nat)
  /-- RING_DISABLE (R540): Writing ENABLE = 0 to a ring control register stops the ring after the descriptor in progress. -/
  | ringDisable (rpl : Bool)
  /-- WIN_REQ_PROD_WRITE (R541): A doorbell write to the request producer makes the KD9 fetch the new request descriptors, or sets RING_ERR on overrun. -/
  | winReqProdWrite (v : Nat) (mem : List (List Byte × Option (List Byte)))
  /-- WIN_RPL_PROD_WRITE (R543): The host posts reply buffers, and waiting replies are written into them in order. -/
  | winRplProdWrite (v : Nat) (bufs : List (List Byte × Bool))
  /-- WIN_INT_STAT_CLEAR (R544): Writing 1 to a W1C bit of WIN_INT_STAT clears it. -/
  | winIntStatClear (v : Nat)
  /-- WIN_RSTCAUSE_CLEAR (R639): Writing 1 to a reset-cause bit clears it. -/
  | winRstcauseClear (v : Nat)
  /-- HEATH_CTRL_WRITE (R294): The Management Processor writes a bank's POLICY and RETAIN_WARM, changing its power management. -/
  | heathCtrlWrite (n : Nat) (v : Nat)
  /-- PWR_VCORE_TARGET_WRITE (R665): A new VCORE target is written, and an AVSBus set-point request is issued or coalesced. -/
  | pwrVcoreTargetWrite (mv : Nat)
  /-- CLK_HIST_CLEAR (R471): Writing 1 to a CLK_HIST bit clears that history bit. -/
  | clkHistClear (v : Nat)
  /-- REGISTER_WRITE (R269): A write to any register without behaviour of its own stores its RW fields or clears its W1C fields, subject to access rights. -/
  | registerWrite (win : Bool) (m : Nat) (a : Nat) (v : Nat)
  /-- UDP_DATAGRAM (R546): A UDP datagram or fragment to port 41720 arrives on MG, AL0 or AL1 and is reassembled into a GCP request. -/
  | udpDatagram (port : Nat) (dest : Nat) (source : Nat × Nat) (ident : Nat) (off : Nat) (more : Bool) (bytes : List Byte)
  /-- REASSEMBLY_TIMEOUT (R546): A datagram reassembly that has not completed within 100 ms is discarded. -/
  | reassemblyTimeout (port : Nat) (ip : Nat) (ident : Nat)
  /-- RELAY_REPLY (R548): The inner reply of a relayed request arrives, and the KD9 replies OK with it as payload. -/
  | relayReply (node : Nat) (bytes : List Byte)
  /-- RELAY_TIMEOUT (R548): No inner reply arrives within 200 ms, and SYS_RELAY replies BUSY. -/
  | relayTimeout (acc : Nat)
  /-- SYS_GET_CAPS (R43): Returns the 64-byte Capability Descriptor. -/
  | sysGetCaps (r : Req)
  /-- SYS_GET_STATUS (R552): Returns mode, Calendar, mute, queue depths and protocol counters, clearing high-water marks and saturation flags. -/
  | sysGetStatus (r : Req)
  /-- SYS_SET_MODE (R36): Requests a staged operating-mode transition. -/
  | sysSetMode (r : Req)
  /-- SYS_SET_TIMEBASE (R75): Stages a sample-rate or tick-size change after checking capacity and configuration. -/
  | sysSetTimebase (r : Req)
  /-- SYS_RESET (R550): Replies, then resets this node or the pair partner at the named depth. -/
  | sysReset (r : Req)
  /-- SYS_MUTE_ALL (R551): Stages muting or unmuting of every sample leaving the node. -/
  | sysMuteAll (r : Req)
  /-- SYS_RELAY (R548): Sends an inner request to another node in a Control frame. -/
  | sysRelay (r : Req)
  /-- PLACE_SET_POLICY (R195): Sets the Placement Unit policy from the next period boundary. -/
  | placeSetPolicy (r : Req)
  /-- PLACE_GET_POLICY (R239): Returns the policy in force and the placement counters. -/
  | placeGetPolicy (r : Req)
  /-- PLACE_GET_ENGINES (R235): Returns per-engine placement records for the last completed period. -/
  | placeGetEngines (r : Req)
  /-- PLACE_GET_EVENTS (R238): Returns placement event log records from an index. -/
  | placeGetEvents (r : Req)
  /-- PLACE_CLEAR_STATS (R239): Zeroes the placement counters, their flags and the log overflow counter. -/
  | placeClearStats (r : Req)
  /-- MEM_GET_STATUS (R322): Returns every Heath and DRAM status, ECC and poison register. -/
  | memGetStatus (r : Req)
  /-- HEATH_SET_POLICY (R323): Sets a Heath bank's power policy and warm retention. -/
  | heathSetPolicy (r : Req)
  /-- MEM_CLEAR_ECC (R324): Zeroes every ECC counter and clears the saturation and overflow flags. -/
  | memClearEcc (r : Req)
  /-- SWARD_SET_NODES (R112): Stages target codes and polarity for up to 511 Sward nodes with one ramp length. -/
  | swardSetNodes (r : Req)
  /-- SWARD_FILL (R113): Stages one code or polarity for a rectangle of Sward nodes as one fill record. -/
  | swardFill (r : Req)
  /-- SWARD_DROP_STAGED (R100): Removes every Sward record staged for an apply-at tick or an Almanac entry. -/
  | swardDropStaged (r : Req)
  /-- SWARD_GET_NODES (R115): Returns live code, target and polarity of a range of nodes. -/
  | swardGetNodes (r : Req)
  /-- SWARD_GET_COLUMNS (R116): Returns the ramp contexts of a range of columns. -/
  | swardGetColumns (r : Req)
  /-- SWARD_GET_CLIP (R116): Returns the clip counters of a range of columns. -/
  | swardGetClip (r : Req)
  /-- SWARD_CLEAR_CLIP (R91): Zeroes the clip counters and flags of a range of columns. -/
  | swardClearClip (r : Req)
  /-- SWARD_GET_TILES (R116): Returns the status words of a range of tiles. -/
  | swardGetTiles (r : Req)
  /-- CHAIN_LOAD_BEGIN (R181): Checks a chain descriptor and allocates the lowest free chain handle. -/
  | chainLoadBegin (r : Req)
  /-- CHAIN_LOAD_DATA (R182): Copies up to 4080 bytes of code or state image into a loading chain. -/
  | chainLoadData (r : Req)
  /-- CHAIN_LOAD_END (R206): Admits a fully loaded chain to an engine and stages its first run. -/
  | chainLoadEnd (r : Req)
  /-- CHAIN_UNLOAD (R188): Stages the stop of a chain and the release of its resources. -/
  | chainUnload (r : Req)
  /-- CHAIN_SET_PARAMS (R175): Stages new values for chain parameter words. -/
  | chainSetParams (r : Req)
  /-- CHAIN_SET_TAPS (R162): Stages new delays for chain taps. -/
  | chainSetTaps (r : Req)
  /-- CHAIN_GET_STATUS (R184): Returns a chain's state, engine, counters and cycle figures. -/
  | chainGetStatus (r : Req)
  /-- CHAIN_CLEAR_COUNTERS (R180): Clears miss and fail counters, their flags and OVERRUN of one or every chain. -/
  | chainClearCounters (r : Req)
  /-- MAP_SET (R58): Stages slot map entries for MIX-IN and DST slots. -/
  | mapSet (r : Req)
  /-- MAP_GET (R186): Returns live slot map entries. -/
  | mapGet (r : Req)
  /-- CHAIN_WRITE_STATE (R186): Stages whole-word writes into a chain's state block. -/
  | chainWriteState (r : Req)
  /-- CHAIN_READ_STATE (R186): Returns state words as at the end of the last completed tick. -/
  | chainReadState (r : Req)
  /-- CHAIN_SET_PLACEMENT (R204): Sets a chain's pin and affinity, migrating it when newly pinned elsewhere. -/
  | chainSetPlacement (r : Req)
  /-- DYN_CONFIG (R244): Stages a dynamics channel's insertion, sidechain, link and lookahead. -/
  | dynConfig (r : Req)
  /-- DYN_SET_PARAMS (R243): Stages a dynamics channel's threshold, ratio, knee, times and makeup. -/
  | dynSetParams (r : Req)
  /-- DYN_GET (R263): Returns a dynamics channel's live blocks and reduction, clearing the largest reduction. -/
  | dynGet (r : Req)
  /-- LINE_ALLOC (R317): Allocates a delay line ring in the line pool. -/
  | lineAlloc (r : Req)
  /-- LINE_FREE (R318): Frees an unused delay line. -/
  | lineFree (r : Req)
  /-- LINE_GET (R320): Returns a delay line's writer, length, capacity, taps and write mark. -/
  | lineGet (r : Req)
  /-- SP_CONFIG (R335): Stages a serial port's format, clocking and slot bases. -/
  | spConfig (r : Req)
  /-- SP_GET_STATUS (R336): Returns status records of the serial ports. -/
  | spGetStatus (r : Req)
  /-- SP_SET_MCLK (R337): Sets the MCLKOUT ratio or holds it low. -/
  | spSetMclk (r : Req)
  /-- SP_CLEAR (R368): Clears serial and AE port counters and flags. -/
  | spClear (r : Req)
  /-- AE_CONFIG (R342): Stages an AES3 port's receiver, transmitter, ASRC and reference settings. -/
  | aeConfig (r : Req)
  /-- AE_GET_STATUS (R342): Returns status records of the AES3 ports. -/
  | aeGetStatus (r : Req)
  /-- DRV_CONFIG (R354): Stages one Drive Modulator channel's enable, feedback, polarity, silence power-down and DST slot. -/
  | drvConfig (r : Req)
  /-- DRV_SET_FREQ (R347): Stages the switching frequency mode, index and avoided stations. -/
  | drvSetFreq (r : Req)
  /-- DRV_REARM (R351): Rearms tripped channels and optionally clears a driver fault. -/
  | drvRearm (r : Req)
  /-- DRV_GET_STATUS (R355): Returns the Drive Modulator status and per-channel records. -/
  | drvGetStatus (r : Req)
  /-- SLP_SET_LISTEN (R362): Sets SLP listen sources, gain and microphone slot from the next boundary. -/
  | slpSetListen (r : Req)
  /-- SLP_TONE (R360): Plays a tone on the Service Listen Port. -/
  | slpTone (r : Req)
  /-- SLP_GET_EVENTS (R359): Returns and removes queued SLP events. -/
  | slpGetEvents (r : Req)
  /-- TG_SET (R366): Stages a test generator's signal, channels, slots and level. -/
  | tgSet (r : Req)
  /-- TG_GET (R366): Returns a test generator's live configuration. -/
  | tgGet (r : Req)
  /-- LINK_SET_NODE (R421): Sets node ID, EtherType and CRC limit for the next Warm reset. -/
  | linkSetNode (r : Req)
  /-- LINK_CONFIG (R418): Stages a link port's speed, FEC, tag, asymmetry and address. -/
  | linkConfig (r : Req)
  /-- LINK_GET_STATUS (R423): Returns node identity, ring states and per-port records. -/
  | linkGetStatus (r : Req)
  /-- FLOW_OUT_SET (R382): Stages an outbound flow entry, placing its port if not named. -/
  | flowOutSet (r : Req)
  /-- FLOW_OUT_DELETE (R421): Stages removal of an outbound flow. -/
  | flowOutDelete (r : Req)
  /-- FLOW_IN_SET (R386): Stages an inbound flow entry. -/
  | flowInSet (r : Req)
  /-- FLOW_IN_DELETE (R421): Stages removal of an inbound flow. -/
  | flowInDelete (r : Req)
  /-- FLOW_GET_STATUS (R420): Returns inbound flow states, counters and latest arrival. -/
  | flowGetStatus (r : Req)
  /-- GROUP_SET (R422): Adds or changes a multicast group entry. -/
  | groupSet (r : Req)
  /-- GROUP_DELETE (R422): Removes a multicast group entry. -/
  | groupDelete (r : Req)
  /-- DIR_SET (R422): Pins or releases a node directory entry. -/
  | dirSet (r : Req)
  /-- DIR_GET (R424): Returns node directory entries. -/
  | dirGet (r : Req)
  /-- RING_SET (R422): Configures one of the node's two rings. -/
  | ringSet (r : Req)
  /-- AOIP_SENDER_SET (R426): Stages an audio-over-IP sender. -/
  | aoipSenderSet (r : Req)
  /-- AOIP_RECEIVER_SET (R426): Stages an audio-over-IP receiver. -/
  | aoipReceiverSet (r : Req)
  /-- AOIP_GET_STATUS (R426): Returns audio-over-IP sender or receiver records. -/
  | aoipGetStatus (r : Req)
  /-- MG_CONFIG (R425): Configures the management port. -/
  | mgConfig (r : Req)
  /-- MG_SET_WAKE (R414): Sets one MG wake pattern. -/
  | mgSetWake (r : Req)
  /-- AL_CONFIG (R425): Configures an Array Link port. -/
  | alConfig (r : Req)
  /-- AL_FRAME_TX (R416): Sends a host frame on an Array Link port. -/
  | alFrameTx (r : Req)
  /-- AL_FRAME_RX (R416): Returns and removes queued Array Link frames. -/
  | alFrameRx (r : Req)
  /-- AL_GET_STATUS (R425): Returns an Array Link port's state and counters. -/
  | alGetStatus (r : Req)
  /-- LINK_CLEAR (R417): Clears link, flow, MG and AL counters and flags. -/
  | linkClear (r : Req)
  /-- CLK_SET_REF (R437): Configures a reference candidate and restarts its qualification. -/
  | clkSetRef (r : Req)
  /-- CLK_SET_SELECT (R438): Sets the selection mode and DCO limits. -/
  | clkSetSelect (r : Req)
  /-- CLK_SET_DCO (R438): Writes the DCO word in manual DCO mode. -/
  | clkSetDco (r : Req)
  /-- CLK_SET_HOLDOVER (R447): Sets the holdover timer parameters. -/
  | clkSetHoldover (r : Req)
  /-- CLK_GET_STATUS (R473): Returns clock status, history, DCO word, monitor readings and holdover timer. -/
  | clkGetStatus (r : Req)
  /-- CLK_CLEAR_HIST (R471): Clears the masked CLK_HIST bits. -/
  | clkClearHist (r : Req)
  /-- PTP_CONFIG (R449): Configures the PTP ordinary clock. -/
  | ptpConfig (r : Req)
  /-- PTP_GET_STATUS (R473): Returns PTP status. -/
  | ptpGetStatus (r : Req)
  /-- PULSE_CONFIG (R462): Configures a PULSE output from its next selected event. -/
  | pulseConfig (r : Req)
  /-- ALMANAC_SET (R465): Arms or disarms an Almanac entry. -/
  | almanacSet (r : Req)
  /-- ALMANAC_GET (R469): Returns Almanac entries with remaining count and last firing. -/
  | almanacGet (r : Req)
  /-- TIME_GET (R458): Returns local time, Calendar, EPOCH, DCO word and phase error of one instant. -/
  | timeGet (r : Req)
  /-- TIME_STEP (R453): Stages a step of the local time as a timebase change. -/
  | timeStep (r : Req)
  /-- TIME_SET_EPOCH (R457): Stages a new EPOCH, taking effect at the start of tick T. -/
  | timeSetEpoch (r : Req)
  /-- TIME_GET_STAMPS (R463): Returns and removes queued REFIN timestamps. -/
  | timeGetStamps (r : Req)
  /-- CAP_VOLUME_FORMAT (R504): Formats a plain or mirrored capture volume on the named drives. -/
  | capVolumeFormat (r : Req)
  /-- CAP_VOLUME_GET (R505): Returns the capture volume's state and counts. -/
  | capVolumeGet (r : Req)
  /-- CAP_SET_POLICY (R508): Sets the full-volume policy. -/
  | capSetPolicy (r : Req)
  /-- CAP_GET_DRIVES (R506): Returns the four drive slot records. -/
  | capGetDrives (r : Req)
  /-- CAP_DRIVE_JOIN (R508): Joins a replacement drive to the volume as an empty member. -/
  | capDriveJoin (r : Req)
  /-- CAP_JOB_SET (R482): Defines a recording job's tracks. -/
  | capJobSet (r : Req)
  /-- CAP_RECORD (R484): Stages the start of a recording job with a new recording number. -/
  | capRecord (r : Req)
  /-- CAP_STOP (R484): Stages the stop of a recording job. -/
  | capStop (r : Req)
  /-- CAP_GET_JOBS (R509): Returns job and replay records. -/
  | capGetJobs (r : Req)
  /-- CAP_REPLAY (R493): Stages a replay of recorded tracks into SRC slots. -/
  | capReplay (r : Req)
  /-- CAP_REPLAY_STOP (R508): Stages the stop of a replay. -/
  | capReplayStop (r : Req)
  /-- CAP_FIND (R490): Locates a capture tick or PTP time in a recording. -/
  | capFind (r : Req)
  /-- CAP_READ (R491): Returns durable recorded samples from a tick. -/
  | capRead (r : Req)
  /-- CAP_PROTECT (R497): Sets or clears protection on a recording's segments in a tick range. -/
  | capProtect (r : Req)
  /-- CAP_DELETE (R497): Frees every unprotected segment of a recording. -/
  | capDelete (r : Req)
  /-- METER_OP_SET (R256): Configures an operator meter from the next boundary and restarts its chain. -/
  | meterOpSet (r : Req)
  /-- METER_OP_READ (R257): Returns operator meter records. -/
  | meterOpRead (r : Req)
  /-- SILENCE_SET (R261): Sets the node silence threshold and hold time from the next boundary. -/
  | silenceSet (r : Req)
  /-- SILENCE_GET (R261): Returns the silent map of MIX-IN or DST and the threshold. -/
  | silenceGet (r : Req)
  /-- METER_GET_INFO (R712): Returns the Sealed Meter's state, SEC, identity, key and log position. -/
  | meterGetInfo (r : Req)
  /-- METER_SET_POINT (R689): Configures a measurement point from the next minute boundary. -/
  | meterSetPoint (r : Req)
  /-- METER_GET_POINTS (R689): Returns the 16 point blocks as they will stand at the next minute. -/
  | meterGetPoints (r : Req)
  /-- METER_SEAL (R691): Seals an Unsealed meter. -/
  | meterSeal (r : Req)
  /-- METER_UNSEAL (R693): Burns a Seal Event Counter fuse and unseals the meter. -/
  | meterUnseal (r : Req)
  /-- METER_READ (R702): Returns minute records from an index. -/
  | meterRead (r : Req)
  /-- METER_ACK_EXPORT (R703): Sets the export index. -/
  | meterAckExport (r : Req)
  /-- METER_GET_LIVE (R711): Returns the running values behind each point's measurands. -/
  | meterGetLive (r : Req)
  /-- METER_LOUD_RESET (R711): Restarts loudness integration of the named leaders at the next minute. -/
  | meterLoudReset (r : Req)
  /-- METER_SET_EXPORT (R704): Sets the meter serial port baud rate. -/
  | meterSetExport (r : Req)
  /-- METER_FW_LOAD (R707): Writes part of a meter firmware image, shrinking the ring on the first load. -/
  | meterFwLoad (r : Req)
  /-- METER_FW_END (R707): Verifies the loaded meter image and runs it from the next minute. -/
  | meterFwEnd (r : Req)
  /-- METER_FW_REMOVE (R707): Returns to the ROM program at the next minute and restores the ring length. -/
  | meterFwRemove (r : Req)
  /-- PWR_SET_POLICY (R668): Sets VCORE limits, fixed VCORE and lowering margin from the next period. -/
  | pwrSetPolicy (r : Req)
  /-- PWR_GET_POLICY (R668): Returns the power policy. -/
  | pwrGetPolicy (r : Req)
  /-- PWR_SET_DORMANT (R671): Takes the node to Dormant at the next tick boundary. -/
  | pwrSetDormant (r : Req)
  /-- PWR_GET_STATUS (R679): Returns VCORE, current, power, shutdown and temperature status. -/
  | pwrGetStatus (r : Req)
  /-- PAIR_CONFIG (R580): Sets the pairing configuration in the settings for the next reset. -/
  | pairConfig (r : Req)
  /-- PAIR_SET_KEY (R586): Provisions the wrapped pair key. -/
  | pairSetKey (r : Req)
  /-- PAIR_GET_STATUS (R604): Returns pair state, partner's last Vigil, path states and counts. -/
  | pairGetStatus (r : Req)
  /-- PAIR_RELINQUISH (R594): Makes a paired Active relinquish to a Ready Shadow. -/
  | pairRelinquish (r : Req)
  /-- PAIR_RESYNC (R600): Starts a new resynchronisation at once. -/
  | pairResync (r : Req)
  /-- FAULT_GET_STATUS (R629): Returns fault state, shedding level, counters and log indices. -/
  | faultGetStatus (r : Req)
  /-- FAULT_GET_LOG (R629): Returns fault log records from an index. -/
  | faultGetLog (r : Req)
  /-- FAULT_ACK (R613): Sets the acknowledged fault index. -/
  | faultAck (r : Req)
  /-- FAULT_GET_COUNTERS (R629): Returns a unit's fault counters and flags. -/
  | faultGetCounters (r : Req)
  /-- FAULT_CLEAR (R629): Zeroes fault counters, flags and the log overflow counter. -/
  | faultClear (r : Req)
  /-- FAULT_SET_REACTION (R611): Adds or removes permitted reactions of a fault ID. -/
  | faultSetReaction (r : Req)
  /-- FAULT_SET_QUIET (R629): Sets the QUIET time of the fault state. -/
  | faultSetQuiet (r : Req)
  /-- FAULT_INJECT (R627): Starts raising a fault ID COUNT times, INTERVAL apart. -/
  | faultInject (r : Req)
  /-- FW_BEGIN (R653): Opens the spare image slot for a firmware transfer. -/
  | fwBegin (r : Req)
  /-- FW_DATA (R653): Writes part of a firmware image. -/
  | fwData (r : Req)
  /-- FW_END (R653): Verifies the transferred image's signature. -/
  | fwEnd (r : Req)
  /-- FW_ACTIVATE (R654): Makes a verified slot the trial and resets into it. -/
  | fwActivate (r : Req)
  /-- FW_COMMIT (R655): Saves migrated settings and commits the healthy trial image. -/
  | fwCommit (r : Req)
  /-- FW_FALLBACK (R657): Clears the trial and Warm-resets into the committed image. -/
  | fwFallback (r : Req)
  /-- FW_GET_STATUS (R660): Returns image, settings and strap status. -/
  | fwGetStatus (r : Req)
  /-- SET_SAVE (R652): Writes the live configuration to the older settings slot. -/
  | setSave (r : Req)
  /-- OPT_GET (R661): Returns both option-byte copies and the loaded values. -/
  | optGet (r : Req)
  /-- OPT_SET (R645): Writes the unloaded option-byte copy for the next Cold reset. -/
  | optSet (r : Req)
  /-- CRED_SET (R560): Provisions a wrapped credential key into a slot. -/
  | credSet (r : Req)
  /-- CRED_CLEAR (R561): Empties a credential slot. -/
  | credClear (r : Req)
  /-- CRED_LIST (R576): Returns which credential slots hold a key. -/
  | credList (r : Req)
  /-- AUDIT_READ (R569): Returns audit records from an index. -/
  | auditRead (r : Req)
  /-- AUDIT_STATUS (R569): Returns audit log indices and counters. -/
  | auditStatus (r : Req)
  /-- LC_GET (R570): Returns the life-cycle state. -/
  | lcGet (r : Req)
  /-- LC_ADVANCE (R571): Moves the part to the next permitted life-cycle state. -/
  | lcAdvance (r : Req)
  /-- TAMPER_SET (R574): Sets the response of each tamper source. -/
  | tamperSet (r : Req)
  /-- TAMPER_GET (R576): Returns tamper responses and source levels. -/
  | tamperGet (r : Req)
  /-- TRUST_SET (R563): Sets the Local Trust ceiling. -/
  | trustSet (r : Req)
  /-- TICK_BOUNDARY (R454): A tick starts at a Calendar boundary and every pipeline stage begins its work for its sample tick. -/
  | tickBoundary (x : TickIn)
  /-- RAMP_END (R92): A column's ramp reaches p = L, CURRENT takes TARGET and the column goes idle. -/
  | rampEnd (col : Nat)
  /-- TILE_WAKE_DONE (R97): A gated tile finishes waking and is active for its pass. -/
  | tileWakeDone (t : Nat)
  /-- CONCEAL_EXPIRY (R391): A fragment missing for more than CONCEAL ticks switches to presenting zeros. -/
  | concealExpiry (source : Nat) (flow : Nat)
  /-- COARSE_BLOCK_END (R252): A 10 ms coarse block ends and the coarse meter value is updated. -/
  | coarseBlockEnd (meter : Nat)
  /-- SLOW_PATH_READY (R253): After M × 2^k samples the meter's COARSE flag clears and the slow path is shown. -/
  | slowPathReady (meter : Nat)
  /-- SILENCE_HOLD_EXPIRY (R259): H consecutive quiet ticks make a detector turn silent. -/
  | silenceHoldExpiry (space : Nat) (slot : Nat)
  /-- PARK_HOLD_EXPIRY (R177): H consecutive quiet ticks park a parkable chain. -/
  | parkHoldExpiry (h : Nat)
  /-- DECISION_PERIOD_END (R197): At the end of a 64-tick period the Placement Unit measures and starts moves. -/
  | decisionPeriodEnd (temps : List Int) (occ : List Nat) (drvQ : List Nat)
  /-- PRECOPY_ROUND_DONE (R211): A pre-copy round finishes, and convergence sets the commit tick or another round starts. -/
  | precopyRoundDone (h : Nat) (err : Bool)
  /-- FINAL_COPY_DONE (R211): The final copy after the source's last run completes and the destination's twin run may start. -/
  | finalCopyDone (h : Nat) (err : Bool)
  /-- TWIN_RUN_COMPARE (R211): Both engines' twin-run outputs and state lines are compared bit for bit and the chain switches or aborts. -/
  | twinRunCompare (h : Nat) (equal : Bool) (destFail : Bool)
  /-- ADMISSION_COPY_DONE (R208): An admitted chain's image is in place and the chain is bound. -/
  | admissionCopyDone (h : Nat)
  /-- ENGINE_WAKE_DONE (R118): A woken fallow engine finishes zeroing its local store. -/
  | engineWakeDone (e : Nat)
  /-- SELF_TEST_SLICE (R591): An engine runs a self-test slice and compares its result CRC. -/
  | selfTestSlice (e : Nat) (pass : Bool)
  /-- FABRIC_READ (R272): A fabric read transaction is decoded, arbitrated and completed with a response. -/
  | fabricRead (x : Access)
  /-- FABRIC_WRITE (R272): A fabric write transaction is decoded, arbitrated and completed with a response. -/
  | fabricWrite (x : Access)
  /-- ATOMIC_ADD (R271): Adds to a Heath word in one access and returns the old value. -/
  | atomicAdd (x : Access)
  /-- ATOMIC_SWAP (R271): Swaps a Heath word in one access and returns the old value. -/
  | atomicSwap (x : Access)
  /-- LOCKED_SEQUENCE (R282): A master takes exclusive use of a target for a short read-modify-write. -/
  | lockedSequence (m : Nat) (a : Nat)
  /-- LOCK_LIMIT_EXPIRY (R283): A locked sequence reaches 16 beats or 2 µs and its later beats complete with LOCK_ABORT. -/
  | lockLimitExpiry (t : Nat) (m : Nat)
  /-- HOME_PORT_ACCESS (R288): A home master accesses its bank through the home port, winning sub-bank and word conflicts. -/
  | homePortAccess (x : Access)
  /-- HEATH_SCRUB (R292): Periodic scrub corrects or marks ECC errors in an On bank. -/
  | heathScrub (n : Nat) (ue : List Nat) (ce : Nat)
  /-- DRAM_SCRUB (R306): Idle scrub of the usable LPDDR5X capacity. -/
  | dramScrub (ue : List Nat) (ce : Nat)
  /-- HEATH_IDLE_TIMEOUT (R294): A bank idle for 1 ms under Auto enters Retention or Fallow. -/
  | heathIdleTimeout (n : Nat)
  /-- BANK_WAKE_DONE (R294): A bank woken from Retention by an access finishes waking and the access proceeds. -/
  | bankWakeDone (n : Nat)
  /-- HEATH_ZEROING_DONE (R293): A bank finishes zeroing from Fallow and stalled accesses proceed. -/
  | heathZeroingDone (n : Nat)
  /-- FRAME_FORWARD (R395): A received frame not for this node is cut-through forwarded by address and hop count. -/
  | frameForward (port : Nat) (frame : List Byte) (fcs : Nat)
  /-- AUDIO_FRAME (R387): A Sogus audio frame's blocks are accepted, discarded as late, early, standby, duplicate or malformed. -/
  | audioFrame (port : Nat) (frame : List Byte) (fcs : Nat) (ns : Nat)
  /-- CONTROL_FRAME (R547): A Sogus Control frame carries a GCP request or reply to this node. -/
  | controlFrame (port : Nat) (frame : List Byte) (fcs : Nat)
  /-- ANNOUNCE_FRAME (R399): An Announce updates the directory and is flooded once per SOURCE and SEQ. -/
  | announceFrame (port : Nat) (frame : List Byte) (fcs : Nat)
  /-- RING_HELLO (R401): A Ring hello is received, keeping the segment alive. -/
  | ringHello (port : Nat) (frame : List Byte) (fcs : Nat)
  /-- RING_FAULT (R402): A Ring fault message is forwarded and puts the node into Protected. -/
  | ringFault (port : Nat) (frame : List Byte) (fcs : Nat)
  /-- RING_RESTORE (R404): A Ring restore message returns the node to Normal. -/
  | ringRestore (port : Nat) (frame : List Byte) (fcs : Nat)
  /-- DIRECTORY_ENTRY_EXPIRY (R399): An unpinned directory entry without Announce for 350 ms is removed. -/
  | directoryEntryExpiry (node : Nat)
  /-- RING_HELLO_TIMER (R401): A ring port idle for 5 µs sends a Ring hello. -/
  | ringHelloTimer (port : Nat)
  /-- SEGMENT_LOSS (R401): A ring segment is found lost and the node sends Ring fault and enters Protected. -/
  | segmentLoss (port : Nat)
  /-- WTR_EXPIRY (R404): A restored segment up for WTR seconds makes its end nodes send Ring restore. -/
  | wtrExpiry (port : Nat)
  /-- LINK_TRAINED (R371): A link port finishes training and comes up. -/
  | linkTrained (port : Nat)
  /-- CRC_RATE_TRIP (R405): More than CRC_LIMIT bad frames in 1 s take the port down for 1 s. -/
  | crcRateTrip (port : Nat)
  /-- CRC_RATE_RECOVERY (R405): A port taken down by the CRC-rate monitor returns after 1 s. -/
  | crcRateRecovery (port : Nat)
  /-- AOIP_PACKET (R410): An RTP packet for an audio-over-IP receiver is buffered for presentation. -/
  | aoipPacket (port : Nat) (dest : Nat) (source : Nat) (udp : Nat) (rtp : List Byte)
  /-- ARP_REQUEST (R407): An ARP request for a port's address is answered. -/
  | arpRequest (port : Nat) (dest : Nat × Nat) (mac : Nat) (ip : Nat)
  /-- ICMP_ECHO (R425): An ICMP echo request on MG is answered when enabled. -/
  | icmpEcho (dest : Nat × Nat) (ip : Nat) (data : List Byte)
  /-- PTP_EVENT_MESSAGE (R411): A PTP event message is timestamped, and forwarded with residence time when in transit. -/
  | ptpEventMessage (port : Nat) (t : Nat) (outs : List (Nat × Nat)) (msg : PtpIn)
  /-- PTP_SYNC (R434): A Sync message acts as an edge of the PTP candidate for monitoring and the servo. -/
  | ptpSync (t : Nat) (msg : PtpIn)
  /-- MG_PAUSE_FRAME (R413): A received pause frame halts MG transmission. -/
  | mgPauseFrame (quanta : Nat)
  /-- WAKE_PATTERN_MATCH (R414): A frame on MG in Dormant matches a wake pattern and leads to Bring-up. -/
  | wakePatternMatch (frame : List Byte) (good : Bool)
  /-- AL_FRAME_RECEIVED (R416): A non-GCP frame on an Array Link port enters the queue or is dropped. -/
  | alFrameReceived (port : Nat) (frame : List Byte)
  /-- PLCA_BEACON_LOSS (R415): No PLCA beacon for 4 ms makes the port fall back to CSMA/CD. -/
  | plcaBeaconLoss (port : Nat)
  /-- MISSING_EDGE (R432): A candidate edge does not arrive within 1.5 periods and is counted missing. -/
  | missingEdge (c : Nat) (first : Bool)
  /-- FREQ_MONITOR_UPDATE (R433): Every 100 ms the frequency monitor updates and may reject a candidate. -/
  | freqMonitorUpdate (c : Nat) (ppb : Int)
  /-- CANDIDATE_QUALIFIED (R433): A candidate within ACCEPT_PPM for ACCEPT_S becomes Qualified. -/
  | candidateQualified (c : Nat)
  /-- W_MEAN_RECORD (R445): Each second while Locked the mean of w is recorded. -/
  | wMeanRecord (ns : Nat)
  /-- SERVO_MEASUREMENT (R452): The servo measures the phase or frequency error, steers w and may refuse a correction. -/
  | servoMeasurement (err : Int) (steered : Int)
  /-- PULSE_EDGE (R461): A PULSE output emits an edge at its event instant plus OFFSET. -/
  | pulseEdge (pulse : Nat) (n : Nat)
  /-- REFIN_TIMESTAMP (R463): A selected REFIN edge is timestamped into the input's queue or dropped. -/
  | refinTimestamp (input : Nat) (t : Nat)
  /-- ALMANAC_FIRE (R466): An Almanac entry fires its pulse, capture start, gate apply or notification. -/
  | almanacFire (e : Nat)
  /-- POWER_ON_RESET (R635): VAON becomes valid and the KD9 is held in reset for crystal start-up. -/
  | powerOnReset (bootSel : Nat) (clkMode : Nat) (testEn : Bool)
  /-- BROWN_OUT (R662): A rail stays below its brown-out level for 1 µs and causes a reset at its mapped depth. -/
  | brownOut (rail : Nat)
  /-- THERMAL_TRIP (R677): A sensor at 120 °C for 10 µs raises a fault and holds the node in reset. -/
  | thermalTrip (sensor : Nat)
  /-- DRAM_TRAINING_DONE (R307): LPDDR5X training, zeroing or self-refresh exit completes and DRAM_MIB is set. -/
  | dramTrainingDone (ok : Bool)
  /-- LINK_DOWN (R385): A link port loses PCS block lock or sees a reconciliation-sublayer fault and goes down, so its outbound frames are discarded and counted. -/
  | linkDown (port : Nat)
  /-- PTP_GENERAL_MESSAGE (R450): A PTP Announce, Follow_Up or Delay_Resp message arrives, feeding the best master clock algorithm, the servo and GM_CHANGE. -/
  | ptpGeneralMessage (msg : PtpIn)
  /-- PTP_INTERVAL_TIMER (R448): A PTP message interval expires and the clock sends its Announce, Sync or Delay_Req message. -/
  | ptpIntervalTimer (kind : Nat) (t : Nat)
  /-- SP_LOCK (R330): A clock-slave serial port locks after 64 good frames and unmutes at the next boundary. -/
  | spLock (port : Nat) (phase : Int) (hz : Nat)
  /-- SP_CLOCK_LOSS (R332): A clock-slave port loses its clock, mutes its inputs and reacquires. -/
  | spClockLoss (port : Nat) (pos : Nat)
  /-- SP_UNDERRUN (R333): A frame with too few BCLK edges is counted as an underrun. -/
  | spUnderrun (x : ShortFrame)
  /-- SP_OVERRUN (R333): A frame with too many BCLK edges is counted as an overrun. -/
  | spOverrun (port : Nat)
  /-- AE_LOCK_LOSS (R338): An AES3 receiver slips or loses its preambles and mutes. -/
  | aeLockLoss (port : Nat) (lost : Bool) (pos : Nat)
  /-- AE_RELOCK (R338): After 64 good frames an AES3 receiver unmutes at the next boundary. -/
  | aeRelock (port : Nat) (phase : Int) (hz : Nat)
  /-- AE_SUBFRAME (R339): A received subframe is checked for parity and its validity reported. -/
  | aeSubframe (port : Nat) (ch : Nat) (pos : Nat) (parityErr : Bool) (validity : Bool)
  /-- AE_CHANNEL_STATUS_BLOCK (R339): A channel-status block is checked by CRCC and decoded. -/
  | aeChannelStatusBlock (port : Nat) (block : List Byte)
  /-- ASRC_RELOCK (R342): An ASRC input relocks at a new rate and its group delay is recomputed. -/
  | asrcRelock (ae : Bool) (port : Nat) (hz : Nat)
  /-- DC_TRIP (R349): A channel's filtered output exceeds 2 % for 200 ms and its gates turn off. -/
  | dcTrip (c : Nat)
  /-- DRV_FAULT (R351): DRV_FAULT_N low for 1 µs turns every gate off and drops DRV_EN. -/
  | drvFault (high : Bool)
  /-- FB_LOST (R345): FBK without transition for 4096 MCLKOUT cycles makes the channel run without feedback. -/
  | fbLost (c : Nat)
  /-- SLP_CLASSIFY (R357): 100 ms after insertion the accessory is classified and an insertion event queued. -/
  | slpClassify (mv : Nat)
  /-- STAGE_WRITE (R486): A group writes ticks staged for 20 ms to its segment. -/
  | stageWrite (k : Nat)
  /-- DRIVE_WRITE_COMPLETE (R486): A durable write completes, a journal mark is written and LAST_TICK advances. -/
  | driveWriteComplete (k : Nat) (d : Nat) (err : Bool)
  /-- DRIVE_FAIL (R498): A capture drive fails and its open segments are closed and redirected. -/
  | driveFail (d : Nat)
  /-- DRIVE_COMMAND_TIMEOUT (R498): A drive command not completed in 500 ms fails the drive. -/
  | driveCommandTimeout (d : Nat)
  /-- DRIVE_RETURN (R498): A failed drive returns and is mounted again. -/
  | driveReturn (d : Nat)
  /-- READAHEAD_FILLED (R493): A waiting replay's read-ahead is filled and the replay is bound. -/
  | readaheadFilled (job : Nat)
  /-- BEAT (R584): A Beat from the partner reports mode, state, versions and DST check. -/
  | beat (port : Nat) (frame : List Byte) (fcs : Nat)
  /-- MIRROR (R588): A Shadow executes a mirrored request and acknowledges it. -/
  | mirror (port : Nat) (frame : List Byte) (fcs : Nat)
  /-- ACK (R588): The Active receives the Shadow's status for a Mirror. -/
  | ack (port : Nat) (frame : List Byte) (fcs : Nat)
  /-- RELINQUISH (R596): A Ready Shadow accepts a Relinquish and takes over at its handover tick. -/
  | relinquish (port : Nat) (frame : List Byte) (fcs : Nat)
  /-- VIGIL (R593): The Active receives the Shadow's health report. -/
  | vigil (port : Nat) (frame : List Byte) (fcs : Nat)
  /-- RESYNC_REQUEST (R601): The Active receives a resync request and starts resynchronisation. -/
  | resyncRequest (port : Nat) (frame : List Byte) (fcs : Nat)
  /-- RESYNC_DATA (R601): The Shadow loads tables, snapshots or state lines of a resynchronisation. -/
  | resyncData (port : Nat) (frame : List Byte) (fcs : Nat) (part : Resync)
  /-- PARTNER_RESET (R605): A node in Run-Shadow acknowledges and performs a partner reset. -/
  | partnerReset (port : Nat) (frame : List Byte) (fcs : Nat)
  /-- PARTNER_RESET_TIMEOUT (R605): No partner-reset acknowledgement in 200 ms makes SYS_RESET reply BUSY. -/
  | partnerResetTimeout (acc : Nat)
  /-- PAIR_PATH_TIMEOUT (R586): No Beat on a pair path for 1 ms marks it down, possibly making the Shadow Unsynced. -/
  | pairPathTimeout (b : Bool)
  /-- MIRROR_RESEND (R588): An unacknowledged Mirror is resent every 1 ms until acknowledged or due. -/
  | mirrorResend (seq : Nat)
  /-- PAIR_LISTEN_TIMEOUT (R582): The bring-up listening time ends and the node enters Run-Active or Run-Shadow. -/
  | pairListenTimeout (high : Bool)
  /-- TAMPER_DETECT (R574): A tamper source fires and its response of off, log or wipe is applied. -/
  | tamperDetect (src : Nat)
  /-- TAMPER_REARM (R574): A tamper source normal for 1 s may fire again. -/
  | tamperRearm (src : Nat)
  /-- METER_MINUTE_BOUNDARY (R697): At each minute the meter corrects its time and writes a linked minute record. -/
  | meterMinuteBoundary (age : Nat)
  /-- METER_SERIAL_GET_INFO (R704): Serial operation 0x01 returns the METER_GET_INFO payload. -/
  | meterSerialGetInfo (arg : Nat) (crc : Nat)
  /-- METER_SERIAL_READ (R704): Serial operation 0x02 returns up to 16 records from an index. -/
  | meterSerialRead (arg : Nat) (crc : Nat)
  /-- METER_SERIAL_ACK_EXPORT (R704): Serial operation 0x03 sets the export index. -/
  | meterSerialAckExport (arg : Nat) (crc : Nat)
  /-- METER_SERIAL_GET_LIVE (R704): Serial operation 0x04 returns the METER_GET_LIVE payload. -/
  | meterSerialGetLive (arg : Nat) (crc : Nat)
  /-- METER_ALARM_REPEAT (R710): A lasting meter alarm is raised again each hour. -/
  | meterAlarmRepeat (code : Nat)
  /-- METER_POWER_LOSS (R696): VMET fails; the meter stops or, without VMETBAT, becomes Lost. -/
  | meterPowerLoss (battery : Bool)
  /-- NVME_DRIVE_DETECTED (R506): A drive appears on an empty or replaced root-port slot and is identified, ready for CAP_DRIVE_JOIN. -/
  | nvmeDriveDetected (d : Nat) (link : Nat) (bytes : Nat) (wear : Nat) (written : Nat) (block : Nat) (rev : Nat) (a : Option Super) (b : Option Super) (map : List Seg)
  /-- DRIVE_HEALTH_REPORT (R499): A drive reports its Percentage Used or critical warning, raising the wear Note fault at 90 or marking the drive not healthy. -/
  | driveHealthReport (d : Nat) (wear : Nat) (written : Nat) (warn : Bool)
  /-- ALIVE_WATCH_TIMEOUT (R615): 1 ms passes without a Management Processor heartbeat, or without a tick in a mode with audio, and ALIVE stops toggling. -/
  | aliveWatchTimeout (tick : Bool)
  /-- NOP (R142): M- or L-slot operation that does nothing for one cycle. -/
  | nop (e : Nat) (m : MArgs) (l : LArgs)
  /-- VADD (R142): Wrapping lane add. -/
  | vadd (e : Nat) (m : MArgs) (l : LSlot)
  /-- VADDS (R142): Saturating lane add. -/
  | vadds (e : Nat) (m : MArgs) (l : LSlot)
  /-- VSUB (R142): Wrapping lane subtract. -/
  | vsub (e : Nat) (m : MArgs) (l : LSlot)
  /-- VSUBS (R142): Saturating lane subtract. -/
  | vsubs (e : Nat) (m : MArgs) (l : LSlot)
  /-- VNEGS (R142): Saturating lane negate. -/
  | vnegs (e : Nat) (m : MArgs) (l : LSlot)
  /-- VABSS (R142): Saturating lane absolute value. -/
  | vabss (e : Nat) (m : MArgs) (l : LSlot)
  /-- VMAX (R142): Signed lane maximum. -/
  | vmax (e : Nat) (m : MArgs) (l : LSlot)
  /-- VMIN (R142): Signed lane minimum. -/
  | vmin (e : Nat) (m : MArgs) (l : LSlot)
  /-- VAND (R142): Lane bitwise and. -/
  | vand (e : Nat) (m : MArgs) (l : LSlot)
  /-- VOR (R142): Lane bitwise or. -/
  | vor (e : Nat) (m : MArgs) (l : LSlot)
  /-- VXOR (R142): Lane bitwise xor. -/
  | vxor (e : Nat) (m : MArgs) (l : LSlot)
  /-- VSHLS (R142): Saturating lane shift left. -/
  | vshls (e : Nat) (m : MArgs) (l : LSlot)
  /-- VSHRR (R142): Rounding lane shift right. -/
  | vshrr (e : Nat) (m : MArgs) (l : LSlot)
  /-- VSHR (R142): Truncating arithmetic lane shift right. -/
  | vshr (e : Nat) (m : MArgs) (l : LSlot)
  /-- VSATN (R142): Limits lanes to a symmetric bit range. -/
  | vsatn (e : Nat) (m : MArgs) (l : LSlot)
  /-- VCMP (R142): Sets a predicate from a lane comparison in any or all lanes. -/
  | vcmp (e : Nat) (m : MArgs) (l : LSlot)
  /-- VMULR (R142): Rounded saturating lane multiply. -/
  | vmulr (e : Nat) (m : MArgs) (l : LSlot)
  /-- VMAC (R142): Accumulates lane products. -/
  | vmac (e : Nat) (m : MArgs) (l : LSlot)
  /-- VMSU (R142): Subtracts lane products from an accumulator. -/
  | vmsu (e : Nat) (m : MArgs) (l : LSlot)
  /-- VMUL (R142): Loads an accumulator with lane products. -/
  | vmul (e : Nat) (m : MArgs) (l : LSlot)
  /-- ACLR (R142): Clears an accumulator. -/
  | aclr (e : Nat) (m : MArgs) (l : LSlot)
  /-- AADD (R142): Adds one accumulator to another. -/
  | aadd (e : Nat) (m : MArgs) (l : LSlot)
  /-- ASUM (R142): Sums an accumulator's lanes into lane 0. -/
  | asum (e : Nat) (m : MArgs) (l : LSlot)
  /-- VTOA (R142): Moves a shifted vector into an accumulator. -/
  | vtoa (e : Nat) (m : MArgs) (l : LSlot)
  /-- EXT (R142): Extracts a rounded saturated vector from an accumulator. -/
  | ext (e : Nat) (m : MArgs) (l : LSlot)
  /-- BQ (R144): Runs one transposed direct-form II biquad per lane. -/
  | bq (e : Nat) (m : MArgs) (l : LSlot)
  /-- FIRS (R145): Runs one FIR step from a circular state buffer. -/
  | firs (e : Nat) (m : MArgs) (l : LSlot)
  /-- LIN (R146): Converts a gain code to a packed coefficient. -/
  | lin (e : Nat) (m : MArgs) (l : LSlot)
  /-- GMUL (R147): Applies a packed coefficient exactly as a Sward tile, saturated. -/
  | gmul (e : Nat) (m : MArgs) (l : LSlot)
  /-- GMAC (R147): Accumulates Sward products without saturation. -/
  | gmac (e : Nat) (m : MArgs) (l : LSlot)
  /-- LOG2 (R148): Computes a rounded Q15.16 base-2 logarithm per lane. -/
  | log2 (e : Nat) (m : MArgs) (l : LSlot)
  /-- EXP2 (R149): Computes a rounded base-2 exponent per lane. -/
  | exp2 (e : Nat) (m : MArgs) (l : LSlot)
  /-- SADD (R142): Wrapping scalar add. -/
  | sadd (e : Nat) (m : MArgs) (l : LSlot)
  /-- SSUB (R142): Wrapping scalar subtract. -/
  | ssub (e : Nat) (m : MArgs) (l : LSlot)
  /-- SADDS (R142): Saturating scalar add. -/
  | sadds (e : Nat) (m : MArgs) (l : LSlot)
  /-- SMUL (R142): Low 32 bits of a scalar product. -/
  | smul (e : Nat) (m : MArgs) (l : LSlot)
  /-- SAND (R142): Scalar bitwise and. -/
  | sand (e : Nat) (m : MArgs) (l : LSlot)
  /-- SOR (R142): Scalar bitwise or. -/
  | sor (e : Nat) (m : MArgs) (l : LSlot)
  /-- SXOR (R142): Scalar bitwise xor. -/
  | sxor (e : Nat) (m : MArgs) (l : LSlot)
  /-- SSHL (R142): Scalar shift left. -/
  | sshl (e : Nat) (m : MArgs) (l : LSlot)
  /-- SSHR (R142): Scalar arithmetic shift right. -/
  | sshr (e : Nat) (m : MArgs) (l : LSlot)
  /-- SADDI (R142): Scalar add of a sign-extended immediate. -/
  | saddi (e : Nat) (m : MArgs) (l : LSlot)
  /-- SMOVI (R142): Loads a scalar with an immediate. -/
  | smovi (e : Nat) (m : MArgs) (l : LSlot) (imm : Option Nat)
  /-- SCMP (R142): Sets a predicate from a scalar comparison. -/
  | scmp (e : Nat) (m : MArgs) (l : LSlot)
  /-- QSET (R142): Sets a predicate to an immediate bit. -/
  | qset (e : Nat) (m : MArgs) (l : LSlot)
  /-- VBC (R142): Broadcasts a scalar to every lane. -/
  | vbc (e : Nat) (m : MArgs) (l : LSlot)
  /-- VGET (R142): Reads one lane into a scalar. -/
  | vget (e : Nat) (m : MArgs) (l : LSlot)
  /-- VPUT (R142): Writes a scalar into one lane. -/
  | vput (e : Nat) (m : MArgs) (l : LSlot)
  /-- VMOV (R142): Copies a vector. -/
  | vmov (e : Nat) (m : MArgs) (l : LSlot)
  /-- VROT (R142): Rotates lanes. -/
  | vrot (e : Nat) (m : MArgs) (l : LSlot)
  /-- VIMM (R142): Loads every lane with a long immediate. -/
  | vimm (e : Nat) (m : MArgs) (imm : Nat)
  /-- LDV (R150): Loads a vector from state at a pointer offset. -/
  | ldv (e : Nat) (l : LArgs) (m : MSlot)
  /-- LDVP (R150): Loads a vector and advances the pointer. -/
  | ldvp (e : Nat) (l : LArgs) (m : MSlot)
  /-- STV (R150): Stores a vector to state at a pointer offset. -/
  | stv (e : Nat) (l : LArgs) (m : MSlot)
  /-- STVP (R150): Stores a vector and advances the pointer. -/
  | stvp (e : Nat) (l : LArgs) (m : MSlot)
  /-- LDS (R150): Loads a scalar word from state. -/
  | lds (e : Nat) (l : LArgs) (m : MSlot)
  /-- LDSP (R150): Loads a scalar word and advances the pointer. -/
  | ldsp (e : Nat) (l : LArgs) (m : MSlot)
  /-- STS (R150): Stores a scalar word to state. -/
  | sts (e : Nat) (l : LArgs) (m : MSlot)
  /-- STSP (R150): Stores a scalar word and advances the pointer. -/
  | stsp (e : Nat) (l : LArgs) (m : MSlot)
  /-- LDA (R150): Loads an accumulator from 128 bytes of state. -/
  | lda (e : Nat) (l : LArgs) (m : MSlot)
  /-- STA (R150): Stores an accumulator to 128 bytes of state. -/
  | sta (e : Nat) (l : LArgs) (m : MSlot)
  /-- PADD (R151): Advances a pointer by a scalar byte count. -/
  | padd (e : Nat) (l : LArgs) (m : MSlot)
  /-- PSET (R150): Sets a pointer's address and base. -/
  | pset (e : Nat) (l : LArgs) (imm : Nat)
  /-- PLEN (R150): Sets a pointer's modulo length. -/
  | plen (e : Nat) (l : LArgs) (imm : Nat)
  /-- PGET (R150): Reads a pointer's address into a scalar. -/
  | pget (e : Nat) (l : LArgs) (m : MSlot)
  /-- PPUT (R150): Writes a pointer's address from a scalar. -/
  | pput (e : Nat) (l : LArgs) (m : MSlot)
  /-- WRDC (R156): Reads input windows channel-major. -/
  | wrdc (e : Nat) (l : LArgs) (m : MSlot)
  /-- WRDS (R156): Reads input windows sample-major. -/
  | wrds (e : Nat) (l : LArgs) (m : MSlot)
  /-- WRDCX (R156): Reads input windows channel-major at an indexed position. -/
  | wrdcx (e : Nat) (l : LArgs) (m : MSlot)
  /-- WRDSX (R156): Reads input windows sample-major at an indexed position. -/
  | wrdsx (e : Nat) (l : LArgs) (m : MSlot)
  /-- WWRC (R156): Writes output windows channel-major. -/
  | wwrc (e : Nat) (l : LArgs) (m : MSlot)
  /-- WWRS (R156): Writes output windows sample-major. -/
  | wwrs (e : Nat) (l : LArgs) (m : MSlot)
  /-- WWRCX (R156): Writes output windows channel-major at an indexed position. -/
  | wwrcx (e : Nat) (l : LArgs) (m : MSlot)
  /-- WWRSX (R156): Writes output windows sample-major at an indexed position. -/
  | wwrsx (e : Nat) (l : LArgs) (m : MSlot)
  /-- TRDC (R156): Reads tap windows channel-major. -/
  | trdc (e : Nat) (l : LArgs) (m : MSlot)
  /-- TRDS (R156): Reads tap windows sample-major. -/
  | trds (e : Nat) (l : LArgs) (m : MSlot)
  /-- TRDCX (R156): Reads tap windows channel-major at an indexed position. -/
  | trdcx (e : Nat) (l : LArgs) (m : MSlot)
  /-- TRDSX (R156): Reads tap windows sample-major at an indexed position. -/
  | trdsx (e : Nat) (l : LArgs) (m : MSlot)
  /-- DWRC (R156): Writes line-write windows channel-major. -/
  | dwrc (e : Nat) (l : LArgs) (m : MSlot)
  /-- DWRS (R156): Writes line-write windows sample-major. -/
  | dwrs (e : Nat) (l : LArgs) (m : MSlot)
  /-- DWRCX (R156): Writes line-write windows channel-major at an indexed position. -/
  | dwrcx (e : Nat) (l : LArgs) (m : MSlot)
  /-- DWRSX (R156): Writes line-write windows sample-major at an indexed position. -/
  | dwrsx (e : Nat) (l : LArgs) (m : MSlot)
  /-- BR (R150): Relative branch when the predicate allows. -/
  | br (e : Nat) (l : LArgs) (m : MSlot)
  /-- BRL (R150): Branch to an absolute bundle of the chain's code. -/
  | brl (e : Nat) (l : LArgs) (imm : Nat)
  /-- LOOP (R153): Repeats the next bundles a scalar count of times. -/
  | loop (e : Nat) (l : LArgs) (m : MSlot)
  /-- LOOPI (R153): Repeats the next bundles an immediate count of times. -/
  | loopi (e : Nat) (l : LArgs) (imm : Nat)
  /-- LOOP_COUNT_EXPIRY (R153): A loop counter runs out at the back edge and execution continues after the body. -/
  | loopCountExpiry (e : Nat)
  /-- TEND (R168): Ends the chain's tick, completes stores, hands windows to the mover and starts the next chain. -/
  | tend (e : Nat) (l : LArgs) (m : MSlot)
  /-- FENCE (R150): Waits until earlier stores reach the data store. -/
  | fence (e : Nat) (l : LArgs) (m : MSlot)
  /-- SYSRD (R150): Reads tick size, rate code or sample tick into a scalar. -/
  | sysrd (e : Nat) (l : LArgs) (m : MSlot)
  /-- WINDOW_DATA_ARRIVAL (R158): Window data the engine stalled on arrives from the slot mover and the bundle proceeds. -/
  | windowDataArrival (e : Nat)
  /-- SWAP_BLOCK_ARRIVAL (R172): A swapped chain's state block arrives in its swap buffer and the chain may start. -/
  | swapBlockArrival (e : Nat)
  /-- WIN_FF0_VALID_CLEAR (R618): Writing 1 to VALID clears the whole first-error capture. -/
  | winFf0ValidClear
  /-- FORCED_CLEAR (R41): Writing 1 to FORCED in WIN_MODE clears the forced-change flag. -/
  | forcedClear
  /-- REMAP_SET (R268): Writing 1 to REMAP in FAB_CTRL maps the H17 alias at address zero for every later grant. -/
  | remapSet
  /-- PERST (R545): A PERST reset of the PCIe endpoint clears both ring ENABLE bits and resets nothing else. -/
  | perst
  /-- CHAIN_DEADLINE (R78): The chain deadline arrives and every chain not past TEND misses, with zero outputs and restored state. -/
  | chainDeadline
  /-- DRV_CLOCK_ERROR (R350): A clock fault makes the Drive Modulator ramp down, gate off and drop DRV_EN. -/
  | drvClockError
  /-- DRV_CLOCK_RESTORE (R350): After 500 ms of good clock the Drive Modulator channels soft-start. -/
  | drvClockRestore
  /-- DRV_FREQ_CHANGE (R348): A channel adopts a new switching frequency at its carrier period boundary. -/
  | drvFreqChange
  /-- SLP_INSERTION (R357): A debounced jack insertion is detected. -/
  | slpInsertion
  /-- SLP_REMOVAL (R358): A jack removal is queued as an event and discards any press in progress. -/
  | slpRemoval
  /-- SLP_PRESS (R357): A headset button press begins. -/
  | slpPress
  /-- SLP_PRESS_RELEASE (R358): A button release ends a short or held press. -/
  | slpPressRelease
  /-- SLP_SEQUENCE_REPORT (R358): 300 ms after the last release a press sequence is reported as an event. -/
  | slpSequenceReport
  /-- SLP_LONG_PRESS (R358): A press held 2 s is reported as a long press, confirming fallback or a Recovery choice. -/
  | slpLongPress
  /-- SLP_TONE_END (R658): A tone finishes, starting a fallback or Recovery reset when it was a confirmation. -/
  | slpToneEnd
  /-- LIMP_ANNOUNCE (R658): In Settings-Limp the two-tone announcement plays every 10 s with a headset present. -/
  | limpAnnounce
  /-- ANNOUNCE_TIMER (R399): Every 100 ms the node sends an Announce on every port that is up. -/
  | announceTimer
  /-- PTP_ANNOUNCE_TIMEOUT (R434): The announce receipt timeout rejects the PTP candidate. -/
  | ptpAnnounceTimeout
  /-- MG_PAUSE_LIMIT (R413): A pause lasting beyond PAUSE_LIMIT resumes sending and ignores pause for 1 s. -/
  | mgPauseLimit
  /-- XO_FAULT (R431): The clean-up PLL loses lock or drifts, ticks stop and a Severe fault is raised. -/
  | xoFault
  /-- HO_LIMIT_REACHED (R447): The holdover timer reaches HO_LIMIT, setting HO_SPEC and a Note fault. -/
  | hoLimitReached
  /-- SERVO_LOCK (R444): An error within the lock limit for 1 s puts the servo into Locked. -/
  | servoLock
  /-- CLK_MODE_TIMEOUT (R474): A 30 s CLK_MODE wait ends without lock and the data plane starts in Free run. -/
  | clkModeTimeout
  /-- VOLUME_MOUNT (R501): A capture volume is mounted, replaying the journal when not clean. -/
  | volumeMount
  /-- VIGIL_TIMER (R592): A Shadow sends a Vigil every 100 ms. -/
  | vigilTimer
  /-- VIGIL_TIMEOUT (R592): The Active hears no Vigil for 300 ms and treats the Shadow as absent. -/
  | vigilTimeout
  /-- DST_CHECK (R590): Every 1024 ticks each node forms a DST CRC and the Shadow compares it. -/
  | dstCheck
  /-- PAIR_ACT_IN_LOW (R596): PAIR_ACT_IN seen low for 0.2 µs marks loss of the Active. -/
  | pairActInLow
  /-- HANDOVER (R595): At handover tick H the relinquishing Active drops PAIR_ACT_OUT and enters Run-Shadow. -/
  | handover
  /-- TAKEOVER (R597): At the takeover boundary the Shadow becomes Active in one step. -/
  | takeover
  /-- RESYNC_REQUEST_TIMER (R600): A Joining or Unsynced Shadow resends a resync request every 10 s. -/
  | resyncRequestTimer
  /-- RESYNC_STEP_DONE (R601): A resynchronisation step completes and the next begins, or the Shadow becomes Ready. -/
  | resyncStepDone
  /-- RESYNC_TIMEOUT (R602): Resynchronisation not Ready within 60 s makes the Shadow Unsynced. -/
  | resyncTimeout
  /-- FAULT_STATE_EXIT (R614): QUIET without fault-state faults ends the fault state and counts a recovery. -/
  | faultStateExit
  /-- FAULT_INJECT_FIRE (R627): An injected fault is raised at its interval through the full collector path. -/
  | faultInjectFire
  /-- SHED_LEVEL_UP (R626): Management Processor load above 90 % sheds one further level of work. -/
  | shedLevelUp
  /-- SHED_LEVEL_DOWN (R626): Load below 70 % for 1 s restores one shed level. -/
  | shedLevelDown
  /-- MGMT_WATCHDOG (R609): The Management Processor watchdog expires and a System reset follows. -/
  | mgmtWatchdog
  /-- CP_WATCHDOG (R609): The Command Processor watchdog expires and the Command Processor alone restarts. -/
  | cpWatchdog
  /-- VAON_LOSS (R36): Loss of VAON puts the KD9 Off. -/
  | vaonLoss
  /-- RESET_N_ASSERT (R636): RESET_N low for 4 samples starts a reset. -/
  | resetNAssert
  /-- RESET_N_RELEASE (R636): RESET_N high ends the hold and bring-up begins. -/
  | resetNRelease
  /-- THERMAL_RELEASE (R634): Every sensor below 100 °C releases a thermal-trip reset. -/
  | thermalRelease
  /-- PLANE_RESET (R640): The data plane stops, isolates, clears sequencing and zeroes the Slot Exchange. -/
  | planeReset
  /-- PLANE_RESTART (R642): The data plane restarts at the first boundary at which every unit is ready. -/
  | planeRestart
  /-- CRYSTAL_STARTUP_DONE (R635): 4096 crystal cycles pass and bring-up step 1 ends. -/
  | crystalStartupDone
  /-- OPTION_LOAD_DONE (R644): The option loader finishes and option values take effect together. -/
  | optionLoadDone
  /-- PLL_LOCK (R455): The clean-up PLL locks or free-runs and the local clock starts. -/
  | pllLock
  /-- BOOT_ROM_DONE (R649): The boot ROM selects and verifies an image, sets REMAP and starts firmware. -/
  | bootRomDone
  /-- SETTINGS_LOADED (R651): Firmware loads or migrates settings and applies them at one boundary. -/
  | settingsLoaded
  /-- DATA_PLANE_START (R648): The data plane starts after any CLK_MODE wait and the node enters its start mode. -/
  | dataPlaneStart
  /-- TRIAL_HEALTHY (R650): A trial boot runs 60 s without Severe or Fatal fault and TRIES is zeroed. -/
  | trialHealthy
  /-- PWRFAIL (R672): PWRFAIL_N low for 1 µs starts the shut-down sequence. -/
  | pwrfail
  /-- SHUTDOWN_CAPTURE_DONE (R672): Capture flush and segment closing finish and the data plane stops toward Parked. -/
  | shutdownCaptureDone
  /-- SUPPLY_RETURN (R675): PWRFAIL_N high for 10 ms after Parked leads to a Warm restart. -/
  | supplyReturn
  /-- AVS_REQUEST (R665): A coalesced VCORE set-point request is sent over AVSBus. -/
  | avsRequest
  /-- AVS_SLEW_DONE (R665): The regulator reports completion and the new speed applies. -/
  | avsSlewDone
  /-- AVS_TIMEOUT (R666): The regulator does not complete in 1 ms and fault 0x1003 is raised. -/
  | avsTimeout
  /-- SEAL_IND_TIMER (R705): Once a second METER_SEAL_IND sends the seal state, SEC and alarm. -/
  | sealIndTimer
  /-- METER_MAILBOX_TIMEOUT (R709): A meter operation unanswered for 100 ms returns BUSY and raises alarm 0x06. -/
  | meterMailboxTimeout
  /-- METER_POWER_RETURN (R708): VMET returns and the next record carries POWER. -/
  | meterPowerReturn
  /-- TEST_EN_FALL (R36): TEST_EN falls while the node is in Factory Test and the KD9 performs a System reset into Bring-up. -/
  | testEnFall
  /-- TICK_BOUNDARY_LATE (R579): A tick boundary is more than 2 µs late, so PAIR_ACT_OUT falls and fault 0x0101 is raised. -/
  | tickBoundaryLate
  /-- METER_BATTERY_LOW (R710): VMETBAT falls below 2.5 V and the Sealed Meter raises alarm 0x03. -/
  | meterBatteryLow
  /-- SLP_HELD_PRESS_THRESHOLD (R358): A press passes 500 ms and the short-press sequence before it is reported at that moment. -/
  | slpHeldPressThreshold
  /-- DRV_RAMP_DOWN_DONE (R350): The 1 ms soft-mute ramp of the Drive Modulator ends, and it turns every gate off and drives DRV_EN low. -/
  | drvRampDownDone
  /-- MG_PAUSE_END (R413): A received pause condition runs out and MG resumes sending. -/
  | mgPauseEnd
  /-- MG_PAUSE_IGNORE_END (R413): The 1 s in which MG ignores pause frames after the watchdog ends, and MG obeys pause frames again. -/
  | mgPauseIgnoreEnd
  /-- ALIVE_QUIET_EXPIRY (R616): With ALIVE MODE 0x1, QUIET after a Degraded fault ends and ALIVE resumes toggling. -/
  | aliveQuietExpiry
  /-- RAILS_SETTLED (R723): Every rail outside the Sealed Meter has been above its brown-out level for 1 ms, so the power-on reset may end. -/
  | railsSettled
  deriving DecidableEq, Repr

end Sys2Proof
end

