-- ==== Sys2Proof/Decode.lean ====
section
/-! DEFINITION. The words of the table's rows. The rows of spec/opcode_table.json give no bits: commands reach the block as requests,
frames, register accesses and events (log entry 1), so no word spells a command. -/

namespace Sys2Proof

/-- The command that a word spells by the table's bits: none. -/
def decodeTableWord (_nbits _w : Nat) : Option Instr := none

end Sys2Proof
end

