-- ==== Sys2Proof/Config.lean ====
section
/-! DEFINITION. What the spec leaves open or another standard computes: free values and uninterpreted functions. None has a body. -/

namespace Sys2Proof

/-- The free values: the value the manual leaves open at the `i`-th such event (log entry 5). -/
opaque Config.freeValue : Nat → BitVec 128

/-- The byte the boot ROM holds at a fabric address (07 R267); the spec gives no contents (log entry 12). -/
opaque Config.bootRom : Nat → BitVec 8

/-- AES key unwrap of RFC 3394: key, wrapped key, and the 32-byte key when its integrity check passes (14 R560; log entry 14). -/
opaque Config.aesUnwrap : List Byte → List Byte → Option (List Byte)

/-- Whether an image's Ed25519 signature verifies under the key held in the boot ROM (17 R649; log entry 14). -/
opaque Config.imageGood : List Byte → Bool

/-- The settings schema that a firmware image writes; the layout of an image is not given (17 R648; log entry 14). -/
opaque Config.imageSchema : List Byte → Nat

/-- How far the handshake rate of a Lea's engines lies above the lowest rate that the spec gives for a setting, in MHz-equivalent, at a VCORE
in mV and a temperature in degrees C; the spec gives the rate at a few corners only (00 R11, 18 R663, 05 R228; log entry 21). -/
opaque Config.engineExtra : Nat → Int → Nat

/-- Whether firmware that writes one settings schema can migrate from another (17 R651; log entry 14). -/
opaque Config.migrates : Nat → Nat → Bool

/-- FW_VERSION of the golden firmware in the boot ROM (17 R649; log entry 12). -/
opaque Config.goldenVersion : BitVec 32

/-- The Ed25519 signature the Sealed Meter makes (19 R700; log entry 14). -/
opaque Config.meterSign : List Byte → List Byte

/-- The public key of the Sealed Meter (19 R712; log entry 14). -/
opaque Config.meterKey : Nat → Byte

/-- The firmware identity of the Sealed Meter's ROM program, 8 bytes (19 R706). -/
opaque Config.meterRomId : Nat → Byte

/-- FW_VERSION of the Sealed Meter's ROM program (19 R712). -/
opaque Config.meterRomVersion : BitVec 32

/-- FW_VERSION of a Sealed Meter image; the layout of an image is not given (19 R707, R712; log entry 14). -/
opaque Config.meterImageVersion : List Byte → BitVec 32

/-- Coefficient `j` (b0, b1, b2, a1, a2; Q2.29) of section `i` of a weighting in the meter ROM: curve 0 A, 1 C, 2 K, at a rate of
RATE_MAP. The spec gives them by the class 1 tolerances of IEC 61672-1 only, and K by BS.1770 (19 R684, R685; log entry 70). -/
opaque Config.meterCoef : Nat → Nat → Nat → Nat → BitVec 32

/-- The highest magnitude that oversampling by a factor (4, 2) finds at the newest of the last samples, newest first; the spec gives the
factor and not the filter (19 R684; log entry 70). -/
opaque Config.overPeak : Nat → List Int → Nat

/-- The output of the single-pole low-pass at 2 Hz after a sample, at a rate in Hz, from its last output and the sample; the spec gives the corner
and not the coefficient or the rounding (09 R349; log entry 5). -/
opaque Config.lowPass2Hz : Nat → Int → Int → Int

/-- Whether a Sealed Meter image verifies under the Lutur meter key (19 R707; log entry 14). -/
opaque Config.meterImageGood : List Byte → Bool

end Sys2Proof
end

