-- ==== Sys2Proof/Machine/Bits.lean ====
section
/-! DEFINITION. Bytes, byte orders, bit fields and sign extension, and the CRCs and hashes of the protocol. -/

namespace Sys2Proof.Machine

/-- Byte `i` of a block as a number; zero beyond its end. -/
def byteAt (bs : List Byte) (i : Nat) : Nat := (bs.getD i 0).toNat

/-- Whether fewer than `d` ns of local time have passed since `t`. Where the clock was set back behind `t`, the time is over (log entry
8). -/
def lately (t d now : Nat) : Bool := decide (t ≤ now) && decide (now < t + d)

/-- The big-endian number in a list of bytes (13 R511). -/
def ofBE : List Byte → Nat → Nat
  | [], a => a
  | b :: r, a => ofBE r (a * 256 + b.toNat)

/-- The `n`-byte big-endian field at byte `off`. -/
def be (bs : List Byte) (off n : Nat) : Nat := ofBE ((bs.drop off).take n) 0

/-- The little-endian number in a list of bytes. -/
def ofLE : List Byte → Nat
  | [] => 0
  | b :: r => b.toNat + 256 * ofLE r

/-- The `n`-byte little-endian field at byte `off`. -/
def le (bs : List Byte) (off n : Nat) : Nat := ofLE ((bs.drop off).take n)

/-- A field of `w` bits read as two's complement. -/
def signed (w v : Nat) : Int := if v % 2 ^ w < 2 ^ (w - 1) then (v % 2 ^ w : Int) else (v % 2 ^ w : Int) - 2 ^ w

/-- The signed `n`-byte big-endian field at byte `off`. -/
def beS (bs : List Byte) (off n : Nat) : Int := signed (8 * n) (be bs off n)

/-- A number as `w` bits of two's complement. -/
def wrap (w : Nat) (v : Int) : Nat := (v % (2 ^ w : Int)).toNat

/-- `n` bytes, big-endian. -/
def toBE (n v : Nat) : List Byte := (List.range n).map fun i => BitVec.ofNat 8 (v / 256 ^ (n - 1 - i))

/-- `n` bytes, little-endian. -/
def toLE (n v : Nat) : List Byte := (List.range n).map fun i => BitVec.ofNat 8 (v / 256 ^ i)

/-- A signed number as `n` bytes, big-endian. -/
def toBES (n : Nat) (v : Int) : List Byte := toBE n (wrap (8 * n) v)

/-- `n` zero bytes. -/
def zeroBytes (n : Nat) : List Byte := List.replicate n 0

/-- A list cut or zero-filled to length `n`. -/
def fit (n : Nat) (bs : List Byte) : List Byte := (bs ++ zeroBytes n).take n

/-- Bits `hi` down to `lo` of a number. -/
def bits (v hi lo : Nat) : Nat := v / 2 ^ lo % 2 ^ (hi + 1 - lo)

/-- Bit `i` of a number. -/
def bit (v i : Nat) : Bool := v / 2 ^ i % 2 == 1

/-- A flag as a bit. -/
def b2n (b : Bool) : Nat := if b then 1 else 0

/-- A value limited to a range. -/
def clampI (lo hi v : Int) : Int := if v < lo then lo else if hi < v then hi else v

/-- Saturation to a signed number of `w` bits. -/
def satI (w : Nat) (v : Int) : Int := clampI (-(2 ^ (w - 1))) (2 ^ (w - 1) - 1) v

/-- `rnd` of 04 R138: division by `2^n` to the nearest integer, ties away from zero; an exact shift for `n` below zero. -/
def rnd (x : Int) (n : Int) : Int :=
  if n < 0 then x * 2 ^ n.natAbs
  else if n = 0 then x
  else if 0 ≤ x then ((x.natAbs + 2 ^ (n.natAbs - 1)) / 2 ^ n.natAbs : Nat)
  else -(((x.natAbs + 2 ^ (n.natAbs - 1)) / 2 ^ n.natAbs : Nat) : Int)

/-- `sat32` of 04 R139: symmetric, never 0x8000_0000. -/
def sat32 (x : Int) : Int := clampI (-(2 ^ 31 - 1)) (2 ^ 31 - 1) x

/-- The positions of the bits set in the low `n` bits of a number, rising. -/
def bitList (v n : Nat) : List Nat := (List.range n).filter (bit v)

/-- Sum of powers of two: the number with these bits set. -/
def ofBits (l : List Nat) : Nat := l.foldl (fun a i => a ||| 2 ^ i) 0

/-- Number of bits set in the low `n` bits. -/
def popcount (v n : Nat) : Nat := (bitList v n).length

/-- Eight steps of a reflected CRC-32C register. -/
def crcStep (c : BitVec 32) : Nat → BitVec 32
  | 0 => c
  | n + 1 => crcStep (if c.getLsbD 0 then (c >>> 1) ^^^ 0x82F63B78#32 else c >>> 1) n

/-- The CRC-32C register after a list of bytes (13 R514). -/
def crcRun : BitVec 32 → List Byte → BitVec 32
  | c, [] => c
  | c, b :: r => crcRun (crcStep (c ^^^ b.setWidth 32) 8) r

/-- CRC-32C: polynomial 0x1EDC_6F41 reflected, initial value and final XOR of all ones (13 R514). -/
def crc32c (bs : List Byte) : Nat := (crcRun 0xFFFFFFFF#32 bs ^^^ 0xFFFFFFFF#32).toNat

/-- The Ethernet CRC-32 register after `n` more bits: polynomial 0x04C1_1DB7 reflected (10 R375; PRESUMED, IEEE 802.3: log entry 69). -/
def fcsStep : Nat → BitVec 32 → BitVec 32
  | 0, c => c
  | n + 1, c => fcsStep n (if c.getLsbD 0 then (c >>> 1) ^^^ 0xEDB88320#32 else c >>> 1)

/-- The FCS of a frame as a number: initial value and final XOR of all ones. -/
def fcsOf (bs : List Byte) : Nat := (bs.foldl (fun c b => fcsStep 8 (c ^^^ b.setWidth 32)) 0xFFFFFFFF#32 ^^^ 0xFFFFFFFF#32).toNat

/-- Eight steps of an unreflected CRC-16 register. -/
def crc16Step (c : BitVec 16) : Nat → BitVec 16
  | 0 => c
  | n + 1 => crc16Step (if c.getLsbD 15 then (c <<< 1) ^^^ 0x1021#16 else c <<< 1) n

/-- CRC-16: polynomial 0x1021, initial value 0xFFFF, no reflection, no final XOR (16 R622). -/
def crc16 (bs : List Byte) : Nat :=
  (bs.foldl (fun c b => crc16Step (c ^^^ ((b.setWidth 16 : BitVec 16) <<< (8 : Nat))) 8) 0xFFFF#16).toNat

/-- The eight lanes with one function applied to each. -/
def omap {α β : Type} (f : α → β) (x : Oct α) : Oct β := ⟨f x.a0, f x.a1, f x.a2, f x.a3, f x.a4, f x.a5, f x.a6, f x.a7⟩

/-- Lane-wise combination of two vectors. -/
def ozip {α β γ : Type} (f : α → β → γ) (x : Oct α) (y : Oct β) : Oct γ :=
  ⟨f x.a0 y.a0, f x.a1 y.a1, f x.a2 y.a2, f x.a3 y.a3, f x.a4 y.a4, f x.a5 y.a5, f x.a6 y.a6, f x.a7 y.a7⟩

/-- The same value in every lane. -/
def osame {α : Type} (x : α) : Oct α := ⟨x, x, x, x, x, x, x, x⟩

/-- Lane `i` as a function of its number. -/
def ogen {α : Type} (f : Nat → α) : Oct α := ⟨f 0, f 1, f 2, f 3, f 4, f 5, f 6, f 7⟩

/-- The lanes, lane 0 first. -/
def olist {α : Type} (x : Oct α) : List α := [x.a0, x.a1, x.a2, x.a3, x.a4, x.a5, x.a6, x.a7]

/-- Lane `i`. -/
def oget {α : Type} (x : Oct α) (i : Nat) : α :=
  match i with
  | 0 => x.a0 | 1 => x.a1 | 2 => x.a2 | 3 => x.a3 | 4 => x.a4 | 5 => x.a5 | 6 => x.a6 | _ => x.a7

/-- The largest `y` above its present value by less than `2^i`, for `i` the steps left, whose `k`-th power is at most `n`. -/
def rootBits (k n : Nat) : Nat → Nat → Nat
  | 0, y => y
  | i + 1, y => rootBits k n i (if (y + 2 ^ i) ^ k ≤ n then y + 2 ^ i else y)

/-- The first 32 fractional bits of the `k`-th root of a number below 512, for `k` 2 or 3. SHA-256 takes its constants so. -/
def rootFrac (k p : Nat) : BitVec 32 := BitVec.ofNat 32 (rootBits k (p * 2 ^ (32 * k)) 37 0)

/-- The first 64 primes. -/
def primes64 : List Nat :=
  (List.range 312).filter fun p => decide (2 ≤ p) && (List.range 16).all fun d => p % (d + 2) != 0 || decide (p ≤ d + 2)

/-- A message's next schedule word from the sixteen before it, the oldest first (FIPS 180-4, 6.2.2). -/
def shaNext (w : List (BitVec 32)) : BitVec 32 :=
  let x := w.getD 1 0
  let y := w.getD 14 0
  w.getD 0 0 + w.getD 9 0 + (x.rotateRight 7 ^^^ x.rotateRight 18 ^^^ (x >>> (3 : Nat)))
    + (y.rotateRight 17 ^^^ y.rotateRight 19 ^^^ (y >>> (10 : Nat)))

/-- The state of the compression: the eight working variables, `a0` the first, and the next sixteen words of the schedule. -/
structure Sha where
  v : Oct (BitVec 32)
  w : List (BitVec 32)

/-- One round under a round constant. A choice bit by bit is `c ^ (a & (b ^ c))`, a majority `(a & b) | (c & (a | b))`. -/
def shaStep (x : Sha) (k : BitVec 32) : Sha :=
  let v := x.v
  let pick := v.a6 ^^^ (v.a4 &&& (v.a5 ^^^ v.a6))
  let most := (v.a0 &&& v.a1) ||| (v.a2 &&& (v.a0 ||| v.a1))
  let t := x.w.getD 0 0 + k + pick + v.a7 + (v.a4.rotateRight 6 ^^^ v.a4.rotateRight 11 ^^^ v.a4.rotateRight 25)
  { v := ⟨t + most + (v.a0.rotateRight 2 ^^^ v.a0.rotateRight 13 ^^^ v.a0.rotateRight 22), v.a0, v.a1, v.a2, v.a3 + t, v.a4, v.a5, v.a6⟩,
    w := x.w.tail ++ [shaNext x.w] }

/-- The chaining value after a block of sixteen words. -/
def shaFold (h : Oct (BitVec 32)) (block : List (BitVec 32)) : Oct (BitVec 32) :=
  ozip (· + ·) h ((primes64.map (rootFrac 3)).foldl shaStep { v := h, w := block }).v

/-- SHA-256 (FIPS 180-4): 32 bytes. -/
def sha256 (m : List Byte) : List Byte :=
  let p := m ++ 0x80#8 :: zeroBytes ((119 - m.length % 64) % 64) ++ toBE 8 (8 * m.length)
  let words := fun j => (List.range 16).map fun i => BitVec.ofNat 32 (be p (64 * j + 4 * i) 4)
  let r := rootFrac 2
  let out := (List.range (p.length / 64)).foldl (fun h j => shaFold h (words j)) ⟨r 2, r 3, r 5, r 7, r 11, r 13, r 17, r 19⟩
  (olist out).flatMap fun x => toBE 4 x.toNat

/-- HMAC-SHA-256 (RFC 2104) under a 32-byte key: 32 bytes. -/
def hmac (key msg : List Byte) : List Byte :=
  let k := fit 64 key
  sha256 (k.map (· ^^^ 0x5C#8) ++ sha256 (k.map (· ^^^ 0x36#8) ++ msg))

/-- The first 16 bytes of an HMAC: the AUTH field (13 R513, R518). -/
def auth16 (key msg : List Byte) : List Byte := (hmac key msg).take 16

end Sys2Proof.Machine
end

