-- ==== Sys2Proof/Units/Meter.lean ====
section
/-! DEFINITION. State of the Sealed Meter. -/

namespace Sys2Proof

/-- A measurement point's METER_SET_POINT block (19 R688). -/
structure Point where
  flags : Nat := 0
  kind  : Nat := 0
  group : Nat := 0
  slot  : Nat := 0
  cal   : Int := 0
  tMin  : Nat := 0
  deriving DecidableEq, Repr

/-- What a measurement point has computed: its filters, the minute's figures and, of a loudness leader, the integration (19 R684). -/
structure PtRun where
  bqA   : List (Int × Int) := []  -- states of the A- or K-weighting sections | 19 R684 | zero (DC 70)
  bqC   : List (Int × Int) := []  -- states of the C-weighting sections | 19 R684 | zero (DC 70)
  sum   : Nat := 0                -- sum of x^2 over the minute | 19 R684 | 0 (DC 70)
  n     : Nat := 0                -- samples received in the minute | 19 R684 | 0 (DC 70)
  fast  : Nat := 0                -- F time-weighted x^2, 16 fraction bits | 19 R684 | 0 (DC 70)
  fastMax : Nat := 0              -- its highest value in the minute | 19 R684 | 0 (DC 70)
  recent : List Int := []         -- last 12 samples of the peak path, newest first | 19 R684 | none (DC 70)
  peak  : Nat := 0                -- highest oversampled magnitude in the minute | 19 R684 | 0 (DC 70)
  past  : List (Nat × Nat) := []  -- sum and count of the minutes before, newest first, at most 59 | 19 R684 | none (DC 70)
  stepSum : Nat := 0              -- sum of x^2 over the 100 ms in progress | 19 R684 | 0 (DC 70)
  steps : List (Nat × Nat) := []  -- leader: weighted sum and count of the last 30 steps of 100 ms, newest first | 19 R684 | none (DC 70)
  mom   : Option Nat := none      -- highest momentary mean square in the minute | 19 R684 | none (DC 70)
  short : Option Nat := none      -- highest short-term mean square in the minute | 19 R684 | none (DC 70)
  gate  : List Nat := []          -- mean squares of the 400 ms blocks since the last restart, newest first | 19 R684 | none (DC 70)
  deriving DecidableEq, Repr

/-- The Sealed Meter. -/
structure Meter where
  sealSt  : Nat := 1               -- seal state: 1 Unsealed, 2 Sealed, 3 Lost | 19 R690 | DC 3
  sec     : Nat := 0               -- Seal Event Counter fuses, 0-4095 | 19 R693 | 0 (DC 3)
  points  : Tab Point := []        -- 16 measurement points in force | 19 R688 | disabled (DC 3)
  next    : Tab Point := []        -- points changed and waiting for the minute boundary | 19 R689 | none
  time    : Nat := 0               -- meter time, seconds, 48 bits | 19 R694 | 0 (R696)
  start   : Nat := 0               -- meter time at the start of the minute, seconds | 19 R697 | 0
  records : Tab (List Byte) := []  -- record ring, 128-byte records by INDEX | 19 R697, R701 | empty (DC 3)
  idx     : Nat := 0               -- next INDEX, 32 bits | 19 R697 | 0 (DC 3)
  exported : Nat := 0              -- export index | 19 R703 | 0 (DC 3)
  ring    : Nat := 16384           -- ring length in records | 19 R701 | 16,384
  image   : List (Nat × List Byte) := [] -- firmware image bytes in the top 256 KiB | 19 R707 | none
  loading : Bool := false          -- an image is being loaded | 19 R707 | 0
  imgNext : Option Bool := none    -- image to run or to be removed at the next minute boundary | 19 R707 | none
  imgRun  : Bool := false          -- a loaded image runs | 19 R707 | 0
  baud    : Nat := 3               -- METER_SET_EXPORT baud code | 19 R704 | 3 (115,200)
  lastSig : List Byte := []        -- signature of the newest complete block, 64 bytes | 19 R700 | empty
  lastBlk : Nat := 0               -- number of that block | 19 R712 | 0
  vmet    : Bool := true           -- VMET present | 19 R696 | 1
  batLow  : Bool := false          -- VMETBAT below 2.5 V | 19 R710 | 0
  power   : Bool := false          -- the next record is the first after VMET returned | 19 R698 | 0
  lost    : Bool := false          -- a tick of the minute was tap-lost | 19 R683 | 0
  lostPts : Nat := 0               -- points that missed a tick of the minute, 16 bits | 19 R697 | 0
  got     : Bool := false          -- a tap block arrived in the minute | 19 R710 | 0
  locked  : Bool := true           -- Locked with TIME_UNSET clear for every tick of the minute | 19 R695 | 1
  tick    : Option Nat := none     -- PTP time delivered with the last tap block, ns | 19 R682 | none
  overl   : Bool := false          -- a sample of full magnitude arrived in the minute | 19 R698 | 0
  sealEv  : Bool := false          -- a seal or unseal occurred in the minute | 19 R698 | 0
  unsealed : Bool := true          -- not Sealed for the whole minute | 19 R698 | 1
  restart : Nat := 0               -- leaders whose integration restarts at the next minute boundary | 19 R711 | 0
  restNow : Nat := 0               -- leaders whose integration restarted at this minute's start | 19 R697 | 0
  corr    : Int := 0               -- correction applied at this minute's start, us | 19 R695 | 0
  free    : Bool := true           -- no correction was allowed at this minute's start | 19 R698 | 1 (DC 3)
  broken  : Bool := false          -- VMET failed in the minute | 19 R697 | 0
  step    : Bool := false          -- that correction was a step | 19 R698 | 0
  stepBig : Bool := false          -- CORR saturated | 19 R698 | 0
  freeRun : Nat := 0               -- consecutive minutes with CLOCK_FREE | 19 R710 | 0
  alarms  : Nat := 0               -- alarms active, bit per code of R710 | 19 R710 | 0
  runs    : Tab PtRun := []        -- what each point has computed | 19 R684 | empty (DC 70)
  stepN   : Nat := 0               -- samples in the 100 ms in progress | 19 R684, R711 | 0 (DC 70)
  shown   : Tab PtRun := []        -- the points at the last end of 100 ms, for METER_GET_LIVE | 19 R711 | empty (DC 70)
  deriving DecidableEq, Repr

end Sys2Proof
end

