-- ==== Sys2Proof/Machine/State.lean ====
section
/-! DEFINITION. The state of the KD9 as one block: every unit's state, the trace of what it sends, and the queue of commands.
Each field of a unit's structure names, in its trailing comment, its rule of spec/ and its reset value. -/

namespace Sys2Proof.Machine

/-- Why a step stops. The spec gives every command of the table an effect, so no meaning stops: the type is empty. -/
inductive Fault where
  deriving DecidableEq, Repr

/-- Why a step refuses a command. -/
inductive Refusal where
  /-- Raised by an arm of `exec` whose command has no meaning in this model yet; safe, since nothing follows. -/
  | notModelled (mnemonic : String)
  deriving DecidableEq, Repr

/-- The whole machine. -/
structure State where
  part : Part := {}
  mode : ModeSt := {}
  cp : Cp := {}
  gate : Gate := {}
  win : Win := {}
  sec : Sec := {}
  pipe : Pipe := {}
  sward : Sward := {}
  fixed : Fixed := {}
  eng : Eng := {}
  place : Place := {}
  fab : Fabric := {}
  mem : MemSt := {}
  lines : Lines := {}
  ports : Ports := {}
  links : Links := {}
  clock : Clock := {}
  cap : Capture := {}
  pair : Pair := {}
  flt : Collector := {}
  boot : Boot := {}
  power : Power := {}
  meter : Meter := {}
  settings : Settings := {}
  free : Nat := 0
  wire : List Out := []
  pending : List Instr := []
  deriving DecidableEq, Repr

/-- Right after a power-on reset (17 R635): Bring-up, nothing configured, no command waiting. Every field at the value its
comment in Sys2Proof/Units names. -/
def State.reset : State := {}

end Sys2Proof.Machine
end

