-- ==== Sys2Proof/Machine/Tables.lean ====
section
/-! DEFINITION. Operations on key-sorted tables, and the saturating counters of 00 R737. -/

namespace Sys2Proof.Machine

/-- The entry at a key. -/
def tget {α : Type} : Tab α → Nat → Option α
  | [], _ => none
  | (k, v) :: r, i => if k = i then some v else if i < k then none else tget r i

/-- The entry at a key, or a default. -/
def tgetD {α : Type} (t : Tab α) (i : Nat) (d : α) : α := (tget t i).getD d

/-- Writes the entry at a key, keeping the keys rising. -/
def tset {α : Type} : Tab α → Nat → α → Tab α
  | [], i, x => [(i, x)]
  | (k, v) :: r, i, x => if i < k then (i, x) :: (k, v) :: r else if k = i then (i, x) :: r else (k, v) :: tset r i x

/-- Removes the entry at a key. -/
def tdel {α : Type} : Tab α → Nat → Tab α
  | [], _ => []
  | (k, v) :: r, i => if k = i then r else if i < k then (k, v) :: r else (k, v) :: tdel r i

/-- Changes the entry at a key, from a default where there is none. -/
def tmod {α : Type} (t : Tab α) (i : Nat) (d : α) (f : α → α) : Tab α := tset t i (f (tgetD t i d))

/-- Changes the entry at a key where there is one. -/
def tupd {α : Type} (t : Tab α) (i : Nat) (f : α → α) : Tab α :=
  match tget t i with
  | some v => tset t i (f v)
  | none => t

/-- Whether a key has an entry. -/
def thas {α : Type} (t : Tab α) (i : Nat) : Bool := (tget t i).isSome

/-- The lowest key from `i` on, among `n`, without an entry. -/
def tfree {α : Type} (t : Tab α) : Nat → Nat → Option Nat
  | _, 0 => none
  | i, n + 1 => if thas t i then tfree t (i + 1) n else some i

/-- Changes every entry, with its key. -/
def tmapK {α β : Type} (f : Nat → α → β) : Tab α → Tab β
  | [] => []
  | (k, v) :: r => (k, f k v) :: tmapK f r

/-- Changes every entry. -/
def tmap {α β : Type} (f : α → β) (t : Tab α) : Tab β := tmapK (fun _ v => f v) t

/-- The entries whose key lies in a range. -/
def trange {α : Type} (t : Tab α) (lo hi : Nat) : Tab α := t.filter fun e => lo ≤ e.1 && e.1 ≤ hi

/-- Writes every entry of `u` into `t`. -/
def tmerge {α : Type} (t u : Tab α) : Tab α := u.foldl (fun a e => tset a e.1 e.2) t

/-- Writes a list of values at consecutive keys. -/
def tputs {α : Type} (t : Tab α) (i : Nat) (l : List α) : Tab α :=
  (List.range l.length).zip l |>.foldl (fun a e => tset a (i + e.1) e.2) t

/-- One event on a saturating counter with largest value `lim`: the flag is set by the first event that cannot be counted (00 R737). -/
def satInc (lim : Nat) (c : Sat) : Sat := if c.n < lim then { c with n := c.n + 1 } else { c with sat := true }

/-- One event on a 16-bit saturating counter. -/
def inc16 (c : Sat) : Sat := satInc 0xFFFF c

/-- One event on a 32-bit saturating counter. -/
def inc32 (c : Sat) : Sat := satInc 0xFFFFFFFF c

/-- `n` events on a 16-bit saturating counter. -/
def add16 (n : Nat) (c : Sat) : Sat := { n := min 0xFFFF (c.n + n), sat := c.sat || decide (0xFFFF < c.n + n) }

/-- One event on the 16-bit counter at a key. -/
def tinc (t : Tab Sat) (i : Nat) : Tab Sat := tmod t i {} inc16

/-- `n` events on the 16-bit counter at a key. -/
def tadd (t : Tab Sat) (i n : Nat) : Tab Sat := if n = 0 then t else tmod t i {} (add16 n)

/-- Inserts an element before the first that its order puts after it. -/
def insBy {α : Type} (le : α → α → Bool) (x : α) : List α → List α
  | [] => [x]
  | y :: r => if le x y then x :: y :: r else y :: insBy le x r

/-- Sorts a list by an order; elements the order leaves equal keep their places. -/
def sortBy {α : Type} (le : α → α → Bool) (l : List α) : List α := l.foldr (insBy le) []

/-- The first element of a list that no other element beats. -/
def bestBy {α : Type} (beats : α → α → Bool) : List α → Option α
  | [] => none
  | x :: r => some (r.foldl (fun b y => if beats y b then y else b) x)

/-- Replaces element `i` of a list. -/
def lset {α : Type} (l : List α) (i : Nat) (x : α) : List α := l.set i x

/-- The largest of a list, zero for none. -/
def lmax (l : List Nat) : Nat := l.foldl max 0

/-- The sum of a list. -/
def lsum (l : List Nat) : Nat := l.foldl (· + ·) 0

/-- The elements at or after which a test first holds. -/
def findSome {α β : Type} (f : α → Option β) : List α → Option β
  | [] => none
  | x :: r => match f x with
    | some y => some y
    | none => findSome f r

end Sys2Proof.Machine
end

