-- ==== Sys2Proof/Machine/Ops.lean ====
section
/-! DEFINITION. Shared operations of every unit: outputs, free values, what the variant carries, rates and tick periods, the
operating mode word, and the Capability Descriptor. -/

namespace Sys2Proof.Machine

/-- Appends to the trace of what the node sends outwards (log entry 7). -/
def emit (o : Out) (s : State) : State := { s with wire := s.wire ++ [o] }

/-- Whether MG takes and sends frames: in Dormant and Off only its wake-pattern detector may run (10 R414). -/
def mgRuns (s : State) : Bool := decide (2 ≤ s.mode.mode) && !s.boot.halted

/-- Sends on MG; while a pause frame halts it the frame waits (10 R413). In Dormant it sends nothing (10 R414). -/
def emitMg (o : Out) (s : State) : State :=
  if !mgRuns s then s else if s.links.mg.paused then { s with links := { s.links with mg := { s.links.mg with held := s.links.mg.held ++ [o] } } } else emit o s

/-- Takes one free value of `w` bits (log entry 5). -/
def fresh (w : Nat) (s : State) : BitVec w × State :=
  ((Config.freeValue s.free).setWidth w, { s with free := s.free + 1 })

/-- Takes a free value as a number below `2^w`. -/
def freshNat (w : Nat) (s : State) : Nat × State := let (v, t) := fresh w s; (v.toNat, t)

/-- Takes a free value as a signed number of `w` bits. -/
def freshInt (w : Nat) (s : State) : Int × State := let (v, t) := fresh w s; (v.toInt, t)

/-- Takes `n` free values as signed numbers of `w` bits. -/
def freshInts (w : Nat) : Nat → State → List Int × State
  | 0, s => ([], s)
  | n + 1, s => let (v, s) := freshInt w s; let (r, s) := freshInts w n s; (v :: r, s)

/-! ## The Array Links (10 R415) -/

/-- An Array Link port. -/
def alAt (s : State) (p : Nat) : Al := if p = 0 then s.links.al0 else s.links.al1

/-- Changes an Array Link port. -/
def modAl (p : Nat) (f : Al → Al) (s : State) : State :=
  { s with links := if p = 0 then { s.links with al0 := f s.links.al0 } else { s.links with al1 := f s.links.al1 } }

/-- A frame goes to an Array Link's medium after `n` collisions; at the attempt limit of 16 it is discarded and counted (10 R415). -/
def alAttempt (p n : Nat) (o : Out) (s : State) : State :=
  let s := modAl p (fun a => { a with coll := add16 n a.coll }) s
  if n < 16 then emit o (modAl p (fun a => { a with sent := inc16 a.sent }) s) else modAl p (fun a => { a with drop := inc16 a.drop }) s

/-- Whether an Array Link port works under PLCA: enabled so, and not fallen back to CSMA/CD (10 R415). -/
def plcaOn (a : Al) : Bool := bit a.flags 0 && bit a.flags 1 && !a.fell

/-- The PLCA coordinator, the port of node ID 0, sends the beacon that begins a cycle (10 R415; log entry 71). -/
def alBeacon (p : Nat) (s : State) : State :=
  if plcaOn (alAt s p) && (alAt s p).plcaId == 0 then emit { kind := .plca, a := p } s else s

/-- Sends on an Array Link: in its turn under PLCA, which for the coordinator follows its beacon, otherwise by CSMA/CD, where how often the medium collides is a free value of 0 to 16
(10 R415; log entry 71). -/
def alSend (p : Nat) (o : Out) (s : State) : State :=
  if plcaOn (alAt s p) then alAttempt p 0 o (alBeacon p s)
  else let (n, s) := freshNat 8 s; alAttempt p (n % 17) o s

/-! ## What the variant carries (01 R44) -/

/-- LEA_MAP. -/
def leaMap : Variant → Nat
  | .f => 0xFFFF | .b => 0xFFFF | .a => 0x00FF | .s => 0x000F

/-- Whether a Lea is present. -/
def hasLea (s : State) (n : Nat) : Bool := bit (leaMap s.part.variant) n

/-- Whether an engine is present. -/
def hasEngine (s : State) (e : Nat) : Bool := e < 192 && hasLea s (e / 12)

/-- Sward tiles present. -/
def tileCount : Variant → Nat
  | .f => 64 | .b => 64 | .a => 32 | .s => 16

/-- UNIT_FLAGS: bit 0 Capture Store, bit 1 Sealed Meter, bit 2 Drive Modulator. -/
def unitFlags : Variant → Nat
  | .f => 7 | .b => 3 | .a => 6 | .s => 0

/-- LINK_MAP. -/
def linkMap : Variant → Nat
  | .f => 15 | .b => 15 | .a => 15 | .s => 3

/-- Whether the Capture Store is present. -/
def hasCap (s : State) : Bool := bit (unitFlags s.part.variant) 0

/-- Whether the Sealed Meter is present. -/
def hasMeter (s : State) : Bool := bit (unitFlags s.part.variant) 1

/-- Whether the Drive Modulator is present. -/
def hasDrv (s : State) : Bool := bit (unitFlags s.part.variant) 2

/-- Whether link port Kn is present. -/
def hasLink (s : State) (n : Nat) : Bool := bit (linkMap s.part.variant) n

/-- DRV_CHANNELS. -/
def drvChannels (s : State) : Nat := if hasDrv s then 32 else 0

/-- NVME_PORTS. -/
def nvmePorts (s : State) : Nat := if hasCap s then 4 else 0

/-! ## Rates, tick periods and shapes -/

/-- Samples per second of a RATE_MAP bit number (01 R43). -/
def rateHz : Nat → Nat
  | 0 => 44100 | 1 => 48000 | 2 => 88200 | 3 => 96000 | 4 => 176400 | _ => 192000

/-- Tick size of a TICK_MAP bit number. -/
def tickBit : Nat → Nat
  | 1 => 0 | 2 => 1 | 4 => 2 | 8 => 3 | 16 => 4 | 32 => 5 | _ => 6

/-- Whether a tick size is allowed at a rate (02 R49). -/
def tickAllowed (rate n : Nat) : Bool :=
  rate < 6 && tickBit n < 6 && (if rate < 2 then true else if rate < 4 then 2 ≤ n else 4 ≤ n)

/-- Local time, ns, of the start of tick `k` counted from EPOCH: `ceil(k n 10^9 / fs)` (11 R454). -/
def tickNs (rate n k : Nat) : Nat := (k * n * 1000000000 + rateHz rate - 1) / rateHz rate

/-- Ticks that cover a time in ms: `ceil(ms rate / (1000 N))` (04 R177, 06 R259). -/
def msTicks (rate n ms : Nat) : Nat := (ms * rateHz rate + 1000 * n - 1) / (1000 * n)

/-- Columns that one tile owns (03 R86). -/
def bandWidth (rate : Nat) : Nat := if rate < 2 then 64 else 32

/-- Rows that feed the Sward (03 R86, R87). -/
def rowCount (rate : Nat) : Nat := if rate < 4 then 4096 else 2048

/-- Current output count: MIX-OUT columns that tiles own (00 R8, 03 R86). -/
def outCount (s : State) (rate : Nat) : Nat := tileCount s.part.variant * bandWidth rate

/-- The Calendar count. -/
def cal (s : State) : Nat := s.pipe.cal

/-- The live sample rate code. -/
def rate (s : State) : Nat := s.pipe.live.rate

/-- The live tick size. -/
def tickN (s : State) : Nat := s.pipe.live.n

/-- A Drive Modulator channel with its gates off (09 R344). -/
def drvOff (c : DrvCh) : DrvCh := { c with run := 0, taken := [], index := [], pwm := [] }

/-- Duration of the current tick, ns. -/
def tickLen (s : State) : Nat := tickNs (rate s) (tickN s) (cal s + 1) - tickNs (rate s) (tickN s) (cal s)

/-- Ten bytes of a time in ns: 48-bit seconds and 32-bit ns. -/
def timeBytes (ns : Nat) : List Byte := toBE 6 (ns / 1000000000) ++ toBE 4 (ns % 1000000000)

/-! ## Operating mode (01 R41, R42) -/

/-- Whether plug, accessory and button detection run in a mode (09 R357). -/
def detects (m : Nat) : Bool := decide (2 ≤ m) && decide (m ≤ 5)

/-- The Service Listen Port as its node changes mode: leaving a detection mode discards a press in progress, and a plug that is present
when one is entered is detected anew (09 R357). -/
def slpMode (old new : Nat) (p : Slp) : Slp :=
  if detects old = detects new then p
  else { p with plug := false, kind := 0, press := false, long := false, held := false, shorts := 0 }

/-- Enters a mode, keeping the former one in PREV_MODE. PAIR_ACT_OUT is low in
every mode but Run-Active (15 R579), and a fault injection still pending ends when the node leaves Factory Test (16 R627). -/
def setMode (m : Nat) (s : State) : State :=
  { s with mode := { s.mode with mode := m, prev := s.mode.mode, limp := if m = 5 then s.mode.limp else false,
                                 parked := if m = 1 then s.mode.parked else false }
           flt := { s.flt with inject := if m = 4 then s.flt.inject else none }
           ports := { s.ports with slp := slpMode s.mode.mode m s.ports.slp }
           pair := { s.pair with actOut := if m = 6 then s.pair.actOut else false } }

/-- Whether a mode change is staged or in progress (WIN_MODE TRANSIT, 01 R39, R41): Dormant, a Relinquish, a takeover and the return of a
double Active wait for their boundary as a staged SYS_SET_MODE does. A shut-down sequence is no mode change before it reaches Parked (DESIGN
CHOICE, log entry 23). -/
def transit (s : State) : Bool :=
  s.mode.dormant.isSome || s.pair.handover.isSome || (s.mode.mode == 6 && s.pair.fallBack)
    || (s.mode.mode == 7 && s.pair.state == 3 && (s.pair.takeNow || s.pair.takeAt.isSome))
    || s.gate.staged.any fun g => g.req.opcode == 0x0103

/-- WIN_MODE (01 R41). -/
def winMode (s : State) : Nat :=
  s.mode.prev * 2 ^ 16 + b2n s.mode.limp * 2 ^ 11 + b2n s.mode.parked * 2 ^ 10 + b2n s.mode.forced * 2 ^ 9
    + b2n (transit s) * 2 ^ 8 + s.mode.mode

/-- Whether the node plays audio in its mode (01 R32). -/
def audioMode (s : State) : Bool := 4 ≤ s.mode.mode && s.mode.mode ≤ 7

/-- Whether an audio-interrupting change is refused (01 R32, R33, R34): Run-Active and Run-Shadow. -/
def guardedMode (s : State) : Bool := s.mode.mode == 6 || s.mode.mode == 7

/-- VARIANT of the Capability Descriptor. -/
def variantCode : Variant → Nat
  | .f => 1 | .b => 2 | .a => 3 | .s => 4

/-- Bytes 0 to 59 of the Capability Descriptor (01 R43). -/
def capsBody (s : State) : List Byte :=
  let v := s.part.variant
  toBE 1 1 ++ toBE 1 (variantCode v) ++ toBE 1 s.part.stepMaj ++ toBE 1 s.part.stepMin ++ toBE 2 (leaMap v)
    ++ toBE 2 (tileCount v) ++ toBE 8 (2 ^ tileCount v - 1) ++ toBE 2 (unitFlags v) ++ toBE 1 (linkMap v)
    ++ toBE 1 (drvChannels s) ++ toBE 2 (outCount s 1) ++ toBE 2 512 ++ toBE 2 256 ++ toBE 1 0xFF ++ toBE 1 0x0F
    ++ toBE 1 64 ++ toBE 1 (nvmePorts s) ++ toBE 2 80 ++ toBE 4 (if s.mem.ready then s.part.dramMiB else 0)
    ++ toBE 4 s.boot.fwVer ++ toBE 1 3 ++ toBE 1 0x3F ++ toBE 1 0x3F ++ toBE 1 0 ++ toBE 8 s.part.dieId ++ zeroBytes 8

/-- The Capability Descriptor, 64 bytes with its CRC (01 R43). -/
def caps (s : State) : List Byte := let b := capsBody s; b ++ toBE 4 (crc32c b)

/-- WIN_CAPSn: zero until the option loader has finished (01 R45, R46). -/
def winCaps (s : State) (n : Nat) : Nat := if s.win.capsOn then le (caps s) (4 * n) 4 else 0

/-! ## Interrupts (13 R544, R545) -/

/-- The record of the fault log that an INDEX names: the one nearest to the next to be written, modulo 2^32 (16 R622; log entry 31). -/
def logPos (f : Collector) (i : Nat) : Nat := ((f.next : Int) - signed 32 ((((f.next : Int) - f.base - i) % 2 ^ 32).toNat)).toNat

/-- WIN_INT_STAT FAULT: the log holds an interrupting record at or above the acknowledged index (16 R613). -/
def faultStat (s : State) : Bool :=
  let from_ := logPos s.flt s.flt.ack
  s.flt.log.any fun r => r.2.2.1 && decide (from_ ≤ r.1)

/-- WIN_INT_STAT CLOCK: a CLK_HIST bit and its enable are both 1 (11 R472). -/
def clockStat (s : State) : Bool := s.clock.hist &&& s.clock.intEn != 0

/-- WIN_INT_STAT (13 R544). -/
def intStat (s : State) : Nat :=
  b2n s.win.stMode * 16 + b2n (clockStat s) * 8 + b2n (faultStat s) * 4 + b2n s.win.stRing * 2 + b2n s.win.stReply

/-- INT_N is asserted while any bit is 1 in WIN_INT_STAT and WIN_INT_EN (13 R545). -/
def intN (s : State) : Bool := intStat s &&& s.win.intEn != 0

/-- Sends the MSI-X vectors of the status bits that became set while enabled, from `before` to `s` (13 R545). -/
def msixFrom (before : Nat) (s : State) : State :=
  if s.win.msixEn then
    (bitList (intStat s &&& s.win.intEn) 5).foldl (fun t i => if bit before i then t else emit { kind := .msix, a := i } t) s
  else s

/-- Sets RING_ERR. -/
def ringErr (s : State) : State := msixFrom (intStat s) { s with win := { s.win with stRing := true } }

end Sys2Proof.Machine
end

