-- ==== Sys2Proof/Machine/Frames.lean ====
section
/-! DEFINITION. Sogus frames as the node originates them (10 R372-R377, R384, R398), and pair messages (15 R583). -/

namespace Sys2Proof.Machine

/-! ## Ports and routes -/

/-- Status of link port Kn. -/
def linkSt (s : State) (p : Nat) : LinkSt := tgetD s.links.ports p {}

/-- Configuration of link port Kn in force. -/
def linkCfg (s : State) (p : Nat) : LinkCfg := tgetD s.pipe.live.links p {}

/-- Changes the status of link port Kn. -/
def modLink (p : Nat) (f : LinkSt → LinkSt) (s : State) : State :=
  { s with links := { s.links with ports := tmod s.links.ports p {} f } }

/-- Whether link port Kn is up. -/
def linkUp (s : State) (p : Nat) : Bool := (linkSt s p).state == 2

/-- The link ports that are up. -/
def upPorts (s : State) : List Nat := (List.range 4).filter (linkUp s)

/-- The rings of the node that are enabled. -/
def ringsOn (s : State) : List (Nat × Ring) := s.links.rings.filter fun r => r.2.enabled

/-- The enabled ring that a port belongs to (10 R400, R421). -/
def ringOf (s : State) (p : Nat) : Option (Nat × Ring) := (ringsOn s).find? fun r => r.2.portA == p || r.2.portB == p

/-- Whether any ring of the node is Protected (10 R400). -/
def anyProt (s : State) : Bool := (ringsOn s).any fun r => r.2.prot

/-- The ports by which unicast traffic that leaves by port `p` goes: both ring ports while their ring is Protected (10 R402). -/
def ringPorts (s : State) (p : Nat) : List Nat :=
  match ringOf s p with
  | some r => if r.2.prot then [r.2.portA, r.2.portB] else [p]
  | none => [p]

/-- The ports by which a unicast frame to a node leaves (10 R395, R402): the primary port of its directory entry. -/
def routeTo (s : State) (node : Nat) : List Nat :=
  match tget s.links.dir node with
  | some d => ringPorts s d.prim
  | none => []

/-- The ports of a group: PORTS while every ring is Normal, PROTECT while a ring is Protected (10 R400). -/
def groupPorts (s : State) (g : Nat) : List Nat :=
  match tget s.links.groups g with
  | some e => bitList (if anyProt s then e.protect else e.ports) 4
  | none => []

/-! ## Frames -/

/-- Link-port MAC address of a node (10 R372). -/
def macNode (id : Nat) : List Byte := toBE 4 0x024C5500 ++ toBE 2 id

/-- Address of a multicast group (10 R372). -/
def macGroup (g : Nat) : List Byte := toBE 4 0x034C5501 ++ toBE 2 g

/-- The Sogus header of a frame that this node sends out of a port (10 R376, R384). -/
def sogusHead (s : State) (p ty blocks : Nat) : List Byte :=
  let stby := ty == 1 && s.mode.mode == 7
  let prot := match ringOf s p with | some r => r.2.prot | none => false
  toBE 1 (0x10 + ty) ++ toBE 1 (b2n stby + 2 * b2n prot) ++ toBE 2 0 ++ toBE 6 (cal s) ++ toBE 2 s.links.node
    ++ toBE 2 (linkSt s p).seq ++ toBE 1 blocks ++ toBE 1 0

/-- A frame with its FCS, or with the inverted one that ends a cut copy of a bad frame (10 R375, R395). -/
def withFcs (good : Bool) (f : List Byte) : List Byte := f ++ toLE 4 (if good then fcsOf f else 2 ^ 32 - 1 - fcsOf f)

/-- A whole frame: addresses, tag, EtherType, header and payload, padded to the shortest length, and the FCS (10 R375). -/
def sogusFrame (s : State) (p : Nat) (dest head payload : List Byte) : List Byte :=
  let f := dest ++ macNode s.links.node ++ toBE 2 0x8100 ++ toBE 2 (linkCfg s p).tag ++ toBE 2 s.links.ether ++ head ++ payload
  withFcs true (f ++ zeroBytes (60 - f.length))

/-! ## Egress queues (10 R397) -/

/-- The rank of what leaves by a link port (10 R397): Pair, PTP event messages, Audio, Ring and Announce, Control, other. -/
def egressRank (o : Out) : Nat :=
  match o.kind with
  | .sogus => if o.a = 3 then 0 else if o.a = 1 then 2 else if o.a = 4 ∨ o.a = 5 then 3 else if o.a = 2 then 4 else 5
  | .ptp => if o.a < 4 then 1 else 5
  | .rtp => 2
  | _ => 5

/-- A frame enters the egress queue of a port. -/
def egress (p : Nat) (o : Out) (s : State) : State := modLink p (fun l => { l with queue := l.queue ++ [o] }) s

/-- The frame that a port sends next: the first of the highest rank that waits (10 R397). -/
def egressNext (s : State) (p : Nat) : Option Out := bestBy (fun a b => decide (egressRank a < egressRank b)) (linkSt s p).queue

/-- A port sends its next frame whole, and counts it (10 R397, R423). -/
def sendNext (p : Nat) (s : State) : State :=
  match (if linkUp s p then egressNext s p else none) with
  | some o => modLink p (fun l => { l with queue := l.queue.erase o, sent := inc32 l.sent }) (emit o s)
  | none => s

/-- A port sends up to `n` frames. -/
def sendSome (p : Nat) : Nat → State → State
  | 0, s => s
  | n + 1, s => sendSome p n (sendNext p s)

/-- Every port sends all that waits. -/
def sendAll (s : State) : State := (List.range 4).foldl (fun t p => sendSome p (linkSt t p).queue.length t) s

/-- The lowest port that has a frame to send. -/
def nextPort (s : State) : Option Nat := ((upPorts s).filter fun p => !(linkSt s p).queue.isEmpty).head?

/-- What waits at a port that goes down is discarded, and its audio frames are counted (10 R385). -/
def dropQueue (p : Nat) (s : State) : State :=
  modLink p (fun l => { l with queue := [], portDown := add16 (l.queue.filter fun o => decide (o.kind = .sogus) && o.a == 1).length l.portDown }) s

/-- A port leaves the state up for state `st`. -/
def portTo (p st : Nat) (s : State) : State := modLink p (fun l => { l with state := st }) (dropQueue p s)

/-! ## Frames of the node -/

/-- Sends one frame that this node originates out of a port; the payload may depend on the header. A node without a node ID
originates none (10 R374); a frame for a port that is down is discarded, and counted when it carries audio (10 R385). -/
def sendFrame (p ty blocks : Nat) (dest : List Byte) (payload : List Byte → List Byte) (s : State) : State :=
  if s.links.node = 0 then s
  else if !linkUp s p then (if ty = 1 then modLink p (fun l => { l with portDown := inc16 l.portDown }) s else s)
  else
    let h := sogusHead s p ty blocks
    let f := sogusFrame s p dest h (payload h)
    modLink p (fun l => { l with seq := (l.seq + 1) % 65536 }) (egress p { kind := .sogus, a := ty, b := p, bytes := f } s)

/-- Sends one frame out of several ports. -/
def sendPorts (ps : List Nat) (ty blocks : Nat) (dest : List Byte) (payload : List Byte → List Byte) (s : State) : State :=
  ps.foldl (fun t p => sendFrame p ty blocks dest payload t) s

/-- Sends a unicast frame to a node by its route. -/
def sendNode (node ty blocks : Nat) (payload : List Byte) (s : State) : State :=
  sendPorts (routeTo s node) ty blocks (macNode node) (fun _ => payload) s

/-! ## Audio over IP -/

/-- The ones' complement checksum of IPv4 and IGMP (PRESUMED, IETF RFC 791 and 3376: log entry 69). -/
def ipSum (b : List Byte) : Nat :=
  let t := (List.range ((b.length + 1) / 2)).foldl (fun a i => a + be b (2 * i) 2) 0
  let t := t % 65536 + t / 65536
  65535 - (t % 65536 + t / 65536)

/-- An IPv4 packet (10 R407, R426; the header as RFC 791 lays it out: PRESUMED, log entry 69). -/
def ipv4 (dscp ttl proto src dst : Nat) (b : List Byte) : List Byte :=
  let a := toBE 1 0x45 ++ toBE 1 (4 * dscp) ++ toBE 2 (20 + b.length) ++ toBE 4 0x4000 ++ toBE 1 ttl ++ toBE 1 proto
  let z := toBE 4 src ++ toBE 4 dst
  a ++ toBE 2 (ipSum (a ++ toBE 2 0 ++ z)) ++ z ++ b

/-- A UDP datagram that carries one port number as source and destination (10 R426); no checksum is formed (PRESUMED, log entry 69). -/
def udpOf (port : Nat) (b : List Byte) : List Byte := toBE 2 port ++ toBE 2 port ++ toBE 2 (8 + b.length) ++ toBE 2 0 ++ b

/-- Whether an IPv4 address is a multicast group. -/
def isGroup (a : Nat) : Bool := a / 2 ^ 28 == 14

/-- The IGMPv3 report with one group record (10 R407; RFC 3376: PRESUMED, log entry 69). Record types: 3 and 4 change the filter mode of a group
joined for any source, 5 and 6 allow and block one source. -/
def igmpReport (ty group src : Nat) : List Byte :=
  let r := toBE 1 ty ++ toBE 1 0 ++ toBE 2 (if src = 0 then 0 else 1) ++ toBE 4 group ++ (if src = 0 then [] else toBE 4 src)
  let m := fun (c : Nat) => toBE 1 0x22 ++ toBE 1 0 ++ toBE 2 c ++ toBE 2 0 ++ toBE 2 1 ++ r
  m (ipSum (m 0))

/-- A receiver of a group joins or leaves it with IGMPv3 on its port (10 R407). -/
def igmp (join : Bool) (x : Aoip) (s : State) : State :=
  if bit x.flags 0 && isGroup x.addr && linkUp s x.port then
    let ty := if x.src = 0 then (if join then 4 else 3) else if join then 5 else 6
    egress x.port { kind := .igmp, a := x.port, b := x.addr, bytes := ipv4 0 1 2 (linkCfg s x.port).ip 0xE0000016 (igmpReport ty x.addr x.src) } s
  else s

/-- A port that comes up joins the groups of its receivers. -/
def joinAll (p : Nat) (s : State) : State := (s.pipe.live.aoRx.filter fun x => x.2.port == p).foldl (fun t x => igmp true x.2 t) s

/-! ## Pair messages -/

/-- Whether pairing is enabled and this node holds what a pair frame needs (15 R577, R583). -/
def paired (s : State) : Bool := bit s.pair.cfg.flags 0

/-- The payload of one fragment of a pair message: R583's fields, the body, and the AUTH over header and payload. -/
def pairPayload (s : State) (msg frag seq : Nat) (body head : List Byte) : List Byte :=
  let b := toBE 1 msg ++ toBE 1 frag ++ toBE 2 body.length ++ toBE 4 seq ++ toBE 6 (cal s) ++ toBE 2 s.pair.boot ++ body
  b ++ auth16 s.pair.key (head ++ b)

/-- Sends a pair message on every link port that is up, in one to three fragments of at most 1452 bytes (10 R398, 15 R583). -/
def sendPair (msg : Nat) (body : List Byte) (s : State) : State :=
  if !paired s then s
  else
    let n := max 1 ((body.length + 1451) / 1452)
    let q := s.pair.seq
    let s := (List.range n).foldl (fun t i =>
      let part := (body.drop (1452 * i)).take 1452
      sendPorts (upPorts t) 3 0 (macNode t.pair.cfg.partner) (fun h => pairPayload t msg (16 * i + n) q part h) t) s
    { s with pair := { s.pair with seq := (q + 1) % 2 ^ 32 } }

/-- A paired Active whose last Vigil, heard within 300 ms, reported Ready can relinquish (15 R594). The pair state stands in
byte 0 of the Vigil body (15 R593). -/
def canRelinquish (s : State) : Bool :=
  s.mode.mode == 6 && s.pair.state == 1 && s.pair.vigilOk && byteAt s.pair.vigil 0 == 3 && s.pair.handover.isNone

/-- Sends Relinquish with its handover tick H and the fault that caused it (15 R595 step 1). Local time stands at the start of
the tick (log entry 8), so at least 5 us of it remain and H is the next boundary. -/
def relinquish (fault : Nat) (s : State) : State :=
  let h := cal s + 1
  sendPair 4 (toBE 6 h ++ toBE 2 fault) { s with pair := { s.pair with handover := some h } }

end Sys2Proof.Machine
end

