-- ==== Sys2Proof/Machine/Reply.lean ====
section
/-! DEFINITION. Credentials and Local Trust, the audit log, the reply packet and its way out on each transport (13, 14). -/

namespace Sys2Proof.Machine

/-! Status codes (13 R525). -/

def OK : Nat := 0
def ACCEPTED_PENDING : Nat := 0x0001
def APPLIED_LATE : Nat := 0x0002
def NO_DATA : Nat := 0x0003
def BAD_PACKET : Nat := 0x0100
def BAD_CRC : Nat := 0x0101
def BAD_AUTH : Nat := 0x0102
def STALE_SEQUENCE : Nat := 0x0103
def ROLE_DENIED : Nat := 0x0104
def UNIT_ABSENT : Nat := 0x0105
def BAD_PARAM : Nat := 0x0106
def BUSY : Nat := 0x0107
def TABLE_FULL : Nat := 0x0108
def SEALED : Nat := 0x0109
def MODE_DENIED : Nat := 0x010A
def NOT_ACTIVE : Nat := 0x010B
def QUEUE_FULL : Nat := 0x010C
def NO_CAPACITY : Nat := 0x010D
def INTERNAL_ERROR : Nat := 0x0200

/-- A version-1 reply maps these statuses (13 R556). -/
def mapV1 (st : Nat) : Nat :=
  if st = 1 ∨ st = 2 then 0 else if st = SEALED then ROLE_DENIED
  else if st = MODE_DENIED ∨ st = NOT_ACTIVE ∨ st = QUEUE_FULL then BUSY else if st = NO_CAPACITY then TABLE_FULL else st

/-! ## Credentials -/

/-- The number of a credential slot. -/
def credIx (role slot : Nat) : Nat := 8 * role + slot

/-- The key of a credential as the Command Processor uses it, empty for none (14 R558). -/
def keyOf (s : State) (role slot : Nat) : List Byte := tgetD s.sec.work (credIx role slot) []

/-- Whether any slot of a role holds a key. -/
def roleHasKey (s : State) (role : Nat) : Bool := (List.range 8).any fun i => thas s.sec.keys (credIx role i)

/-- The Local Trust ceiling in force: 0 none, 1 operator, 2 installer, 3 maker (14 R563, R565). -/
def trustCeiling (s : State) : Nat := if s.sec.lc = 0 ∧ s.boot.testEn then 3 else s.sec.trust

/-- Whether Local Trust covers a request on the PCIe ring (14 R563, R564). -/
def locallyTrusted (s : State) (src : Src) (role slot : Nat) (auth : List Byte) : Bool :=
  decide (src = .pcie) && slot == 7 && decide (role < trustCeiling s) && auth == zeroBytes 16

/-- Copies the keys of the credential store into the secure region (14 R558). -/
def loadKeys (s : State) : State := { s with sec := { s.sec with work := s.sec.keys, region := true } }

/-- Empties slots of the credential store and their working copies. -/
def dropKeys (p : Nat → Bool) (s : State) : State :=
  { s with sec := { s.sec with keys := s.sec.keys.filter fun e => !p e.1, work := s.sec.work.filter fun e => !p e.1 } }

/-- Empties the reply caches of credentials. -/
def dropCache (p : Nat → Bool) (s : State) : State :=
  { s with cp := { s.cp with cache := s.cp.cache.filter fun c => !p (credIx c.role c.slot) } }

/-! ## The audit log (14 R566-R569) -/

/-- SOURCE code of a transport (14 R568). -/
def srcCode : Src → Nat
  | .pcie => 0 | .mg => 1 | .link => 2 | .al0 => 3 | .al1 => 4 | .pair => 5

/-- The bytes of an audit record (14 R567); `at_` is the Calendar count and the local time. -/
def auditBytes (at_ : Nat × Nat) (source role slot flags opcode status seq applied : Nat) (digest : List Byte) (index : Nat) : List Byte :=
  let b := toBE 8 index ++ toBE 6 at_.1 ++ timeBytes at_.2 ++ toBE 1 source ++ toBE 1 role ++ toBE 1 slot ++ toBE 1 flags
    ++ toBE 2 opcode ++ toBE 2 status ++ toBE 4 seq ++ toBE 8 applied ++ fit 16 digest
  b ++ toBE 4 (crc32c b)

/-- Writes one audit record, whose bytes depend on its INDEX. A record that AUDIT_READ never returned and that the ring wraps over counts as
overflow (14 R569). -/
def auditAdd (b : Nat → List Byte) (s : State) : State :=
  let i := s.sec.next
  let old := if i < 16384 then none else tget s.sec.log (i - 16384)
  let ovf := match old with
    | some a => if a.returned then s.sec.ovf else inc16 s.sec.ovf
    | none => s.sec.ovf
  { s with sec := { s.sec with log := tset (if i < 16384 then s.sec.log else tdel s.sec.log (i - 16384)) i { bytes := b (i - s.sec.base), returned := false },
                               next := i + 1, ovf := ovf } }

/-- Writes the audit record of an internal event (14 R569). -/
def auditEvent (code detail : Nat) (s : State) : State := auditAdd (auditBytes (cal s, s.clock.now) 6 0xFF 0xFF 0 code detail 0 0 []) s

/-- The operations of class 0x07 (12 R503). -/
def captureOps : List Nat :=
  [0x0701, 0x0702, 0x0703, 0x0704, 0x0705, 0x0710, 0x0711, 0x0712, 0x0713, 0x0720, 0x0721, 0x0730, 0x0731, 0x0732, 0x0733]

/-- Whether an operator request is logged: a scene recall, a capture command or SYS_MUTE_ALL (14 R566). -/
def operatorLogged (r : Req) (reads : Bool) : Bool :=
  r.opcode == 0x0202 || r.opcode == 0x0203 || (r.opcode == 0x0201 && decide (8 < be r.params 2 2))
    || (bit r.flags 1 && bit r.applyAt 63) || (captureOps.contains r.opcode && !reads) || r.opcode == 0x0106

/-- Whether a request that passed step 5 has a record of its own (14 R566). -/
def logged (r : Req) (reads : Bool) : Bool := decide (0 < r.role) || operatorLogged r reads

/-- The record of a request (14 R567): the status as its reply carries it (13 R556), and when it was executed, or now where it was not. -/
def reqRecord (r : Req) (status applied : Nat) (forced : Bool) (s : State) : Nat → List Byte :=
  auditBytes (r.ran.getD (cal s, s.clock.now)) (srcCode r.src) r.role r.slot
    (b2n forced + 2 * b2n (decide (r.src = .pair)) + 4 * b2n r.trust + 8 * b2n (r.ver == 1))
    r.opcode (if r.ver = 1 then mapV1 status else status) r.seq applied (sha256 r.params)

/-- Counts an operator request that is not logged (14 R566). -/
def countUnlogged (s : State) : State := { s with sec := { s.sec with unlogged := inc32 s.sec.unlogged } }

/-- A request takes its place in the audit log as it is accepted, so that records stand in acceptance order, or is counted; the spec gives the record no
status before the request has received one (14 R566; DESIGN CHOICE, log entry 73). -/
def noteRequest (r : Req) (reads : Bool) (s : State) : Req × State :=
  if logged r reads then
    let (v, s) := freshNat 16 s
    ({ r with noted := some (some s.sec.next) }, auditAdd (reqRecord r v 0 false s) s)
  else ({ r with noted := some none }, countUnlogged s)

/-- The audit record of a request with the status it finally received, in the place that it took at its acceptance (14 R566). -/
def audit (r : Req) (reads : Bool) (status applied : Nat) (forced : Bool) (s : State) : State :=
  match r.noted with
  | some (some i) =>
    { s with sec := { s.sec with log := tupd s.sec.log i fun a => { a with bytes := reqRecord r status applied forced s (i - s.sec.base) } } }
  | some none => s
  | none => if logged r reads then auditAdd (reqRecord r status applied forced s) s else countUnlogged s

/-! ## Replies -/

/-- A reply packet before its AUTH and CRC (13 R516, R517). -/
def replyHead (r : Req) (status err applied xflags : Nat) (payload : List Byte) : List Byte :=
  toBE 1 r.ver ++ toBE 1 (1 + (r.flags &&& 2) + xflags) ++ toBE 2 r.opcode ++ toBE 2 r.tag
    ++ toBE 2 payload.length ++ toBE 2 (if r.ver = 1 then mapV1 status else status) ++ toBE 2 err ++ toBE 1 r.role
    ++ toBE 1 r.slot ++ zeroBytes 2 ++ toBE 8 applied ++ payload

/-- A whole reply packet; an empty key stands for an AUTH of sixteen zero bytes (13 R518, 14 R563). -/
def replyPacket (r : Req) (key : List Byte) (status err applied xflags : Nat) (payload : List Byte) : List Byte :=
  let h := replyHead r status err applied xflags payload
  let a := if key.isEmpty then zeroBytes 16 else auth16 key (toBE 4 r.seq ++ h)
  let b := h ++ a
  b ++ toBE 4 (crc32c b)

/-- The host address of descriptor `i` of a ring (13 R541). -/
def descAddr (base size i : Nat) : Nat := base + 16 * (i % 2 ^ size)

/-- The 16 bytes of a descriptor (13 R542). -/
def descBytes (addr len status : Nat) : List Byte := toLE 8 addr ++ toLE 4 len ++ toLE 2 status ++ zeroBytes 2

/-- The next reply descriptor is written back and WIN_RPL_DONE advances (13 R542, R543). -/
def rplDescOut (addr len status : Nat) (s : State) : State :=
  let w := s.win
  emit { kind := .ringDesc, a := descAddr w.rplBase w.rplSize w.rplDone, b := status, c := len, bytes := descBytes addr len status }
    { s with win := { w with posted := w.posted.drop 1, rplDone := (w.rplDone + 1) % 2 ^ 16, stReply := true } }

/-- Writes waiting replies into the posted buffers, in order (13 R542, R543). A buffer that cannot be written gets STATUS 0x2 and the reply waits
for the next one (DEDUCED, log entry 6). The count bounds the buffers taken. -/
def drainReplies : Nat → State → State
  | 0, s => s
  | n + 1, s =>
    match s.win.posted, s.win.waiting with
    | (addr, size, writes) :: _, p :: ws =>
      drainReplies n (msixFrom (intStat s)
        (if size < p.length then rplDescOut addr size 3 s
         else if !writes then rplDescOut addr size 2 s
         else rplDescOut addr p.length 1 (emit { kind := .hostReply, a := addr, bytes := p } { s with win := { s.win with waiting := ws } })))
    | _, _ => s

/-- Sends a packet back on the transport its request came from (13 R543, R546, R547). -/
def sendOn (src : Src) (ret : Nat × Nat) (p : List Byte) (s : State) : State :=
  match src with
  | .pcie =>
    let s := { s with win := { s.win with waiting := s.win.waiting ++ [p] } }
    drainReplies s.win.posted.length s
  | .link => sendNode ret.1 2 0 p s
  | .pair => s
  | .mg => emitMg { kind := .udp, a := 0, b := ret.1, c := ret.2, bytes := p } s
  | .al0 => alSend 0 { kind := .udp, a := 1, b := ret.1, c := ret.2, bytes := p } s
  | .al1 => alSend 1 { kind := .udp, a := 2, b := ret.1, c := ret.2, bytes := p } s

/-- Keeps the last 16 replies of each credential (13 R523). -/
def cacheReply (r : Req) (p : List Byte) (s : State) : State :=
  let mine := s.cp.cache.filter fun c => c.role == r.role && c.slot == r.slot
  let rest := s.cp.cache.filter fun c => !(c.role == r.role && c.slot == r.slot)
  { s with cp := { s.cp with cache := rest ++ (mine.drop (mine.length - 15)) ++ [{ role := r.role, slot := r.slot, seq := r.seq, crc := r.crc, reply := p }] } }

/-- Sends a reply of an authenticated request and keeps it in the reply cache (13 R523). -/
def sendKept (r : Req) (p : List Byte) (s : State) : State := cacheReply r p (sendOn r.src r.ret p s)

/-- The key that authenticates a reply; empty under Local Trust. -/
def replyKey (s : State) (r : Req) : List Byte := if r.trust then [] else keyOf s r.role r.slot

/-- The reply to a request that passed step 5: its audit record first, then the packet, then its place in the reply cache
(13 R518, R523, R531, 14 R566). A mirrored copy has no reply of its own (15 R588). -/
def reply (r : Req) (key : List Byte) (reads : Bool) (status err applied : Nat) (mirr forced : Bool) (payload : List Byte)
    (s : State) : State :=
  let s := audit r reads status applied forced s
  if r.src = .pair then s
  else sendKept r (replyPacket r key status err applied (4 * b2n mirr + 8 * b2n forced) payload) s

end Sys2Proof.Machine
end

