-- ==== Sys2Proof/Machine/Collect.lean ====
section
/-! DEFINITION. The Fault Collector: fault classes, and what happens when a fault is raised (16 R607-R625). -/

namespace Sys2Proof.Machine

/-- The class of each listed fault ID: 0 Note, 1 Degraded, 2 Severe, 3 Fatal (16 R609); `none` for a reserved ID. -/
def faultClass (id : Nat) : Option Nat :=
  let cs : List Nat := match id / 256 with
    | 0x01 => [2, 1, 3]
    | 0x02 => [1]
    | 0x03 => [1, 1, 1, 1, 1, 0, 1, 2]
    | 0x04 => [0, 1]
    | 0x05 => [0, 0, 0, 0, 1, 0]
    | 0x06 => [1, 1, 3]
    | 0x07 => [1, 3]
    | 0x08 => [1, 1]
    | 0x09 => [1, 1, 1, 1]
    | 0x0A => [1, 0, 1, 1, 0]
    | 0x0B => [2, 0, 0]
    | 0x0C => [1, 1, 0, 1, 1, 0]
    | 0x0D => [1, 0, 2]
    | 0x0E => [3, 0, 0]
    | 0x0F => [1, 1, 1, 2, 1]
    | 0x10 => [3, 3, 1]
    | 0x11 => [1, 1]
    | 0x12 => [0]
    | 0x13 => [1]
    | _ => []
  if id % 256 = 0 then none else cs[id % 256 - 1]?

/-- Depth codes of WIN_RSTCAUSE (17 R638). -/
def depthPlane : Nat := 1
def depthWarm : Nat := 2
def depthSystem : Nat := 3
def depthCold : Nat := 4

/-- The rails of R662, numbered by their rows of its table (DESIGN CHOICE, log entry 32). -/
def railVcore : Nat := 0
def railVsram : Nat := 1
def railVaon : Nat := 2
def railVnv : Nat := 3
def railVsd : Nat := 7
def railVsdh : Nat := 8
def railVddq : Nat := 9
def railVdd2h : Nat := 10

/-- Whether a rail supplies the Sealed Meter alone (17 R631). -/
def meterRail (r : Nat) : Bool := decide (4 ≤ r) && decide (r ≤ 6)

/-- Depth of a brown-out under the map in force (17 R631). -/
def railDepth (s : State) (r : Nat) : Nat :=
  if s.boot.opt.resetMap = 1 ∧ (r = railVcore ∨ r = railVsd ∨ r = railVsdh) then depthWarm else depthSystem

/-- The reset depth a Fatal cause names: 1 Plane, 3 System (16 R609). The thermal trip takes its depth from the source map, System in both;
a brown-out takes System here and `reactNow` puts in the depth of its rail (17 R631; log entry 32). -/
def fatalDepth (id : Nat) : Nat := if id = 0x0103 then 1 else 3

/-- The default REACTION byte of a fault ID in the layout of 16 R622. -/
def defaultReact (id : Nat) : Nat :=
  match faultClass id with
  | some 1 => 1
  | some 2 => 7
  | some 3 => 7 + 8 * fatalDepth id
  | _ => 0

/-- The REACTION byte in force. -/
def reactOf (s : State) (id : Nat) : Nat := tgetD s.flt.react id (defaultReact id)

/-- The REACTION byte of one occurrence: a brown-out has the depth that the map in force gives its rail. -/
def reactNow (s : State) (id detail : Nat) : Nat :=
  if id = 0x1001 then reactOf s id % 8 + 8 * railDepth s detail else reactOf s id

/-- What a fabric access adds to a fault: MASTER, TARGET, ACCESS and RESP (16 R619). -/
structure FAcc where
  master : Nat := 0x1F
  target : Nat := 0x1F
  access : Nat := 0
  resp   : Nat := 0
  deriving DecidableEq, Repr

/-- The first-error capture (16 R617). -/
def capture (id cls detail : Nat) (x : FAcc) (s : State) : State :=
  let f := s.flt.ff
  let new : FirstFault :=
    { valid := true, more := f.valid, cls := cls, id := id, detail := detail, master := x.master, target := x.target,
      access := x.access, resp := x.resp, cal := cal s, ns := s.clock.now % 1000000000,
      sec := s.clock.now / 1000000000 % 2 ^ 32 }
  let ff := if !f.valid || f.cls < cls then new else { f with more := true }
  { s with flt := { s.flt with ff := ff } }

/-- The fault log record (16 R622, R624). -/
def faultLog (id cls react detail : Nat) (x : FAcc) (injected : Bool) (s : State) : State :=
  let i := s.flt.next
  let sup := s.flt.supp.contains id
  let b := toBE 4 (i - s.flt.base) ++ toBE 6 (cal s) ++ toBE 4 (s.clock.now / 1000000000) ++ toBE 4 (s.clock.now % 1000000000)
    ++ toBE 2 id ++ toBE 1 cls ++ toBE 1 react ++ toBE 1 x.master ++ toBE 1 x.access ++ toBE 5 detail
    ++ toBE 1 (b2n injected + 2 * b2n sup)
  let old := if i < 8192 then none else tget s.flt.log (i - 8192)
  let ovf := match old with
    | some r => if r.2.2 then s.flt.ovf else inc16 s.flt.ovf
    | none => s.flt.ovf
  { s with flt := { s.flt with
      log := tset (if i < 8192 then s.flt.log else tdel s.flt.log (i - 8192)) i (b ++ toBE 2 (crc16 b), bit react 0, false),
      next := i + 1, ovf := ovf, logAt := tset s.flt.logAt id s.clock.now, supp := s.flt.supp.filter (· != id) } }

/-- A fault reaches the collector: count, capture, reactions, log record (16 R610, R612, R623). The reset and the relinquish
that the faults of one step name are gathered in `due` and `rel`; `settle` performs them once. With `perform` clear (an
injection without leave, 16 R627) they are logged and not performed. -/
def raiseX (id detail : Nat) (x : FAcc) (injected perform : Bool) (s : State) : State :=
  match faultClass id with
  | none => s
  | some cls =>
    let before := intStat s
    let react := reactNow s id detail
    let sends := bit react 2 && canRelinquish s && perform
    let logged := if sends || !perform || !bit react 2 then react else react - 4
    let s := { s with flt := { s.flt with counts := tinc s.flt.counts id } }
    let s := capture id cls detail x s
    let s := { s with flt := { s.flt with
        fstate := s.flt.fstate || bit react 1,
        aQuiet := s.flt.aQuiet || (cls == 1 && s.flt.aliveM == 1),
        due := if perform then max s.flt.due (bits react 5 3) else s.flt.due,
        rel := if sends && s.flt.rel == 0 then id else s.flt.rel } }
    let s := { s with pair := { s.pair with severe := if cls = 2 then min 0xFFFF (s.pair.severe + 1) else s.pair.severe } }
    let s := { s with boot := { s.boot with badSev := s.boot.badSev || 2 ≤ cls } }
    let recent := match tget s.flt.logAt id with
      | some t => lately t 10000000 s.clock.now
      | none => false
    let s := if recent && !bit react 1 && bits react 5 3 == 0 then
        { s with flt := { s.flt with supp := if s.flt.supp.contains id then s.flt.supp else s.flt.supp ++ [id] } }
      else faultLog id cls logged detail x injected s
    msixFrom before s

/-- Asks for the relinquish of a cause that is no single fault (15 R594); `settle` sends it where this node can. -/
def askRel (id : Nat) (s : State) : State := if s.flt.rel = 0 then { s with flt := { s.flt with rel := id } } else s

/-- Two uncorrectable errors of one memory within 1 s, the newest first in a list of times, ask for a relinquish (15 R594). -/
def askTwice (id : Nat) (l : List Nat) (s : State) : State :=
  match l with
  | a :: b :: _ => if b ≤ a ∧ a ≤ b + 1000000000 then askRel id s else s
  | _ => s

/-- Raises a fault that no fabric access caused. -/
def raise (id detail : Nat) (s : State) : State := raiseX id detail {} false true s

/-- Raises a fault of a chain: DETAIL holds the engine and the handle (16 R607). The faults of an engine's access to its local store, 0x0303 and
0x0305, carry the ACCESS code 0x7 of R621 (DEDUCED, log entry 66). -/
def raiseChain (cause e h : Nat) (s : State) : State :=
  raiseX (0x0300 + cause) (h * 65536 + e) { access := if cause = 3 ∨ cause = 5 then 7 else 0 } false true s

end Sys2Proof.Machine
end

