-- ==== Sys2Proof/Machine/Memory.lean ====
section
/-! DEFINITION. Byte memories in one canonical form (07 R267; log entry 12): addresses strictly rising, and no entry equal to
what an unlisted address reads as. The fabric memory is one; a chain's code and state images are others. -/

namespace Sys2Proof.Machine

/-- What an unlisted fabric byte reads as: 0xFF in the xSPI window, zero elsewhere (07 R267, 08). -/
def unlisted (a : Nat) : Byte := if 0x2010000000 ≤ a ∧ a ≤ 0x201FFFFFFF then 0xFF else 0

/-- What an unlisted byte of a chain's image reads as (04 R182). -/
def zeroAt (_ : Nat) : Byte := 0

/-- The byte at an address. -/
def rdCell (d : Nat → Byte) : List Host.Cell → Nat → Byte
  | [], a => d a
  | (k, v) :: r, a => if k = a then v else if a < k then d a else rdCell d r a

/-- Writes a byte, keeping the canonical form. -/
def wrCell (d : Nat → Byte) : List Host.Cell → Nat → Byte → List Host.Cell
  | [], a, x => if x = d a then [] else [(a, x)]
  | (k, v) :: r, a, x =>
    if a < k then (if x = d a then (k, v) :: r else (a, x) :: (k, v) :: r)
    else if k = a then (if x = d a then r else (a, x) :: r)
    else (k, v) :: wrCell d r a x

/-- Writes bytes at consecutive addresses. -/
def wrCells (d : Nat → Byte) : List Host.Cell → Nat → List Byte → List Host.Cell
  | m, _, [] => m
  | m, a, x :: xs => wrCells d (wrCell d m a x) (a + 1) xs

/-- Reads `n` bytes. -/
def rdCells (d : Nat → Byte) (m : List Host.Cell) (a n : Nat) : List Byte := (List.range n).map fun i => rdCell d m (a + i)

/-- Every address is above `lo`, the addresses rise, and no entry equals what its address reads as unlisted. -/
def wfFrom (d : Nat → Byte) (lo : Option Nat) : List Host.Cell → Bool
  | [] => true
  | (k, v) :: r => (match lo with | some l => decide (l < k) | none => true) && v != d k && wfFrom d (some k) r

/-- The canonical form. -/
def memWf (d : Nat → Byte) (m : List Host.Cell) : Bool := wfFrom d none m

/-- The canonical form of the fabric memory. -/
def Memory.wf (m : List Host.Cell) : Bool := memWf unlisted m

/-- Makes every byte of a range read as unlisted. -/
def clearCells : List Host.Cell → Nat → Nat → List Host.Cell
  | [], _, _ => []
  | (k, v) :: r, lo, hi => if lo ≤ k ∧ k < hi then clearCells r lo hi else (k, v) :: clearCells r lo hi

/-- A byte of the fabric memory. -/
def memRead (s : State) (a : Nat) : Byte := rdCell unlisted s.mem.cells a

/-- `n` bytes of the fabric memory. -/
def memReads (s : State) (a n : Nat) : List Byte := rdCells unlisted s.mem.cells a n

/-- Writes bytes of the fabric memory. -/
def memWrites (a : Nat) (bs : List Byte) (s : State) : State :=
  { s with mem := { s.mem with cells := wrCells unlisted s.mem.cells a bs } }

/-- Zeroes a range of the fabric memory. -/
def memClear (lo hi : Nat) (s : State) : State :=
  { s with mem := { s.mem with cells := clearCells s.mem.cells lo hi } }

/-- Base address of Heath bank `n` (07 R267). -/
def heathBase (n : Nat) : Nat := 0x0100000000 + n * 0x400000

/-- First address of delay memory (07 R267). -/
def dramBase : Nat := 0x4000000000

/-- First byte of the line pool (08 R308). -/
def poolBase : Nat := 0x4010000000

/-- A 32-bit little-endian word of a chain's block. -/
def blkWord (m : Tab Byte) (a : Nat) : W32 := BitVec.ofNat 32 (ofLE (rdCells zeroAt m a 4))

/-- The bytes of a 32-bit little-endian word. -/
def wordBytes (x : W32) : List Byte := toLE 4 x.toNat

/-! ## Heath banks -/

/-- The registers of a bank. -/
def bankAt (s : State) (n : Nat) : Bank := tgetD s.mem.banks n {}

/-- Changes a bank's registers. -/
def modBank (n : Nat) (f : Bank → Bank) (s : State) : State :=
  { s with mem := { s.mem with banks := tmod s.mem.banks n {} f } }

/-- A bank is turned on from Fallow, zeroing first; one in Retention wakes (08 R293, R294). -/
def bankOn (n : Nat) (s : State) : State :=
  let b := bankAt s n
  if b.pstate = 0 then modBank n (fun b => { b with pstate := 1 }) s
  else if b.pstate = 2 then modBank n (fun b => { b with waking := true }) s
  else s

/-- Whether the policy keeps a bank turned off: Fallow, but never for H16 and H17 (08 R294, R295). -/
def heldOff (s : State) (n : Nat) : Bool := (bankAt s n).policy == 2 && n != 16 && n != 17

/-- A bank that the KD9's own units are about to use is turned on, unless its policy keeps it off (08 R294, 05 R226). -/
def useBank (n : Nat) (s : State) : State := if heldOff s n then s else bankOn n s

/-- Whether a bank is On (08 R301). -/
def bankReady (s : State) (n : Nat) : Bool := (bankAt s n).pstate == 3

end Sys2Proof.Machine
end

