-- ==== Sys2Proof/Machine/Numeric.lean ====
section
/-! DEFINITION. Exact arithmetic of the gain codes, packed coefficients, logarithm and exponent (03 R88-R90, 04 R146-R149). -/

namespace Sys2Proof.Machine

/-- `floor(2^96 * 2^(2^-i))` for `i` from 1 to 16 (log entry 15). -/
def pow2Lo : List Nat :=
  [112045541949572279837463876454, 94218694570555024373110687280, 86398923866664962375130072334,
   82735892943544661968409507608, 80963033366431698391403892406, 80090900639232773493759855183,
   79658363602065864296602447411, 79442971854562650309779985388, 79335494482037593178543608468,
   79281810334857995344526032840, 79254981885274639038225885637, 79241571065139888961741854321,
   79234866506068713947867698353, 79231514439261175779748764724, 79229838459036794155212045657,
   79229000482219122111440011082]

/-- `floor(2^96 * 2^(2^-i))` for `i` from 17 to 32 (log entry 15). -/
def pow2Hi : List Nat :=
  [79228581497133874770443338217, 79228372005422143143813826732, 79228267259773999700675265240,
   79228214887001858491551355114, 79228188700628770505088420372, 79228175607445472165130168566,
   79228169060854634408312904163, 79228165787559418383175182041, 79228164150911861083921604088,
   79228163332588095112623330337, 79228162923426215296556284074, 79228162718845276180918278821,
   79228162616554806821198155068, 79228162565409572190862812835, 79228162539836954888076321620,
   79228162527050646239778370986]

/-- Multiplies by the factors of the bits set in the `w`-bit fraction `f`, highest first. -/
def pow2Fold (f : Nat) : Nat → List Nat → Nat → Nat
  | _, [], a => a
  | 0, _, a => a
  | w + 1, c :: cs, a => pow2Fold f w cs (if bit f w then a * c / 2 ^ 96 else a)

/-- `2^96 * 2^(f / 2^32)` to more than 90 bits, for `f` below `2^32`. Every rounding that R146 and R149 make of it has a margin
above `10^-8` of the unit rounded to, so the result is the exact one (log entry 15). -/
def pow2Frac (f : Nat) : Nat := pow2Fold f 32 (pow2Lo ++ pow2Hi) (2 ^ 96)

/-- Mantissa and exponent of a non-zero gain code (04 R146). -/
def linME (g : Nat) : Nat × Int :=
  let l : Int := ((g : Int) - 0xC000) * 2786635
  let e := l / 2 ^ 32
  let f := (l % 2 ^ 32).toNat
  let m := (pow2Frac f + 2 ^ 72) / 2 ^ 73
  if m = 2 ^ 24 then (2 ^ 23, e + 1) else (m, e)

/-- LIN: the packed coefficient of a gain code (04 R146). -/
def linOf (g : Nat) : W32 :=
  if g = 0 then 0 else
    let (m, e) := linME g
    BitVec.ofNat 32 (m * 256 + wrap 8 e)

/-- `rnd(s m, 23 - e)` for a packed coefficient (04 R147). -/
def coefMul (s : Int) (c : W32) : Int :=
  let m : Nat := c.toNat / 256
  let e := signed 8 c.toNat
  rnd (s * m) (23 - e)

/-- A node's contribution before saturation (03 R90). -/
def nodeTerm (s : Int) (code : Nat) (pol : Bool) : Int :=
  if code = 0 then 0 else
    let v := coefMul s (linOf code)
    if pol then -v else v

/-- LOG2 of one lane (04 R148): `round(2^16 log2 v)`, computed exactly as `(floor(log2 v^(2^17)) + 1) / 2`. -/
def log2Of (v : Int) : W32 :=
  if v ≤ 0 then 0x80000001 else BitVec.ofNat 32 (((v.toNat ^ 131072).log2 + 1) / 2)

/-- EXP2 of one lane (04 R149). -/
def exp2Of (y : Int) : W32 :=
  let q := y / 65536
  let r := (y % 65536).toNat
  if 31 ≤ q then 0x7FFFFFFF
  else if q < -1 then 0
  else
    let sh := (96 - q).toNat
    BitVec.ofNat 32 (min (2 ^ 31 - 1) ((pow2Frac (r * 65536) + 2 ^ (sh - 1)) / 2 ^ sh))

/-- A 32-bit word from an integer, keeping the low 32 bits. -/
def w32 (x : Int) : W32 := BitVec.ofInt 32 x

/-- A sample from an integer, saturated as every slot writer does (02 R51). -/
def sat (x : Int) : W32 := w32 (sat32 x)

/-- Whether `n - 1/2` is at or below `2^23 * 10^(-t / 5120)`, in integers. -/
def silFits (t n : Nat) : Bool := (2 * n - 1) ^ 5120 * 10 ^ t ≤ 2 ^ 122880

/-- The largest `n` that fits, by its bits from bit `i - 1` down. -/
def silSearch (t : Nat) : Nat → Nat → Nat
  | 0, a => a
  | i + 1, a => silSearch t i (if silFits t (a + 2 ^ i) then a + 2 ^ i else a)

/-- `T = round(2^23 * 10^(theta / 5120))` for a threshold in signed 1/256 dBFS, correctly rounded (06 R258). -/
def silLevel (theta : Int) : Nat := silSearch (-theta).toNat 18 0

/-- The magnitude of a sample word. -/
def mag (x : W32) : Nat := x.toInt.natAbs

/-- Whether every sample of a block is quiet at level `t` (06 R258). -/
def quietBlk (t : Nat) (b : List W32) : Bool := b.all fun x => decide (mag x ≤ t)

end Sys2Proof.Machine
end

