-- ==== Sys2Proof/Machine/Slots.lean ====
section
/-! DEFINITION. The Slot Exchange: sample ticks in flight, slot reads of a stage (02 R53-R68), and delay lines (08 R313-R316). -/

namespace Sys2Proof.Machine

/-- The record of a sample tick. -/
def recAt (s : State) (k : Nat) : Option TickRec := s.pipe.recs.find? (·.k == k)

/-- The record of a sample tick; every slot of a sample tick without one reads zero (02 R55, R75). -/
def recD (s : State) (k : Nat) : TickRec := (recAt s k).getD { k := k, cfg := s.pipe.live }

/-- The configuration of a sample tick: that of its record, before the data plane's first sample tick that which was in force then (02 R69). -/
def cfgOf (s : State) (k : Nat) : Cfg := match recAt s k with
  | some r => r.cfg
  | none => tgetD s.pipe.before k s.pipe.live

/-- The configurations that outputs still have to follow where the data plane starts at `first`: those of the four sample ticks up to `t`. -/
def cfgsBefore (t first : Nat) (s : State) : Tab Cfg := tputs [] (first - 4) ((List.range 4).map fun i => cfgOf s (t + i - 4))

/-- Changes the record of a sample tick. -/
def modRec (k : Nat) (f : TickRec → TickRec) (s : State) : State :=
  { s with pipe := { s.pipe with recs := s.pipe.recs.map fun r => if r.k = k then f r else r } }

/-- The block of a slot; absent means zeros. -/
def blkOf (t : Tab Blk) (i : Nat) : Blk := tgetD t i []

/-- Sample `j` of a block. -/
def smp (b : Blk) (j : Nat) : W32 := b.getD j 0

/-- Writes a block; a block of zeros is left out. No slot ever holds 0x8000_0000 (02 R51). -/
def putBlk (t : Tab Blk) (i : Nat) (b : Blk) : Tab Blk :=
  let b := b.map fun x => if x = 0x80000000#32 then 0x80000001#32 else x
  if b.all (· == 0) then tdel t i else tset t i b

/-- A block of `n` samples. -/
def mkBlk (n : Nat) (f : Nat → W32) : Blk := (List.range n).map f

/-- What a later stage reads from a slot: SRC, MIX-IN after align delay, MIX-OUT, DST (02 R63, R68). -/
def slotOf (r : TickRec) (space slot : Nat) : Blk :=
  match space with
  | 0 => blkOf r.src slot
  | 1 => blkOf r.mia slot
  | 2 => blkOf r.mo slot
  | _ => blkOf r.dst slot

/-- The sample tick that a stage works on during tick `cal`: Stage A one behind, Stage B three behind (02 R62); `none` before
the first sample tick that the data plane processed. -/
def stageTick (s : State) (stage : Nat) : Option Nat :=
  let d := if stage = 1 then 1 else 3
  if s.pipe.first + d ≤ s.pipe.cal then some (s.pipe.cal - d) else none

/-- The slot map entry of a MIX-IN or DST slot in a configuration. -/
def mapOf (c : Cfg) (space slot : Nat) : MapEnt := if space = 1 then tgetD c.mapMi slot {} else tgetD c.mapDst slot {}

/-! ## Delay lines -/

/-- Fabric address of ring position `p` of a line (log entry 13). -/
def lineAddr (l : Line) (p : Nat) : Nat := poolBase + l.base + 4 * (p % l.cap)

/-- Whether a word of delay memory is marked poisoned, or uncorrectable and not listed (08 R305). -/
def dramMarked (s : State) (a : Nat) : Bool := s.mem.dramTab.contains (a / 8) || s.mem.dramBad.contains (a / 8)

/-- Sample position `j` of sample tick `k`, less `d` samples, of a line: zero before its write mark, and in a poisoned word (04 R161, 08 R305,
R314). -/
def lineTap (s : State) (id k n j d : Nat) : W32 :=
  match tget s.lines.tab id with
  | none => 0
  | some l =>
    if k * n + j < d ∨ (k * n + j - d) / n < l.mark then 0
    else if dramMarked s (lineAddr l (k * n + j - d)) then 0
    else BitVec.ofNat 32 (ofLE (memReads s (lineAddr l (k * n + j - d)) 4))

/-- Writes the block of sample tick `k` to a line (04 R160): whole words, whose poison marks it clears (08 R305). -/
def lineWrite (id k n : Nat) (b : Blk) (s : State) : State :=
  match tget s.lines.tab id with
  | none => s
  | some l =>
    let ws := (List.range n).map fun j => lineAddr l (k * n + j) / 8
    let off := fun (m : List Nat) => m.filter fun w => !ws.contains w
    let s := { s with mem := { s.mem with dramTab := off s.mem.dramTab, dramBad := off s.mem.dramBad } }
    (List.range n).foldl (fun t j => memWrites (lineAddr l (k * n + j)) (wordBytes (smp b j)) t) s

end Sys2Proof.Machine
end

