-- ==== Sys2Proof/Machine/Operands.lean ====
section
/-! DEFINITION. Operand forms of the engines: registers, lanes, pointers with their modulo rule, window lanes, bundles and what
makes one illegal (04 R119-R137, R151, R156). -/

namespace Sys2Proof.Machine

/-! ## Lanes -/

/-! ## Registers -/

/-- V register `i`. -/
def gv (g : Regs) (i : Nat) : Oct W32 := tgetD g.v i (osame 0)

/-- A register `i`. -/
def ga (g : Regs) (i : Nat) : Oct A80 := tgetD g.a i (osame 0)

/-- S register `i`. -/
def gs (g : Regs) (i : Nat) : W32 := tgetD g.s i 0

/-- Pointer `i`; P7 reads as zero in every part (04 R120). -/
def gp (g : Regs) (i : Nat) : Ptr := if i = 7 then {} else tgetD g.p i {}

/-- Predicate `i`. -/
def gq (g : Regs) (i : Nat) : Bool := tgetD g.q i false

/-- Whether a slot's predicate lets it execute (04 R131, R133). -/
def allows (g : Regs) (pe pn : Bool) (pq : Nat) : Bool := !pe || (gq g pq != pn)

/-- One register write. -/
inductive RegW where
  | v (i : Nat) (x : Oct W32)
  | a (i : Nat) (x : Oct A80)
  | s (i : Nat) (x : W32)
  | p (i : Nat) (x : Ptr)
  | q (i : Nat) (x : Bool)
  deriving DecidableEq, Repr

/-- Writes one register; P7 cannot be written (04 R122). -/
def putReg (g : Regs) : RegW → Regs
  | .v i x => { g with v := tset g.v i x }
  | .a i x => { g with a := tset g.a i x }
  | .s i x => { g with s := tset g.s i x }
  | .p i x => if i = 7 then g else { g with p := tset g.p i x }
  | .q i x => { g with q := tset g.q i x }

/-- Writes registers in order. -/
def putRegs (g : Regs) (l : List RegW) : Regs := l.foldl putReg g

/-- MI as a signed 5-bit immediate. -/
def miS (x : MArgs) : Int := signed 5 x.mi

/-- LX as a signed 13-bit number. -/
def lxS (x : LArgs) : Int := signed 13 x.lx

/-- IMM31 sign-extended. -/
def immS (i : Nat) : W32 := BitVec.ofInt 32 (signed 31 i)

/-! ## Pointers (04 R151) -/

/-- A pointer advanced by `d` bytes. -/
def advance (p : Ptr) (d : Int) : Ptr :=
  let b : Int := p.base.toNat
  let a : Int := p.addr.toNat
  let r := if p.len = 0 then a + d else b + (a - b + d) % (p.len.toNat : Int)
  { p with addr := BitVec.ofInt 18 r }

/-- The byte address an access at a pointer plus an offset reaches. -/
def at_ (p : Ptr) (off : Int) : Int := (p.addr.toNat : Int) + off

/-! ## What one slot does -/

/-- Where a bundle goes next: `some` of a byte offset for a taken branch; a loop to begin as counter, count and body length. -/
inductive Go where
  | branch (target : Nat)
  | loop_ (lc count body : Nat)
  | tend
  deriving DecidableEq, Repr

/-- The effect of one slot of a bundle: register writes, stores to the state block, writes to output or line-write windows
(true for line writes; binding, position, value), control, the words found bad, a failure cause (3 access, 5 data), whether it
waits for a window, and extra cycles. -/
structure Eff where
  w    : List RegW := []
  st   : List (Nat × List Byte) := []
  win  : List (Bool × Nat × Nat × W32) := []
  go   : Option Go := none
  ue   : List Nat := []
  bad  : Nat := 0
  wait : Bool := false
  plus : Nat := 0
  deriving DecidableEq, Repr

/-- An access to `n` bytes at `a`, aligned to `al`, lies within the state block (04 R152). -/
def within (c : Chain) (a : Int) (n al : Nat) : Bool :=
  decide (0 ≤ a) && decide (a + n ≤ c.desc.stateBytes) && a % (al : Int) == 0

/-- Whether an access to `n` bytes at `a` meets a poisoned word or one of the uncorrectable words `ue` (04 R128). -/
def meetsBad (c : Chain) (ue : List Nat) (a n : Nat) : Bool :=
  (c.poison ++ ue).any fun i => decide (a / 8 ≤ i) && decide (8 * i < a + n)

/-- A 32-bit word of the block as a read returns it: zero where the word is bad. -/
def readWord (c : Chain) (ue : List Nat) (a : Nat) : W32 := if meetsBad c ue a 4 then 0 else blkWord c.blk a

/-! ## Windows (04 R154-R158) -/

/-- Sample `j` of input binding `i`: zero beyond the chain's count or the tick (04 R156). -/
def inSample (s : State) (c : Chain) (i j : Nat) : W32 :=
  match stageTick s c.desc.stage, c.desc.ins[i]? with
  | some k, some (sp, sl) => if j < tickN s then smp (slotOf (recD s k) sp sl) j else 0
  | _, _ => 0

/-- Sample `j` of tap `t` at the delay now in force (04 R161, R162). -/
def tapSample (s : State) (c : Chain) (t j : Nat) : W32 :=
  match stageTick s c.desc.stage, c.desc.taps[t]? with
  | some k, some (line, _, d0) => if j < tickN s then lineTap s line k (tickN s) j (c.taps.getD t d0) else 0
  | _, _ => 0

/-- Binding and position of lane `i`: channel-major binding `b + i` at `k`, sample-major binding `b` at `k + i` (04 R156). -/
def winLane (major : Bool) (b : Nat) (k : Int) (i : Nat) : Nat × Int := if major then (b, k + i) else (b + i, k)

/-- The sample position of a window form: `k`, plus S(LP) in the forms marked X (04 R150). -/
def winPos (g : Regs) (x : LArgs) (indexed : Bool) : Int :=
  (x.lx % 32 : Nat) + if indexed then (gs g (x.lp % 8)).toInt else 0

/-! ## Bundles (04 R130-R137) -/

/-- A kind of operand field: unused (zero), V or S (5 bits), A (3), predicate (2), pointer that is not written (3), pointer that
is written (0 to 6), any value of the field, or a range. -/
inductive Fld where
  | no | v | a | q | p | pw | any | rng (lo hi : Nat) | bq
  deriving DecidableEq, Repr

/-- Whether a field value of `w` bits suits its kind. -/
def fldOk (w : Nat) (x : Nat) : Fld → Bool
  | .no => x == 0
  | .v => decide (x < 32)
  | .a => decide (x < 8)
  | .q => decide (x < 4)
  | .p => decide (x < 8)
  | .pw => decide (x < 7)
  | .any => decide (x < 2 ^ w)
  | .rng lo hi => decide (lo ≤ x) && decide (x ≤ hi)
  | .bq => decide (x < 8) && x % 2 == 0

/-- The fields MD, MA, MB and MI that an M operation uses; `none` for a reserved code (04 R142). `long` is format 0x1. -/
def mForm (op : Nat) (long : Bool) : Option (Fld × Fld × Fld × Fld) :=
  if op = 0 then some (.no, .no, .no, .no)
  else if op ≤ 4 ∨ (7 ≤ op ∧ op ≤ 0x0B) then some (.v, .v, .v, .no)
  else if op ≤ 6 then some (.v, .v, .no, .no)
  else if op ≤ 0x0E then some (.v, .v, .no, .any)
  else match op with
  | 0x0F => some (.v, .v, .no, .rng 1 31)
  | 0x10 => some (.q, .v, .v, .rng 0 13)
  | 0x11 => some (.v, .v, .v, .any)
  | 0x18 => some (.a, .v, .v, .no)
  | 0x19 => some (.a, .v, .v, .no)
  | 0x1A => some (.a, .v, .v, .no)
  | 0x1B => some (.a, .no, .no, .no)
  | 0x1C => some (.a, .a, .no, .no)
  | 0x1D => some (.a, .a, .no, .no)
  | 0x1E => some (.a, .v, .no, .any)
  | 0x1F => some (.v, .a, .no, .any)
  | 0x28 => some (.v, .v, .rng 0 27, .bq)
  | 0x29 => some (.a, .v, .pw, .any)
  | 0x2A => some (.v, .v, .no, .no)
  | 0x2B => some (.v, .v, .v, .no)
  | 0x2C => some (.a, .v, .v, .no)
  | 0x2D => some (.v, .v, .no, .no)
  | 0x2E => some (.v, .v, .no, .no)
  | 0x39 => some (.v, .v, .no, .any)
  | 0x3A => some (.v, .no, .no, if long then .no else .any)
  | 0x3B => some (.q, .v, .v, .rng 0 5)
  | 0x3C => some (.q, .no, .no, .rng 0 1)
  | 0x40 => some (.v, .v, .no, .no)
  | 0x41 => some (.v, .v, .no, .rng 0 7)
  | 0x42 => some (.v, .v, .no, .rng 0 7)
  | 0x43 => some (.v, .v, .no, .no)
  | 0x44 => some (.v, .v, .no, .rng 0 7)
  | 0x45 => if long then some (.v, .no, .no, .no) else none
  | _ => if 0x30 ≤ op ∧ op ≤ 0x38 then some (.v, .v, .v, .no) else none

/-- The fields LD, LP and LX that an L operation uses; `none` for a reserved code (04 R150). `long` is format 0x2. -/
def lForm (op : Nat) (long : Bool) : Option (Fld × Fld × Fld) :=
  if 0x10 ≤ op ∧ op ≤ 0x1F then some (.v, if op % 4 < 2 then .no else .p, .any)
  else match op with
  | 0x00 => some (.no, .no, .no)
  | 0x01 => some (.v, .p, .any)
  | 0x02 => some (.v, .pw, .any)
  | 0x03 => some (.v, .p, .any)
  | 0x04 => some (.v, .pw, .any)
  | 0x05 => some (.v, .p, .any)
  | 0x06 => some (.v, .pw, .any)
  | 0x07 => some (.v, .p, .any)
  | 0x08 => some (.v, .pw, .any)
  | 0x09 => some (.a, .p, .any)
  | 0x0A => some (.a, .p, .any)
  | 0x0B => some (.v, .pw, .no)
  | 0x0C => if long then some (.no, .pw, .no) else none
  | 0x0D => if long then some (.no, .pw, .no) else none
  | 0x0E => some (.v, .p, .no)
  | 0x0F => some (.v, .pw, .no)
  | 0x20 => some (.no, .no, .any)
  | 0x21 => if long then some (.no, .no, .no) else none
  | 0x22 => some (.rng 0 1, .p, .rng 1 8191)
  | 0x23 => if long then some (.rng 0 1, .no, .rng 1 8191) else none
  | 0x24 => some (.no, .no, .no)
  | 0x25 => some (.no, .no, .no)
  | 0x27 => some (.v, .no, .rng 0 3)
  | _ => none

/-- The condition code of VCMP leaves bit 4 clear and uses codes 0x0 to 0x5 (04 R142, R143). -/
def vcmpOk (x : MArgs) : Bool := decide (x.mi < 16) && decide (x.mi % 8 < 6)

/-- Whether the fields of the M slot suit its operation. -/
def mOk (x : MSlot) (long : Bool) : Bool :=
  match mForm x.op long with
  | none => false
  | some (d, a, b, i) =>
    fldOk 5 x.x.md d && fldOk 5 x.x.ma a && fldOk 5 x.x.mb b && fldOk 5 x.x.mi i && decide (x.x.pq < 4)
      && (x.op != 0x10 || vcmpOk x.x)

/-- Whether the fields of the L slot suit its operation. -/
def lOk (x : LSlot) (long : Bool) : Bool :=
  match lForm x.op long with
  | none => false
  | some (d, p, i) =>
    fldOk 5 x.x.ld d && fldOk 3 x.x.lp p && fldOk 13 x.x.lx i && decide (x.x.pq < 4)
      && !(x.x.pe && (x.op == 0x22 || x.op == 0x23 || x.op == 0x24))

/-- Whether a bundle's format and fields are legal (04 R130, R133, R137). -/
def bundleOk (b : Bundle) : Bool :=
  match b.fmt with
  | 0 => mOk b.m false && lOk b.l false
  | 1 => mOk b.m true && (b.m.op == 0x3A || b.m.op == 0x45) && b.l.op == 0 && lOk b.l false
  | 2 => lOk b.l true && (b.l.op == 0x0C || b.l.op == 0x0D || b.l.op == 0x23 || b.l.op == 0x21) && b.m.op == 0 && mOk b.m false
  | _ => false

/-- The bundle that a 64-bit word encodes (04 R130-R132). -/
def bundleOf (w : Nat) : Bundle :=
  let f := bits w 63 62
  let mx : MArgs := { pe := bit w 54, pn := bit w 53, pq := bits w 52 51, md := bits w 50 46, ma := bits w 45 41,
                      mb := bits w 40 36, mi := bits w 35 31 }
  let lx : LArgs := { pe := bit w 24, pn := bit w 23, pq := bits w 22 21, ld := bits w 20 16, lp := bits w 15 13, lx := bits w 12 0 }
  { fmt := f,
    m := if f = 2 then {} else { op := bits w 61 55, x := mx },
    l := if f = 1 then {} else { op := bits w 30 25, x := lx },
    imm := if f = 1 then bits w 30 0 else if f = 2 then bits w 61 31 else 0 }

/-- Bits 61 to 31 of a bundle: the M slot (04 R131). -/
def mWord (x : MSlot) : Nat :=
  2 ^ 24 * x.op + 2 ^ 23 * b2n x.x.pe + 2 ^ 22 * b2n x.x.pn + 2 ^ 20 * x.x.pq + 2 ^ 15 * x.x.md + 2 ^ 10 * x.x.ma + 2 ^ 5 * x.x.mb + x.x.mi

/-- Bits 30 to 0 of a bundle: the L slot (04 R132). -/
def lWord (x : LSlot) : Nat :=
  2 ^ 25 * x.op + 2 ^ 24 * b2n x.x.pe + 2 ^ 23 * b2n x.x.pn + 2 ^ 21 * x.x.pq + 2 ^ 16 * x.x.ld + 2 ^ 13 * x.x.lp + x.x.lx

/-- The 64-bit word of a bundle (04 R130-R132). -/
def bundleWord (b : Bundle) : Nat :=
  2 ^ 62 * b.fmt + 2 ^ 31 * (if b.fmt = 2 then b.imm else mWord b.m) + (if b.fmt = 1 then b.imm else lWord b.l)

/-- Whether a bundle names no finding of an access and has only the parts of its format, as one read from a code image does. -/
def bundlePlain (b : Bundle) : Bool :=
  b.m.x.ue.isEmpty && b.m.x.ce == 0 && !b.m.x.fe && b.l.x.ue.isEmpty && b.l.x.ce == 0 && !b.l.x.fe && !b.l.x.late
    && (b.fmt != 0 || b.imm == 0) && (b.fmt != 1 || b.l == {}) && (b.fmt != 2 || b.m == {}) && decide (b.imm < 2 ^ 31)

/-- Cycles of an M operation (04 R142). -/
def mCycles (op : Nat) : Nat := if op = 0x28 then 5 else if op = 0x2A ∨ op = 0x2D ∨ op = 0x2E then 2 else 1

/-- Cycles of an L operation (04 R150). -/
def lCycles (op : Nat) : Nat := if op = 0x09 ∨ op = 0x0A then 4 else if op = 0x21 then 2 else 1

end Sys2Proof.Machine
end

