-- ==== Sys2Proof/Machine/Flags.lean ====
section
/-! DEFINITION. The predicates that engine comparisons write (04 R142, R143). -/

namespace Sys2Proof.Machine

/-- A signed comparison condition between two words (04 R143). -/
def cond (c : Nat) (x y : W32) : Bool :=
  match c with
  | 0 => x == y
  | 1 => x != y
  | 2 => decide (x.toInt < y.toInt)
  | 3 => decide (x.toInt ≤ y.toInt)
  | 4 => decide (y.toInt < x.toInt)
  | _ => decide (y.toInt ≤ x.toInt)

/-- VCMP: the condition MI[2:0] in any lane (MI[3] = 0) or in all lanes (MI[3] = 1). -/
def vcmpFlag (mi : Nat) (x y : Oct W32) : Bool :=
  let l := olist (ozip (cond (mi % 8)) x y)
  if bit mi 3 then l.all id else l.any id

end Sys2Proof.Machine
end

