-- ==== Sys2Proof/Machine/LOps.lean ====
section
/-! DEFINITION. What each L-slot operation does (04 R150-R158), from its fields, the long immediate of format 0x2, the registers
before the bundle, the engine's number and the machine. -/

namespace Sys2Proof.Machine

/-- The engine at a number. -/
def engAt (s : State) (e : Nat) : Engine := tgetD s.eng.engines e {}

/-- Changes an engine. -/
def modEng (e : Nat) (f : Engine → Engine) (s : State) : State :=
  { s with eng := { s.eng with engines := tmod s.eng.engines e {} f } }

/-- The chain of a handle. -/
def chainAt (s : State) (h : Nat) : Option Chain := tget s.eng.chains h

/-- The number under which an engine runs the copy of a migrating chain (05 R211): above every handle. -/
def twinOf (h : Nat) : Nat := 4096 + h

/-- Whether an engine's chain number names such a copy. -/
def isTwin (h : Nat) : Bool := decide (4096 ≤ h)

/-- The chain of a handle, or an empty one; above the handles, the copy of a migrating chain on its destination. -/
def chainD (s : State) (h : Nat) : Chain := if isTwin h then tgetD s.eng.twins (h - 4096) {} else tgetD s.eng.chains h {}

/-- Changes a loaded chain, or the copy of a migrating one. -/
def modChain (h : Nat) (f : Chain → Chain) (s : State) : State :=
  { s with eng := if isTwin h then { s.eng with twins := tupd s.eng.twins (h - 4096) f } else { s.eng with chains := tupd s.eng.chains h f } }

/-- The computation of an L operation; the number is that of the engine. -/
abbrev LSem := LArgs → Nat → Regs → Chain → State → Nat → Eff

/-- The eight words of a vector in state. -/
def vecAt (c : Chain) (ue : List Nat) (a : Nat) : Oct W32 := ogen fun i => readWord c ue (a + 4 * i)

/-- The bytes of a vector, lane `i` at offset `4 i` (04 R125). -/
def vecBytes (v : Oct W32) : List Byte := (olist v).flatMap wordBytes

/-- One accumulator lane of 16 bytes: the low 80 bits (04 R150). -/
def accLane (c : Chain) (a : Nat) : A80 := BitVec.ofNat 80 (ofLE (rdCells zeroAt c.blk a 16))

/-- A load of one vector at address `a`, with its pointer update. -/
def loadVec (x : LArgs) (c : Chain) (a : Int) (upd : List RegW) : Eff :=
  if within c a 32 32 then
    { w := .v x.ld (vecAt c x.ue a.toNat) :: upd, ue := x.ue, bad := if meetsBad c x.ue a.toNat 32 then 5 else 0 }
  else { bad := 3 }

/-- A load of one word at address `a`. -/
def loadWord (x : LArgs) (c : Chain) (a : Int) (upd : List RegW) : Eff :=
  if within c a 4 4 then
    { w := .s x.ld (readWord c x.ue a.toNat) :: upd, ue := x.ue, bad := if meetsBad c x.ue a.toNat 4 then 5 else 0 }
  else { bad := 3 }

/-- A store of whole 64-bit words (04 R129). -/
def storeWhole (c : Chain) (a : Int) (bs : List Byte) (upd : List RegW) : Eff :=
  if within c a bs.length 32 then { w := upd, st := [(a.toNat, bs)] } else { bad := 3 }

/-- A store of one word, which is a partial write: it meets POISON in a bad word (04 R126, R128, R129). -/
def storeWord (x : LArgs) (c : Chain) (a : Int) (v : W32) (upd : List RegW) : Eff :=
  if within c a 4 4 then
    if meetsBad c x.ue a.toNat 4 then { ue := x.ue, bad := 5 } else { w := upd, st := [(a.toNat, wordBytes v)] }
  else { bad := 3 }

def lNop : LSem := fun _ _ _ _ _ _ => {}
def lLdv : LSem := fun x _ g c _ _ => loadVec x c (at_ (gp g x.lp) (32 * lxS x)) []
def lLdvp : LSem := fun x _ g c _ _ => loadVec x c (at_ (gp g x.lp) 0) [.p x.lp (advance (gp g x.lp) (32 * lxS x))]
def lStv : LSem := fun x _ g c _ _ => storeWhole c (at_ (gp g x.lp) (32 * lxS x)) (vecBytes (gv g x.ld)) []
def lStvp : LSem := fun x _ g c _ _ =>
  storeWhole c (at_ (gp g x.lp) 0) (vecBytes (gv g x.ld)) [.p x.lp (advance (gp g x.lp) (32 * lxS x))]
def lLds : LSem := fun x _ g c _ _ => loadWord x c (at_ (gp g x.lp) (4 * lxS x)) []
def lLdsp : LSem := fun x _ g c _ _ => loadWord x c (at_ (gp g x.lp) 0) [.p x.lp (advance (gp g x.lp) (4 * lxS x))]
def lSts : LSem := fun x _ g c _ _ => storeWord x c (at_ (gp g x.lp) (4 * lxS x)) (gs g x.ld) []
def lStsp : LSem := fun x _ g c _ _ =>
  storeWord x c (at_ (gp g x.lp) 0) (gs g x.ld) [.p x.lp (advance (gp g x.lp) (4 * lxS x))]

/-- A load of 128 bytes into an accumulator. -/
def lLda : LSem := fun x _ g c _ _ =>
  let a := at_ (gp g x.lp) (32 * lxS x)
  if within c a 128 32 then
    { w := [.a x.ld (ogen fun i => if meetsBad c x.ue (a.toNat + 16 * i) 16 then 0 else accLane c (a.toNat + 16 * i))], ue := x.ue,
      bad := if meetsBad c x.ue a.toNat 128 then 5 else 0 }
  else { bad := 3 }

/-- A store of an accumulator, each lane sign-extended to 16 bytes. -/
def lSta : LSem := fun x _ g c _ _ =>
  storeWhole c (at_ (gp g x.lp) (32 * lxS x)) ((olist (ga g x.ld)).flatMap fun l => toLE 16 (wrap 128 l.toInt)) []

def lPadd : LSem := fun x _ g _ _ _ => { w := [.p x.lp (advance (gp g x.lp) (gs g x.ld).toInt)] }
def lPset : LSem := fun x i g _ _ _ => { w := [.p x.lp { gp g x.lp with addr := BitVec.ofNat 18 i, base := BitVec.ofNat 18 i }] }
def lPlen : LSem := fun x i g _ _ _ => { w := [.p x.lp { gp g x.lp with len := BitVec.ofNat 18 i }] }
def lPget : LSem := fun x _ g _ _ _ => { w := [.s x.ld ((gp g x.lp).addr.setWidth 32)] }
def lPput : LSem := fun x _ g _ _ _ => { w := [.p x.lp { gp g x.lp with addr := (gs g x.ld).setWidth 18 }] }

/-- A read of input windows (04 R156). -/
def readIn (major indexed : Bool) : LSem := fun x _ g c s _ =>
  if x.late then { wait := true }
  else { w := [.v x.ld (ogen fun i =>
    let (b, k) := winLane major (x.lx / 32) (winPos g x indexed) i
    if k < 0 then 0 else inSample s c b k.toNat)] }

/-- A read of tap windows (04 R156). -/
def readTap (major indexed : Bool) : LSem := fun x _ g c s _ =>
  if x.late then { wait := true }
  else { w := [.v x.ld (ogen fun i =>
    let (b, k) := winLane major (x.lx / 32) (winPos g x indexed) i
    if k < 0 then 0 else tapSample s c b k.toNat)] }

/-- A write to output windows, or to line-write windows; a binding or position outside the chain's is discarded, and
0x8000_0000 is written as 0x8000_0001 (04 R141, R156). -/
def writeWin (line major indexed : Bool) : LSem := fun x _ g c s _ =>
  let cnt := if line then c.desc.lines.length else c.desc.outs.length
  { win := (List.range 8).filterMap fun i =>
      let (b, k) := winLane major (x.lx / 32) (winPos g x indexed) i
      let v := oget (gv g x.ld) i
      if b < cnt ∧ 0 ≤ k ∧ k < (tickN s : Int) then some (line, b, k.toNat, if v = 0x80000000#32 then 0x80000001#32 else v)
      else none }

def lWrdc : LSem := readIn false false
def lWrds : LSem := readIn true false
def lWrdcx : LSem := readIn false true
def lWrdsx : LSem := readIn true true
def lWwrc : LSem := writeWin false false false
def lWwrs : LSem := writeWin false true false
def lWwrcx : LSem := writeWin false false true
def lWwrsx : LSem := writeWin false true true
def lTrdc : LSem := readTap false false
def lTrds : LSem := readTap true false
def lTrdcx : LSem := readTap false true
def lTrdsx : LSem := readTap true true
def lDwrc : LSem := writeWin true false false
def lDwrs : LSem := writeWin true true false
def lDwrcx : LSem := writeWin true false true
def lDwrsx : LSem := writeWin true true true

/-- A taken BR adds one cycle (04 R136). A target below zero is outside the code image; it stands as the offset after it. -/
def lBr : LSem := fun x _ _ c s e =>
  let t : Int := (engAt s e).pc + 8 * lxS x
  { go := some (.branch (if t < 0 then c.desc.codeBytes else t.toNat)), plus := 1 }

def lBrl : LSem := fun _ i _ _ _ _ => { go := some (.branch (8 * (i % 8192))) }
def lLoop : LSem := fun x _ g _ _ _ => { go := some (.loop_ x.ld ((gs g x.lp).toNat % 65536) x.lx) }
def lLoopi : LSem := fun x i _ _ _ _ => { go := some (.loop_ x.ld (i % 65536) x.lx) }
def lTend : LSem := fun _ _ _ _ _ _ => { go := some .tend }

/-- FENCE: every store of this model has reached the data store when its bundle ends, so nothing is left to wait for. -/
def lFence : LSem := fun _ _ _ _ _ _ => {}

/-- SYSRD: tick size, sample-rate code, or the low or high word of the sample tick being processed (04 R150). -/
def lSysrd : LSem := fun x _ _ c s _ =>
  let k := (stageTick s c.desc.stage).getD 0
  let v := match x.lx with
    | 0 => tickN s
    | 1 => rate s
    | 2 => k % 2 ^ 32
    | _ => k / 2 ^ 32 % 2 ^ 16
  { w := [.s x.ld (BitVec.ofNat 32 v)] }

/-- The L operation of a code (04 R150); a reserved code has none. -/
def lSem (op : Nat) : LSem :=
  match op with
  | 0x01 => lLdv | 0x02 => lLdvp | 0x03 => lStv | 0x04 => lStvp | 0x05 => lLds | 0x06 => lLdsp | 0x07 => lSts
  | 0x08 => lStsp | 0x09 => lLda | 0x0A => lSta | 0x0B => lPadd | 0x0C => lPset | 0x0D => lPlen | 0x0E => lPget
  | 0x0F => lPput | 0x10 => lWrdc | 0x11 => lWrds | 0x12 => lWrdcx | 0x13 => lWrdsx | 0x14 => lWwrc | 0x15 => lWwrs
  | 0x16 => lWwrcx | 0x17 => lWwrsx | 0x18 => lTrdc | 0x19 => lTrds | 0x1A => lTrdcx | 0x1B => lTrdsx
  | 0x1C => lDwrc | 0x1D => lDwrs | 0x1E => lDwrcx | 0x1F => lDwrsx | 0x20 => lBr | 0x21 => lBrl | 0x22 => lLoop
  | 0x23 => lLoopi | 0x24 => lTend | 0x25 => lFence | 0x27 => lSysrd | _ => lNop

end Sys2Proof.Machine
end

