-- ==== Sys2Proof/Machine/MOps.lean ====
section
/-! DEFINITION. What each M-slot operation computes (04 R138-R149), from its fields, the long immediate of format 0x1, the registers
before the bundle and the chain's block. -/

namespace Sys2Proof.Machine

/-- The computation of an M operation. -/
abbrev MSem := MArgs → Option Nat → Regs → Chain → Eff

/-- VD from VA and VB, lane by lane. -/
def mvv (f : W32 → W32 → W32) : MSem := fun x _ g _ => { w := [.v x.md (ozip f (gv g x.ma) (gv g x.mb))] }

/-- VD from VA, lane by lane. -/
def mv1 (f : W32 → W32) : MSem := fun x _ g _ => { w := [.v x.md (omap f (gv g x.ma))] }

/-- SD from SA and SB. -/
def mss (f : W32 → W32 → W32) : MSem := fun x _ g _ => { w := [.s x.md (f (gs g x.ma) (gs g x.mb))] }

/-- Ad from Ad, VA and VB, lane by lane, modulo 2^80 (04 R140). -/
def mavv (f : Int → Int → Int → Int) : MSem := fun x _ g _ =>
  { w := [.a x.md (ozip (fun (p : A80 × W32) (b : W32) => BitVec.ofInt 80 (f p.1.toInt p.2.toInt b.toInt))
      (ozip Prod.mk (ga g x.md) (gv g x.ma)) (gv g x.mb))] }

def mNop : MSem := fun _ _ _ _ => {}
def mVadd : MSem := mvv fun a b => a + b
def mVadds : MSem := mvv fun a b => sat (a.toInt + b.toInt)
def mVsub : MSem := mvv fun a b => a - b
def mVsubs : MSem := mvv fun a b => sat (a.toInt - b.toInt)
def mVnegs : MSem := mv1 fun a => sat (-a.toInt)
def mVabss : MSem := mv1 fun a => sat (a.toInt.natAbs : Int)
def mVmax : MSem := mvv fun a b => if a.toInt < b.toInt then b else a
def mVmin : MSem := mvv fun a b => if b.toInt < a.toInt then b else a
def mVand : MSem := mvv fun a b => a &&& b
def mVor : MSem := mvv fun a b => a ||| b
def mVxor : MSem := mvv fun a b => a ^^^ b
def mVshls : MSem := fun x i => mv1 (fun a => sat (a.toInt * 2 ^ x.mi)) x i
def mVshrr : MSem := fun x i => mv1 (fun a => w32 (rnd a.toInt x.mi)) x i
def mVshr : MSem := fun x i => mv1 (fun a => w32 (a.toInt / 2 ^ x.mi)) x i
def mVsatn : MSem := fun x i => mv1 (fun a => w32 (clampI (-(2 ^ x.mi - 1)) (2 ^ x.mi - 1) a.toInt)) x i
def mVcmp : MSem := fun x _ g _ => { w := [.q x.md (vcmpFlag x.mi (gv g x.ma) (gv g x.mb))] }
def mVmulr : MSem := fun x i => mvv (fun a b => sat (rnd (a.toInt * b.toInt) x.mi)) x i
def mVmac : MSem := mavv fun d a b => d + a * b
def mVmsu : MSem := mavv fun d a b => d - a * b
def mVmul : MSem := mavv fun _ a b => a * b
def mAclr : MSem := fun x _ _ _ => { w := [.a x.md (osame 0)] }
def mAadd : MSem := fun x _ g _ => { w := [.a x.md (ozip (· + ·) (ga g x.md) (ga g x.ma))] }

/-- Lane 0 takes the sum of the eight lanes, the others zero (04 R142). -/
def mAsum : MSem := fun x _ g _ =>
  let t := (olist (ga g x.ma)).foldl (· + ·) 0
  { w := [.a x.md ⟨t, 0, 0, 0, 0, 0, 0, 0⟩] }

def mVtoa : MSem := fun x _ g _ => { w := [.a x.md (omap (fun a => BitVec.ofInt 80 (a.toInt * 2 ^ x.mi)) (gv g x.ma))] }
def mExt : MSem := fun x _ g _ => { w := [.v x.md (omap (fun a => sat (rnd a.toInt x.mi)) (ga g x.ma))] }

/-- One biquad section per lane, in transposed direct form II (04 R144). -/
def mBq : MSem := fun x _ g _ =>
  let sreg := x.mi % 8
  let lane := fun (i : Nat) =>
    let v := (oget (gv g x.ma) i).toInt
    let c := fun j => (oget (gv g (x.mb + j)) i).toInt
    let s1 := (oget (ga g sreg) i).toInt
    let s2 := (oget (ga g (sreg + 1)) i).toInt
    let acc := (BitVec.ofInt 80 (c 0 * v + s1)).toInt
    let y := sat32 (rnd acc 29)
    (w32 y, BitVec.ofInt 80 (c 1 * v - c 3 * y + s2), BitVec.ofInt 80 (c 2 * v - c 4 * y))
  { w := [.a sreg (ogen fun i => (lane i).2.1), .a (sreg + 1) (ogen fun i => (lane i).2.2), .v x.md (ogen fun i => (lane i).1)] }

/-- Byte address of history word `i` of a FIR step (04 R145); like an advanced pointer (R151) it is 18 bits wide before R152 checks it (DESIGN
CHOICE, log entry 41). -/
def firAddr (p : Ptr) (i : Nat) : Nat := (advance p (4 * i)).addr.toNat

/-- One FIR step: eight products with words of a circular buffer, then the pointer advances (04 R145). -/
def mFirs : MSem := fun x _ g c =>
  let p := gp g (x.mb % 8)
  if (List.range 8).all fun i => within c (firAddr p i) 4 4 then
    let acc := ogen fun i =>
      BitVec.ofInt 80 ((oget (ga g x.md) i).toInt + (oget (gv g x.ma) i).toInt * (readWord c x.ue (firAddr p i)).toInt)
    { w := [.a x.md acc, .p (x.mb % 8) (advance p (4 * miS x))], ue := x.ue,
      bad := if (List.range 8).any fun i => meetsBad c x.ue (firAddr p i) 4 then 5 else 0 }
  else { bad := 3 }

def mLin : MSem := mv1 fun a => linOf (a.toNat % 65536)
def mGmul : MSem := mvv fun a b => sat (coefMul a.toInt b)
def mGmac : MSem := fun x _ g _ =>
  { w := [.a x.md (ozip (fun (p : A80 × W32) (b : W32) => BitVec.ofInt 80 (p.1.toInt + coefMul p.2.toInt b))
      (ozip Prod.mk (ga g x.md) (gv g x.ma)) (gv g x.mb))] }
def mLog2 : MSem := mv1 fun a => log2Of a.toInt
def mExp2 : MSem := mv1 fun a => exp2Of a.toInt
def mSadd : MSem := mss fun a b => a + b
def mSsub : MSem := mss fun a b => a - b
def mSadds : MSem := mss fun a b => sat (a.toInt + b.toInt)
def mSmul : MSem := mss fun a b => a * b
def mSand : MSem := mss fun a b => a &&& b
def mSor : MSem := mss fun a b => a ||| b
def mSxor : MSem := mss fun a b => a ^^^ b
def mSshl : MSem := mss fun a b => a <<< (b.toNat % 32)
def mSshr : MSem := mss fun a b => a.sshiftRight (b.toNat % 32)
def mSaddi : MSem := fun x _ g _ => { w := [.s x.md (gs g x.ma + w32 (miS x))] }
def mSmovi : MSem := fun x imm _ _ =>
  { w := [.s x.md (match imm with | some i => immS i | none => w32 (miS x))] }
def mScmp : MSem := fun x _ g _ => { w := [.q x.md (cond (x.mi % 8) (gs g x.ma) (gs g x.mb))] }
def mQset : MSem := fun x _ _ _ => { w := [.q x.md (bit x.mi 0)] }
def mVbc : MSem := fun x _ g _ => { w := [.v x.md (osame (gs g x.ma))] }
def mVget : MSem := fun x _ g _ => { w := [.s x.md (oget (gv g x.ma) (x.mi % 8))] }
def mVput : MSem := fun x _ g _ =>
  { w := [.v x.md (ogen fun i => if i = x.mi % 8 then gs g x.ma else oget (gv g x.md) i)] }
def mVmov : MSem := mv1 id
def mVrot : MSem := fun x _ g _ => { w := [.v x.md (ogen fun i => oget (gv g x.ma) ((i + x.mi % 8) % 8))] }
def mVimm : MSem := fun x imm _ _ => { w := [.v x.md (osame (immS (imm.getD 0)))] }

/-- The M operation of a code (04 R142); a reserved code has none. -/
def mSem (op : Nat) : MSem :=
  match op with
  | 0x01 => mVadd | 0x02 => mVadds | 0x03 => mVsub | 0x04 => mVsubs | 0x05 => mVnegs | 0x06 => mVabss
  | 0x07 => mVmax | 0x08 => mVmin | 0x09 => mVand | 0x0A => mVor | 0x0B => mVxor | 0x0C => mVshls
  | 0x0D => mVshrr | 0x0E => mVshr | 0x0F => mVsatn | 0x10 => mVcmp | 0x11 => mVmulr | 0x18 => mVmac
  | 0x19 => mVmsu | 0x1A => mVmul | 0x1B => mAclr | 0x1C => mAadd | 0x1D => mAsum | 0x1E => mVtoa
  | 0x1F => mExt | 0x28 => mBq | 0x29 => mFirs | 0x2A => mLin | 0x2B => mGmul | 0x2C => mGmac
  | 0x2D => mLog2 | 0x2E => mExp2 | 0x30 => mSadd | 0x31 => mSsub | 0x32 => mSadds | 0x33 => mSmul
  | 0x34 => mSand | 0x35 => mSor | 0x36 => mSxor | 0x37 => mSshl | 0x38 => mSshr | 0x39 => mSaddi
  | 0x3A => mSmovi | 0x3B => mScmp | 0x3C => mQset | 0x40 => mVbc | 0x41 => mVget | 0x42 => mVput
  | 0x43 => mVmov | 0x44 => mVrot | 0x45 => mVimm | _ => mNop

end Sys2Proof.Machine
end

