-- ==== Sys2Proof/Machine/Chain.lean ====
section
/-! DEFINITION. Running a chain's tick: entry, bundles, TEND, failures and misses, the undo journal, parking, and the placement
event log (02 R78-R80, 04 R168-R178, 05 R218, R236). -/

namespace Sys2Proof.Machine

/-! ## The placement event log -/

/-- Writes a record of the placement event log (05 R236). -/
def placeEvent (ev reason handle origin target detail : Nat) (s : State) : State :=
  let i := s.place.idx
  let b := toBE 6 (cal s) ++ toBE 1 ev ++ toBE 1 reason ++ toBE 2 handle ++ toBE 2 origin ++ toBE 2 target ++ toBE 2 detail
  let ovf := match if i < 4096 then none else tget s.place.log (i - 4096) with
    | some r => if r.2 then s.place.ovf else inc16 s.place.ovf
    | none => s.place.ovf
  { s with place := { s.place with log := tset (if i < 4096 then s.place.log else tdel s.place.log (i - 4096)) i (b, false),
                                   idx := i + 1, ovf := ovf } }

/-- An engine becomes Suspect (05 R218). -/
def suspect (e : Nat) (s : State) : State :=
  if (engAt s e).pst < 2 then
    raise 0x0307 e (placeEvent 7 0 0 e 0xFFFF 0 (modEng e (fun g => { g with pst := 2, passRun := 0 }) s))
  else s

/-- Uncorrectable local-store errors of an engine: two within one period make it Suspect (05 R218). -/
def localErrors (e n : Nat) (s : State) : State :=
  if n = 0 then s
  else
    let s := modEng e (fun g => { g with uePer := g.uePer + n, ueAt := (List.replicate n s.clock.now ++ g.ueAt).take 4 }) s
    let s := askTwice 0x0305 (engAt s e).ueAt s
    if 2 ≤ (engAt s e).uePer then suspect e s else s

/-! ## Cost, quiet ticks and zeros -/

/-- Declared cost at a tick size (04, Declared cost). -/
def declared (d : Desc) (n : Nat) : Nat := d.costFixed + n * d.costSample

/-- The quiet level in force (06 R258). -/
def quietLevel (s : State) : Nat := silLevel s.pipe.live.silThr

/-- Whether every sample of every input window is quiet (04 R177). -/
def inputsQuiet (s : State) (c : Chain) : Bool :=
  let q := quietLevel s
  (List.range c.desc.ins.length).all fun i => quietBlk q (mkBlk (tickN s) fun j => inSample s c i j)

/-- Whether a chain may park: parkable, with at least one input binding (04 R177). -/
def parkable (c : Chain) : Bool := bit c.desc.flags 2 && !c.desc.ins.isEmpty

/-- The parking hold of a chain in ticks (04 R177). -/
def parkTicks (s : State) (c : Chain) : Nat :=
  msTicks (rate s) (tickN s) ((if c.desc.holdMs = 0 then s.pipe.live.silHold else c.desc.holdMs) + c.desc.tailMs)

/-- Zeros of a sample tick on every delay line that a chain writes (02 R78, 04 R160, R178). -/
def zeroLines (c : Chain) (k : Nat) (s : State) : State :=
  c.desc.lines.foldl (fun t id => lineWrite id k (tickN s) [] t) s

/-- Records whether a tick of a chain was quiet. -/
def countQuiet (h : Nat) (quiet : Bool) (s : State) : State :=
  modChain h (fun c => { c with quiet := if quiet then c.quiet + 1 else 0 }) s

/-! ## State writes at chain entry -/

/-- The 256-byte lines that `n` bytes at `a` touch. -/
def linesOf (a n : Nat) : List Nat := (List.range ((a + n - 1) / 256 + 1 - a / 256)).map (· + a / 256)

/-- Adds marks to a list of marks. -/
def addMarks (m new : List Nat) : List Nat := new.foldl (fun a i => if a.contains i then a else a ++ [i]) m

/-- Stores bytes in a chain's block: a store of whole 64-bit words clears their poison marks (04 R129); the lines get their
cumulative marks (04 R170). -/
def putBlock (a : Nat) (bs : List Byte) (c : Chain) : Chain :=
  { c with blk := wrCells zeroAt c.blk a bs,
           poison := c.poison.filter fun w => !(decide (a ≤ 8 * w) && decide (8 * w + 8 ≤ a + bs.length)),
           cum := addMarks c.cum (linesOf a bs.length) }

/-- Applies the parameter words and state writes bound for sample ticks up to `k`, in the order bound (04 R168, R175). -/
def applyParams (k : Nat) (c : Chain) : Chain :=
  let due := c.params.filter fun p => decide (p.1 ≤ k)
  let c := due.foldl (fun c p => p.2.foldl (fun c w => putBlock w.1 w.2 c) c) c
  { c with params := c.params.filter fun p => decide (k < p.1) }

/-- Puts the tap delays bound for sample ticks up to `k` in force (04 R162). -/
def applyTaps (k : Nat) (c : Chain) : Chain :=
  let due := c.delays.filter fun p => decide (p.1 ≤ k)
  { c with taps := due.foldl (fun t p => p.2.foldl (fun t w => t.set w.1 w.2) t) c.taps,
           delays := c.delays.filter fun p => decide (k < p.1) }

/-- Whether a chain has a stage run for sample tick `k` (04 R180, R188). -/
def runsAt (c : Chain) (k : Nat) : Bool :=
  (c.st == 3 || c.st == 4 || c.st == 5 || c.st == 6) && (match c.first with | some f => decide (f ≤ k) | none => false)
    && (match c.stop with | some t => decide (k < t) | none => true)

/-- The words and tap delays bound for the sample tick that a chain's stage works on are put in force (04 R162, R175). -/
def applyDue (h : Nat) (s : State) : State :=
  match stageTick s (chainD s h).desc.stage with
  | some k => modChain h (fun c => applyTaps k (applyParams k c)) s
  | none => s

/-- Whether the copy of a migrating chain must wait for the final copy before its twin run (05 R211 step 3). -/
def awaitsCopy (s : State) (h : Nat) : Bool := s.place.migr.any fun m => twinOf m.handle == h && m.phase == 1

/-- Whether the swapped block that an engine waits for may arrive: its bank is On and no final copy is awaited (04 R172, 05 R211, R226, R227). -/
def blockMayArrive (s : State) (e : Nat) : Bool :=
  (engAt s e).swapWait && !awaitsCopy s (engAt s e).cur && (match (chainD s (engAt s e).cur).swap with | some b => bankReady s b | none => true)

/-- Starts the next chain of an engine's run, with its registers, parameters, taps and cleared marks (04 R120, R168, R172). -/
def nextChain (e : Nat) (s : State) : State :=
  match (engAt s e).todo with
  | [] => modEng e (fun g => { g with cur := 0, loops := [], journal := [], outWin := [], lineWin := [] }) s
  | h :: r =>
    let c := chainD s h
    let s := applyDue h (match c.swap with | some b => useBank b s | none => s)
    modEng e (fun g => { g with todo := r, cur := h, regs := {}, pc := c.desc.entry, loops := [], cycles := 8, journal := [],
                                marks := [], outWin := [], lineWin := [], swapWait := c.swap.isSome || awaitsCopy s h, stalled := none,
                                before := (c.blk, c.poison), start := (chainD s h).poison }) s

/-! ## The end of a chain's tick -/

/-- The measured cycles of a tick, ended or failed, and the OVERRUN test (04 R174, R184). A destination's twin run counts in its engine's time
only (05 R215). -/
def measure (e h : Nat) (s : State) : State :=
  let cy := (engAt s e).cycles
  let c := chainD s h
  let s := modEng e (fun g => { g with used := g.used + cy }) s
  if isTwin h then s else
  let s := modChain h (fun c => { c with cycLast := cy, cycMax := max c.cycMax cy, cycPer := max c.cycPer cy, ran := true }) s
  if declared c.desc (tickN s) < 8 * cy then
    raiseChain 6 e h (modChain h (fun c => { c with overrun := true }) s)
  else s

/-- Restores every journalled line of a chain's block with its poison marks (04 R171). A swapped chain's block has the marks of the Heath copy,
which is not written (04 R172). -/
def restore (e h : Nat) (s : State) : State :=
  let j := (engAt s e).journal
  let back := fun (c : Chain) (l : Nat × (List (Nat × Byte) × List Nat)) =>
    { c with blk := wrCells zeroAt (clearCells c.blk (256 * l.1) (256 * l.1 + 256)) (256 * l.1)
               (rdCells zeroAt l.2.1 (256 * l.1) 256),
             poison := (c.poison.filter fun w => !decide (8 * w / 256 = l.1)) ++ l.2.2 }
  let p := (engAt s e).start
  let all := fun (c : Chain) => let c := j.foldl back c; if c.swap.isSome && (engAt s e).cur == h then { c with poison := p } else c
  modEng e (fun g => { g with journal := [] }) (modChain h all s)

/-- What every failed tick of a chain does, a deadline miss included: zeros and the restored state, and the words bound for the tick where
the chain was not entered (02 R78, 04 R169, R171, R175). Zero outputs are quiet (04 R177). -/
def failState (e h : Nat) (s : State) : State :=
  let c := chainD s h
  let s := applyDue h (restore e h s)
  let s := match stageTick s c.desc.stage with
    | some k => zeroLines c k s
    | none => s
  countQuiet h (parkable c && inputsQuiet s c) s

/-- A failed tick of a chain that was entered, with its measured cycles (04 R174). -/
def failCommon (e h : Nat) (s : State) : State := failState e h (measure e h s)

/-- A migration whose source misses or fails its tick for sample tick T - 1 or T is marked, for SOURCE_FAIL (05 R214). -/
def noteSourceFail (e h : Nat) (s : State) : State :=
  let late := fun (m : Migr) => m.phase == 1 || m.phase == 2
  let near := fun (m : Migr) => match stageTick s (chainD s h).desc.stage with | some k => decide (m.commit ≤ k + 1) | none => false
  let mark := fun (m : Migr) => if m.handle = h ∧ m.src = e then { m with failed := m.failed || (late m && near m) } else m
  { s with place := { s.place with migr := s.place.migr.map mark } }

/-- The destination missed or failed its twin run (05 R214, R215): no counter moves. -/
def twinFail (h : Nat) (s : State) : State :=
  { s with place := { s.place with migr := s.place.migr.map fun m => if twinOf m.handle = h then { m with bad := true } else m } }

/-- The line of the instruction store that holds a bundle is rewritten from the code image (04 R127). -/
def rewriteLine (pc : Nat) (c : Chain) : Chain :=
  { c with code := wrCells zeroAt c.code (pc / 256 * 256) (rdCells zeroAt c.image (pc / 256 * 256) 256),
           badCode := c.badCode.filter fun w => !decide (8 * w / 256 = pc / 256) }

/-- A chain's tick fails for a cause other than its deadline; the next chain starts at once (04 R169). -/
def failTick (e cause : Nat) (s : State) : State :=
  let h := (engAt s e).cur
  let pc := (engAt s e).pc
  if isTwin h then nextChain e (twinFail h (measure e h s)) else
  let s := failCommon e h s
  let s := modChain h (fun c => { (if cause = 4 then rewriteLine pc c else c) with fails := inc16 c.fails }) s
  let s := modEng e (fun g => { g with failPer := g.failPer + 1 }) s
  nextChain e (noteSourceFail e h (raiseChain cause e h s))

/-- The output blocks that a chain leaves in its windows; a position not written is zero (04 R157). -/
def outBlk (win : Tab W32) (n b : Nat) : Blk := mkBlk n fun j => tgetD win (32 * b + j) 0

/-- Writes a chain's output windows to the slots whose live map entry names it (02 R59), and its line windows to delay memory. -/
def writeOut (e h k : Nat) (s : State) : State :=
  let g := engAt s e
  let c := chainD s h
  let n := tickN s
  let cfg := (recD s k).cfg
  let mine := fun (sp sl : Nat) => (mapOf cfg sp sl).kind == 2 && (mapOf cfg sp sl).source == h
  let outs := (List.range c.desc.outs.length).zip c.desc.outs
  let s := modRec k (fun r => outs.foldl (fun r o =>
    if mine o.2.1 o.2.2 then
      if o.2.1 = 1 then { r with miPre := putBlk r.miPre o.2.2 (outBlk g.outWin n o.1) }
      else { r with dst := putBlk r.dst o.2.2 (outBlk g.outWin n o.1) }
    else r) r) s
  ((List.range c.desc.lines.length).zip c.desc.lines).foldl (fun s l => lineWrite l.2 k n (outBlk g.lineWin n l.1) s) s

/-- The windows and stored lines of a twin run, for the compare (05 R211 step 4): the destination's, and the source's from the commit
tick on. -/
def keepRun (e h : Nat) (s : State) : State :=
  let g := engAt s e
  let run := some (g.outWin, g.lineWin, g.marks)
  let due := fun (m : Migr) => match stageTick s (chainD s h).desc.stage with | some k => decide (m.phase < 3) && m.phase != 0 && decide (m.commit ≤ k) | none => false
  let put := fun (m : Migr) =>
    if twinOf m.handle = h then { m with other := run } else if m.handle == h && m.src == e && due m then { m with mine := run } else m
  { s with place := { s.place with migr := s.place.migr.map put } }

/-- TEND: the chain's windows go to the mover, the journal is discarded, and the next chain starts (04 R154, R168, R171). The destination's
windows of a twin run go to the compare buffer (05 R211). -/
def endTick (e : Nat) (s : State) : State :=
  let h := (engAt s e).cur
  let s := keepRun e h s
  if isTwin h then nextChain e (modEng e (fun g => { g with journal := [] }) (measure e h s)) else
  let c := chainD s h
  let g := engAt s e
  let n := tickN s
  let q := quietLevel s
  let outsQuiet := (List.range c.desc.outs.length).all fun i => quietBlk q (outBlk g.outWin n i)
  let quiet := parkable c && inputsQuiet s c && outsQuiet
  let s := measure e h s
  let s := match stageTick s c.desc.stage with
    | some k => writeOut e h k s
    | none => s
  nextChain e (countQuiet h quiet (modEng e (fun g => { g with journal := [] }) s))

/-- A chain that has not executed TEND by the deadline misses (02 R78-R80). One that was not entered in the tick keeps the measured cycles of
its last run (04 R184; DESIGN CHOICE, log entry 66). A destination's twin run that misses counts in its engine's slack only (05 R190, R215). -/
def missTick (e h : Nat) (s : State) : State :=
  if isTwin h then
    modEng e (fun g => { g with missTick := g.missTick + 1 }) (twinFail h (if (engAt s e).cur = h then measure e h s else s)) else
  let s := if (engAt s e).cur = h then failCommon e h s else failState e h (modEng e (fun g => { g with journal := [] }) s)
  let s := modChain h (fun c => { c with misses := inc16 c.misses }) s
  let s := modEng e (fun g => { g with missTick := g.missTick + 1, missPer := min 0xFFFF (g.missPer + 1) }) s
  let s := { s with pair := { s.pair with misses := s.pair.misses + 1 } }
  noteSourceFail e h (raiseChain 1 e h s)

/-! ## Bundles -/

/-- At the back edge of a loop: the next pass, or the end of a loop whose count has run out (04 R153). The count bounds the
nesting. -/
def backEdges : Nat → Nat → List LoopSt → Nat × List LoopSt
  | 0, pc, l => (pc, l)
  | _, pc, [] => (pc, [])
  | n + 1, pc, l :: r =>
    if pc ≠ l.stop then (pc, l :: r)
    else if 1 < l.left then (l.start, { l with left := l.left - 1 } :: r)
    else backEdges n pc r

/-- Resolves the loops whose back edge the engine has reached. -/
def takeEdges (e : Nat) (s : State) : State :=
  modEng e (fun g =>
    let (pc, l) := backEdges 3 g.pc g.loops
    { g with pc := pc, loops := l, regs := { g.regs with lc := l.foldl (fun t x => tset t x.lc x.left) g.regs.lc } }) s

/-- Journals the lines of a chain that a bundle stores to for the first time in the tick; each costs 8 cycles (04 R136, R171). The journal is in the
home bank of the engine's Lea, which the write wakes (08 R294). -/
def journalLines (e h : Nat) (ls : List Nat) (s : State) : State :=
  let c := chainD s h
  let s := if ls.all fun i => (engAt s e).marks.contains i then s else useBank (e / 12) s
  modEng e (fun g =>
    let new := ls.filter fun i => !g.marks.contains i
    { g with marks := addMarks g.marks new, cycles := g.cycles + 8 * new.length,
             journal := new.foldl (fun j i => tset j i
               ((List.range 256).map fun b => (256 * i + b, rdCell zeroAt c.blk (256 * i + b)),
                c.poison.filter fun w => decide (8 * w / 256 = i))) g.journal }) s

/-- Whether a loop may begin: its counter is free and its body lies within every enclosing body (04 R153). -/
def loopOk (g : Engine) (lc body : Nat) : Bool :=
  g.loops.all fun l => l.lc != lc && decide (g.pc + 8 + 8 * body ≤ l.stop)

/-- The next bundle and the loops after a bundle. -/
def goOn (g : Engine) : Option Go → Engine
  | some (.branch t) => { g with pc := t, loops := g.loops.filter fun l => decide (l.start ≤ t) && decide (t < l.stop) }
  | some (.loop_ lc count body) =>
    let g := { g with regs := { g.regs with lc := tset g.regs.lc lc count } }
    if count = 0 then { g with pc := g.pc + 8 + 8 * body }
    else { g with pc := g.pc + 8, loops := { lc := lc, start := g.pc + 8, stop := g.pc + 8 + 8 * body, left := count } :: g.loops }
  | _ => { g with pc := g.pc + 8 }

/-- Whether an engine executes bundles: the tick is under way, a chain is current, and nothing is awaited. -/
def engRuns (s : State) (e : Nat) : Bool :=
  s.pipe.running && s.pipe.mid && (engAt s e).cur != 0 && (engAt s e).stalled.isNone && !(engAt s e).swapWait

/-- The effects of a bundle whose slots did not fail: stores and window writes, then registers, the L slot's first so that the
M-slot result is kept (04 R134), then the next bundle. -/
def commitBundle (e h : Nat) (me le : Eff) (s : State) : State :=
  let s := journalLines e h (le.st.flatMap fun x => linesOf x.1 x.2.length) s
  let s := modChain h (fun c => le.st.foldl (fun c x => putBlock x.1 x.2 c) c) s
  let put := fun (line : Bool) (t : Tab W32) =>
    (le.win.filter fun w => w.1 == line).foldl (fun t w => tset t (32 * w.2.1 + w.2.2.1) w.2.2.2) t
  let s := modEng e (fun g => { g with regs := putRegs (putRegs g.regs le.w) me.w, outWin := put false g.outWin,
                                       lineWin := put true g.lineWin }) s
  match le.go with
  | some .tend => endTick e s
  | go => modEng e (fun g => goOn g go) s

/-- One bundle on an engine, with the meanings of its two slots (04 R130-R137). Where both slots fail, the M slot's cause is the one reported
(DESIGN CHOICE, log entry 66). -/
def runBundle (e : Nat) (b : Bundle) (ms : MSem) (ls : LSem) (s : State) : State :=
  if !engRuns s e then s
  else
    let s := takeEdges e s
    let eng := engAt s e
    let h := eng.cur
    let c := chainD s h
    if b.m.x.fe || b.l.x.fe || c.badCode.contains (eng.pc / 8) then
      failTick e 4 (localErrors e 1 s)
    else if !bundleOk b || decide (c.desc.codeBytes < eng.pc + 8) then failTick e 2 s
    else
      let me := if allows eng.regs b.m.x.pe b.m.x.pn b.m.x.pq then ms b.m.x (if b.fmt = 1 then some b.imm else none) eng.regs c else {}
      let le := if allows eng.regs b.l.x.pe b.l.x.pn b.l.x.pq then ls b.l.x b.imm eng.regs c s e else {}
      if le.wait then modEng e (fun g => { g with stalled := some { b with l := { b.l with x := { b.l.x with late := false } } } }) s
      else
        let cy := max (mCycles b.m.op) (lCycles b.l.op) + le.plus
        let ue := me.ue ++ le.ue
        let s := modEng e (fun g => { g with cycles := g.cycles + cy, ce := g.ce + b.m.x.ce + b.l.x.ce }) s
        let s := modChain h (fun c => { c with poison := addMarks c.poison ue }) s
        let s := localErrors e ue.length s
        if me.bad ≠ 0 then failTick e me.bad s
        else if le.bad ≠ 0 then failTick e le.bad s
        else match le.go with
          | some (.loop_ lc _ body) => if loopOk (engAt s e) lc body then commitBundle e h me le s else failTick e 2 s
          | _ => commitBundle e h me le s

/-- The bundle of a chain's code in the instruction store at a byte offset (04 R125). -/
def fetchBundle (c : Chain) (pc : Nat) : Bundle := bundleOf (ofLE (rdCells zeroAt c.code pc 8))

/-- The next bundle of a running engine, fetched from its chain's code image. -/
def stepEngine (e : Nat) (s : State) : State :=
  let s := if engRuns s e then takeEdges e s else s
  let b := fetchBundle (chainD s (engAt s e).cur) (engAt s e).pc
  runBundle e b (mSem b.m.op) (lSem b.l.op) s

end Sys2Proof.Machine
end

