-- ==== Sys2Proof/Machine/Place.lean ====
section
/-! DEFINITION. The Placement Unit: measurement, predicted slack, the choice of engines and banks, migrations and their ends, and
the decisions at the end of a period (05). -/

namespace Sys2Proof.Machine

/-! ## Measures -/

/-- Twice the usable engine time of a tick, in units of 1/fs us: `2 N 10^6 - 5 fs` (02 R77). -/
def usable2 (s : State) : Nat := 2 * tickN s * 1000000 - 5 * rateHz (rate s)

/-- The largest sum of declared costs admitted on one engine: 8320 (P - 2.5), rounded down (02 R82). -/
def costLimit (s : State) : Nat := 4160 * usable2 s / rateHz (rate s)

/-- Temperature of a Lea. -/
def leaTempOf (s : State) (l : Nat) : Int := tgetD s.place.leaTemp l 0

/-- The handshake rate in MHz-equivalent at the corners of VCORE in mV and temperature that the spec gives (00 R11, 18 R663). -/
def cornerMHz (mv : Nat) (temp : Int) : Option Nat :=
  if mv = 900 ∧ temp ≤ 50 then some 1900
  else if mv = 800 ∧ temp = 60 then some 1600
  else if mv = 720 ∧ temp = 110 then some 1300
  else if mv = 650 ∧ temp = 110 then some 1100
  else none

/-- The lowest handshake rate between those corners: that of the fastest corner whose VCORE is no higher and whose temperature is no lower,
since a lower voltage or a higher temperature only makes the logic slower (00 R11, 01, Clocks; 18 R663). -/
def lowestMHz (mv : Nat) (temp : Int) : Nat :=
  if 900 ≤ mv ∧ temp ≤ 50 then 1900
  else if 800 ≤ mv ∧ temp ≤ 60 then 1600
  else if 110 < temp then 0 else if 720 ≤ mv then 1300 else if 650 ≤ mv then 1100 else 0

/-- Handshake rate assumed for an engine: that of its Lea's temperature at the lower of the speeds before and after a slew (05 R228). -/
def engineRate (s : State) (e : Nat) : Nat :=
  let mv := s.power.low
  let temp := leaTempOf s (e / 12)
  (cornerMHz mv temp).getD (lowestMHz mv temp + Config.engineExtra mv temp)

/-- Slack in per mille that remains of `base` per mille after `add` more and `sub` fewer cycles, limited to 0-1000 (05 R190, R739). -/
def slackAfter (s : State) (e base add sub : Nat) : Nat :=
  let d := engineRate s e * usable2 s
  let k := 2000 * rateHz (rate s)
  if d = 0 then 0 else min 1000 ((base * d + k * sub - k * add) / d)

/-- Slack of an engine in the tick that ends (05 R190): 1000 where no chain ran. -/
def tickSlack (s : State) (e : Nat) : Nat :=
  let g := engAt s e
  if g.missTick ≠ 0 then 0 else if g.used = 0 then 1000 else slackAfter s e 1000 g.used 0

/-- Adds a tick's slack; the newest 64 are those of the period. -/
def noteSlack (e : Nat) (s : State) : State :=
  let v := tickSlack s e
  modEng e (fun g => { g with slack := (v :: g.slack).take 64, used := 0, missTick := 0 }) s

/-- Engines of the part. -/
def enginesOf (s : State) : List Nat := (List.range 192).filter (hasEngine s)

/-- Chains on an engine's run list. -/
def chainsOn (s : State) (e : Nat) : List Nat := tgetD s.eng.runList e []

/-- Migrations in progress; admission copies are none (05 R210). -/
def moves (s : State) : List Migr := s.place.migr.filter fun m => decide (m.phase < 3)

/-- Chains for which an engine holds a reservation (05 R209). -/
def reserved (s : State) (e : Nat) : List Nat := ((moves s).filter fun m => m.dst == e).map (·.handle)

/-- Chains that count on an engine: its own and those reserved (05 R209). -/
def hosted (s : State) (e : Nat) : List Nat := chainsOn s e ++ reserved s e

/-- Sum of a figure over chains. -/
def sumOf (s : State) (f : Chain → Nat) (l : List Nat) : Nat := lsum (l.map fun h => f (chainD s h))

/-- Declared cost of a chain now. -/
def costOf (s : State) (c : Chain) : Nat := declared c.desc (tickN s)

/-- Window bytes of a chain (04 R155). -/
def winBytes (s : State) (d : Desc) : Nat := (d.ins.length + d.outs.length + d.taps.length + d.lines.length) * tickN s * 4

/-- The cycles by which prediction counts an added chain (05 R739 step 2). -/
def addCycles (s : State) (c : Chain) : Nat :=
  match c.cycBest with
  | some x => if c.overrun then max x (costOf s c / 8) else x
  | none => costOf s c / 8

/-- Tenth-percentile slack of an engine in the last completed period; 1000 where it has none: a Fallow engine, one woken since, or before the
first period (05 R739 step 1). -/
def p10Of (s : State) (e : Nat) : Nat :=
  let g := engAt s e
  if g.pst = 0 || g.woken then 1000 else match g.fig with | some f => f.2.1 | none => 1000

/-- Cycles of the chains added to an engine since the last completed period, reservations included. -/
def addedCycles (s : State) (e : Nat) : Nat :=
  sumOf s (addCycles s) (((chainsOn s e).filter fun h => (chainD s h).added) ++ reserved s e)

/-- Predicted tenth-percentile slack of an engine with `add` more and `sub` fewer cycles (05 R739). -/
def predict (s : State) (e add sub : Nat) : Nat :=
  slackAfter s e (p10Of s e) (addedCycles s e + add) ((engAt s e).removed + sub)

/-! ## Heath banks for swapped state -/

/-- State bytes of the chains that an engine holds resident or is to hold resident, and the largest block it holds swapped (04 R172, 05 R209,
R224). -/
def areaOf (s : State) (e : Nat) : Nat × Nat :=
  let size := fun h => (chainD s h).desc.stateBytes
  let l := ((chainsOn s e).map fun h => ((chainD s h).swap.isSome, size h))
    ++ ((moves s).filter fun m => m.dst == e).map fun m => (m.bank.isSome, size m.handle)
  (lsum ((l.filter fun x => !x.1).map (·.2)), lmax ((l.filter fun x => x.1).map (·.2)))

/-- Where the swap buffers of an engine begin in its local store, after the resident blocks (04 R123, R172; log entry 13). -/
def swapStart (s : State) (e : Nat) : Nat :=
  0x10000 + sumOf s (fun c => if c.swap.isNone then c.desc.stateBytes else 0) (chainsOn s e)

/-- The size of one of its two swap buffers: that of the largest block it runs swapped (04 R172). -/
def swapSize (s : State) (e : Nat) : Nat :=
  lmax ((chainsOn s e).map fun h => if (chainD s h).swap.isSome then (chainD s h).desc.stateBytes else 0)

/-- Whether a block fits resident beside what an engine holds. -/
def fitsResident (s : State) (e bytes : Nat) : Bool :=
  let a := areaOf s e
  decide (a.1 + bytes + 2 * a.2 ≤ 163840)

/-- Whether a block fits swapped (05 R224). -/
def fitsSwapped (s : State) (e bytes : Nat) : Bool :=
  let a := areaOf s e
  decide (a.1 + 2 * max a.2 bytes ≤ 163840)

/-- Bytes of swapped state in a bank, with what migrations in progress will put there, the block of chain `h` left out (05 R225). -/
def swapUsed (s : State) (b h : Nat) : Nat :=
  let size := fun (x : Nat) (p : Bool) => if p && x != h then (chainD s x).desc.stateBytes else 0
  lsum (s.eng.chains.map fun c => size c.1 (c.2.swap == some b))
    + lsum ((moves s).map fun m => size m.handle (m.bank == some b && (chainD s m.handle).swap != some b))

/-- What the code images and undo journals of a Lea take in its home bank, chain `h` counted on engine `e` (04 R127, R171). A journal counts as the
largest state block of its engine (DESIGN CHOICE, log entry 66). -/
def homeUse (s : State) (b e h : Nat) : Nat :=
  let on := fun x => let l := hosted s x; if x = e && !l.contains h then l ++ [h] else l
  let es := (List.range 12).map (12 * b + ·)
  lsum (es.map fun x => sumOf s (fun c => c.desc.codeBytes) (on x)) + lsum (es.map fun x => lmax ((on x).map fun k => (chainD s k).desc.stateBytes))

/-- Room for swapped state in the home bank of a Lea (08 R286): within SWAP_MIB, what its code images and undo journals leave of 4 MiB. -/
def swapRoom (s : State) (b e h : Nat) : Nat := min (s.place.policy.swapMiB * 1048576) (0x400000 - homeUse s b e h)

/-- Average occupancy of a fabric target, per mille. -/
def occOf (s : State) (t : Nat) : Nat := tgetD s.place.occ t 0

/-- The bank for a swapped block of a chain on an engine, if any qualifies (05 R225, R226). A bank whose policy is Fallow cannot be
turned on. -/
def swapBank (s : State) (e h : Nat) : Option Nat :=
  let bk := fun b => tgetD s.mem.banks b {}
  let ok := (List.range 16).filter fun b =>
    decide (swapUsed s b h + (chainD s h).desc.stateBytes ≤ swapRoom s b e h) && decide (occOf s b < 600) && (bk b).policy != 2
  bestBy (fun x y =>
    if x = e / 12 then true else if y = e / 12 then false
    else if ((bk x).pstate == 3) != ((bk y).pstate == 3) then (bk x).pstate == 3
    else decide (occOf s x < occOf s y)) ok

/-! ## Where a chain may go -/

/-- Whether two chains communicate: one writes a delay line that the other taps (05 R192). -/
def communicate (a b : Desc) : Bool :=
  (a.lines.any fun l => b.taps.any fun t => t.1 == l) || (b.lines.any fun l => a.taps.any fun t => t.1 == l)

/-- The chains that a list of chains reaches by communicating. The count bounds the steps. -/
def reachComm (s : State) : Nat → List Nat → List Nat
  | 0, l => l
  | n + 1, l =>
    let new := (s.eng.chains.filter fun c => !l.contains c.1 && l.any fun h => communicate (chainD s h).desc c.2.desc).map (·.1)
    if new.isEmpty then l else reachComm s n (l ++ new)

/-- The communicating group of a chain, the chain included (05 R192, R200). -/
def groupOf (s : State) (h : Nat) : List Nat := reachComm s s.eng.chains.length [h]

/-- The Lea a chain prefers: its affinity, else that of its communicating group (05 R200), taken as the Lea of the group's lowest-numbered
chain on an engine (DESIGN CHOICE, log entry 66). -/
def wantLea (s : State) (h : Nat) : Option Nat :=
  let d := (chainD s h).desc
  if bit d.flags 1 then some d.affinity
  else match groupOf s h with
    | [_] => none
    | l => ((s.eng.chains.filter fun c => l.contains c.1 && c.2.engine != 0xFFFF).head?).map fun c => c.2.engine / 12

/-- The conditions of R199 on a destination. -/
def qualifies (s : State) (h e : Nat) (packing forPin : Bool) : Bool :=
  let c := chainD s h
  let g := engAt s e
  let hs := (hosted s e).filter (· != h)
  hasEngine s e && decide (g.pst < 2)
    && decide (sumOf s (costOf s) hs + costOf s c ≤ costLimit s)
    && decide (hs.length < 16)
    && decide (sumOf s (fun c => c.desc.codeBytes) hs + c.desc.codeBytes ≤ 65536)
    && decide (sumOf s (fun c => winBytes s c.desc) hs + winBytes s c.desc ≤ 16384)
    && (fitsResident s e c.desc.stateBytes || (fitsSwapped s e c.desc.stateBytes && (swapBank s e h).isSome))
    && decide (s.place.policy.slackTarget + (if packing then s.place.policy.packMargin else 0) ≤ predict s e (addCycles s c) 0)
    && (forPin || decide (leaTempOf s (e / 12) < s.place.policy.thermTarget))

/-- Whether placement runs (05 R231): in a mode with audio, with the data plane running. -/
def placeRuns (s : State) : Bool := audioMode s && s.pipe.running

/-- Whether an engine is neither end of a migration (05 R210). -/
def moveFree (s : State) (e : Nat) : Bool := (moves s).all fun m => m.src != e && m.dst != e

/-- The preferred engine among candidates (05 R200). -/
def prefer (s : State) (h : Nat) (l : List Nat) : Option Nat :=
  let w := wantLea s h
  let inW := fun e => match w with | some x => e / 12 == x | none => false
  bestBy (fun x y =>
    if inW x != inW y then inW x
    else if ((engAt s x).pst == 1) != ((engAt s y).pst == 1) then (engAt s x).pst == 1
    else decide (sumOf s (costOf s) (hosted s y) < sumOf s (costOf s) (hosted s x))) l

/-- The engine that admission chooses: the pinned engine or nowhere for a pinned chain (05 R206). -/
def admitTo (s : State) (h : Nat) : Option Nat :=
  let d := (chainD s h).desc
  if bit d.flags 0 then (if qualifies s h d.pinEngine false true then some d.pinEngine else none)
  else prefer s h ((enginesOf s).filter fun e => qualifies s h e false false)

/-- Destinations not excluded for a chain (05 R201). -/
def notExcluded (s : State) (h : Nat) (l : List Nat) : List Nat :=
  l.filter fun e => decide (tgetD (chainD s h).excluded e 0 ≤ s.place.period)

/-- A destination for a chain among engines: another one that qualifies and is not excluded (05 R199-R201). -/
def restartTo (s : State) (h : Nat) (packing forPin : Bool) (among : List Nat) : Option Nat :=
  prefer s h ((notExcluded s h among).filter fun e => e != (chainD s h).engine && qualifies s h e packing forPin)

/-- A destination for a migration of a chain among engines, none of them an end of another migration (05 R210). -/
def destFor (s : State) (h : Nat) (packing forPin : Bool) (among : List Nat) : Option Nat := restartTo s h packing forPin (among.filter (moveFree s))

/-! ## Engines waking and going fallow -/

/-- Wakes a Fallow engine: its local store is zeroed, with good check bits (04 R118). -/
def wakeEngine (e : Nat) (s : State) : State :=
  if (engAt s e).pst = 0 then
    modEng e (fun g => { g with pst := 1, waking := true, woken := true, slack := [], removed := 0, store := [], bad := [], touched := false }) s
  else s

/-- An Active engine without chains and reservations goes fallow (05 R202): its local store is switched off with it (04 R118). -/
def goFallow (e : Nat) (s : State) : State :=
  if (engAt s e).pst = 1 && (hosted s e).isEmpty then
    modEng e (fun g => { g with pst := 0, waking := false, woken := false, slack := [], removed := 0, missRun := 0 }) s
  else s

/-- The bank of a chain's block on an engine: none where the block fits resident (05 R224, R225). -/
def bankFor (s : State) (e h : Nat) : Option Nat :=
  let bytes := (chainD s h).desc.stateBytes
  if fitsResident s e bytes then none else swapBank s e h

/-- Swapped blocks leave a Lea's home bank for another while its code images and undo journals need their place (08 R286, 05 R225-R227): those of
the lowest handles first, as long as another bank qualifies (DESIGN CHOICE, log entry 66). -/
def yieldHome (b : Nat) (s : State) : State :=
  ((s.eng.chains.filter fun c => c.2.swap == some b).map (·.1)).foldl (fun t h =>
    if homeUse t b 192 0 + swapUsed t b 0 ≤ 0x400000 then t
    else match swapBank t (chainD t h).engine h with
      | some n =>
        let move := fun (c : Chain) => { c with swap := some n }
        placeEvent 9 0 h 0xFFFF (chainD t h).engine n (useBank n (modChain (twinOf h) move (modChain h move t)))
      | none => t) s

/-- Puts a chain at the end of an engine's run list, its block resident or in a bank (05 R207, R224). Its code image and undo journals are in
the home bank of the engine's Lea (04 R127, R171). The banks it needs are turned on (05 R226, 08 R294). -/
def placeOn (e h : Nat) (bank : Option Nat) (s : State) : State :=
  let s := useBank (e / 12) (wakeEngine e s)
  let s := yieldHome (e / 12) { s with eng := { s.eng with runList := tmod s.eng.runList e [] (fun l => l ++ [h]) } }
  let s := modChain h (fun c => { c with engine := e, swap := bank, code := c.image, badCode := [], added := true, placedAt := s.place.period }) s
  match bank with
  | some b => placeEvent 9 0 h 0xFFFF e b (useBank b s)
  | none => s

/-- Puts a chain on an engine that admission or a restart chose. -/
def putOn (e h : Nat) (s : State) : State := placeOn e h (bankFor s e h) s

/-- Whether the banks are On that hold the code image and the swapped block of a chain (05 R226, 08 R293, R294). -/
def banksReady (s : State) (h : Nat) : Bool :=
  let c := chainD s h
  bankReady s (c.engine / 12) && (match c.swap with | some b => bankReady s b | none => true)

/-- Takes a chain off its engine. A chain added since the last completed period no longer counts as added; another counts as removed
(05 R739). -/
def takeOff (h : Nat) (s : State) : State :=
  let c := chainD s h
  let e := c.engine
  let s := { s with eng := { s.eng with runList := tupd s.eng.runList e (fun l => l.filter (· != h)) } }
  let s := modEng e (fun g => { g with removed := g.removed + (if c.added then 0 else addCycles s c), todo := g.todo.filter (· != h) }) s
  modChain h (fun c => { c with engine := 0xFFFF }) s

/-- The destination's copy of a migrating chain is discarded; an engine that runs it goes on with its next chain (05 R214). -/
def dropTwin (h : Nat) (s : State) : State :=
  let t := twinOf h
  let s := { s with eng := { s.eng with twins := tdel s.eng.twins h,
                                        engines := tmap (fun (g : Engine) => { g with todo := g.todo.filter (· != t) }) s.eng.engines } }
  ((s.eng.engines.filter fun g => g.2.cur == t).map (·.1)).foldl (fun u e => nextChain e u) s

/-! ## Migrations -/

/-- One event on a placement counter: 0 commits, 1 to 12 aborts by reason, 13 emergency moves, 14 restarts (05 R239). -/
def placeCount (i : Nat) (s : State) : State := { s with place := { s.place with stats := tinc s.place.stats i } }

/-- The chain that a Shadow of this Active is joining: the next of those to be served that is still there (15 R601). -/
def joiningChain (s : State) : Option Nat :=
  if s.pair.state = 1 ∧ s.pair.step = 3 then s.pair.serve.find? fun h => thas s.eng.chains h else none

/-- The join of a chain starts over, with every line of its block (15 R601 step 3). -/
def startJoinOf (h : Nat) (s : State) : State :=
  let n := ((chainD s h).desc.stateBytes + 255) / 256
  { modChain h (fun c => { c with cum := [] }) s with pair := { s.pair with join := { lines := List.range n } } }

/-- A migration of the chain that joins restarts its join (15 R601 step 3). -/
def restartJoin (h : Nat) (s : State) : State := if joiningChain s = some h then startJoinOf h s else s

/-- Starts a migration (05 R209, R211): its first round reads every line of a resident block and clears the marks. A CHAIN_SET_PLACEMENT that waits for it is replied to (R204). -/
def startMigr (h dst : Nat) (emerg forPin : Bool) (s : State) : State :=
  let src := (chainD s h).engine
  let c := chainD s h
  let m : Migr := { handle := h, src := src, dst := dst, emerg := emerg, forPin := forPin, start := cal s, bank := bankFor s dst h,
                    lines := if c.swap.isSome then [] else List.range ((c.desc.stateBytes + 255) / 256) }
  let twin := { c with engine := dst, code := [], badCode := [], blk := [], poison := [], swap := if c.swap.isSome then c.swap else m.bank }
  let s := useBank (dst / 12) (wakeEngine dst s)
  let s := match m.bank with | some b => useBank b s | none => s
  let s := { s with place := { s.place with migr := s.place.migr ++ [m] }, eng := { s.eng with twins := tset s.eng.twins h twin } }
  let s := modChain h (fun c => { c with st := if c.st = 3 then 5 else c.st, cum := [] }) s
  let s := placeEvent (if emerg then 4 else 1) 0 h src dst 0 (restartJoin h s)
  let s := if emerg then placeCount 13 s else s
  match (if forPin then (chainD s h).pinReq else none) with
  | some r => reply r (replyKey s r) false OK 0 0 false false [] (modChain h (fun c => { c with pinReq := none }) s)
  | none => s

/-- A chain that leaves its pinned engine is displaced: event and Note fault (05 R205). -/
def displace (h src dst : Nat) (s : State) : State :=
  let c := chainD s h
  if bit c.desc.flags 0 && c.desc.pinEngine == src && !c.displaced then
    raise 0x0401 h (placeEvent 5 0 h src dst 0 (modChain h (fun c => { c with displaced := true }) s))
  else s

/-- A chain reaches the engine it is pinned to after it was displaced, or after its move there had aborted (05 R204, R205): event 0x06. -/
def reachPin (h src dst : Nat) (s : State) : State :=
  let c := chainD s h
  if (c.displaced || c.pinWait) && bit c.desc.flags 0 && c.desc.pinEngine == dst then
    placeEvent 6 0 h src dst 0 (modChain h (fun c => { c with displaced := false, pinWait := false }) s)
  else s

/-- A sample tick of a chain that counts as failed for its engine being Out of service (05 R220): handled as 02 R78 lays down, with the words
bound for it applied and the cycles of a chain that was entered measured (04 R174). The spec names no cause of its own for it; the Degraded fault carries that of R78 (DESIGN CHOICE, log entry 66). -/
def failedTick (e h : Nat) (s : State) : State :=
  let s := if (engAt s e).cur = h then failCommon e h s else failState e h s
  raiseChain 1 e h (modEng e (fun g => { g with failPer := g.failPer + 1 }) (modChain h (fun c => { c with fails := inc16 c.fails, skip := false }) s))

/-- Restarts a chain from an Out-of-service engine when placement runs and a destination qualifies (05 R220, R231): the destination goes on from
the state at the start of the failed tick. -/
def restartChain (h : Nat) (s : State) : State :=
  match (if placeRuns s then restartTo s h false false (enginesOf s) else none) with
  | none => s
  | some e =>
    let src := (chainD s h).engine
    let s := modEng e (fun g => { g with touched := true }) (putOn e h (takeOff h s))
    reachPin h src e (placeCount 14 (placeEvent 10 0 h src e 0 (displace h src e s)))

/-- An engine goes Out of service: event, Severe fault and the restart of its chains (05 R219, R220). The tick in progress of a chain that has
not executed TEND is the failed one, else its next (DEDUCED, log entry 66). -/
def outOfService (e : Nat) (s : State) : State :=
  let s := raise 0x0308 e (placeEvent 8 0 0 e 0xFFFF 0 (modEng e (fun g => { g with pst := 3 }) s))
  let g := engAt s e
  let run := (chainsOn s e).filter fun h => g.cur == h || g.todo.contains h
  let s := run.foldl (fun t h => failedTick e h t) s
  let s := modEng e (fun g => { g with cur := 0, todo := [], loops := [], journal := [], stalled := none, swapWait := false }) s
  (chainsOn s e).foldl (fun t h => restartChain h (if run.contains h then t else modChain h (fun c => { c with skip := true }) t)) s

/-- The periods of an engine's COMPARE_MISMATCH aborts with one more; two within 1024 periods make it Suspect (05 R218). -/
def noteMismatch (e : Nat) (s : State) : State :=
  let p := s.place.period
  let l := ((engAt s e).mismatch.filter fun q => decide (p < q + 1024)) ++ [p]
  let s := modEng e (fun g => { g with mismatch := l }) s
  if 2 ≤ l.length then suspect e s else s

/-- Abandons a migration; the chain stays on its source (05 R201, R214, R219). -/
def abortMigr (reason : Nat) (m : Migr) (s : State) : State :=
  let s := dropTwin m.handle { s with place := { s.place with migr := s.place.migr.filter fun x => x.handle != m.handle } }
  let s := placeCount reason (placeEvent 3 reason m.handle m.src m.dst 0 s)
  let p := s.place.period
  let s := modChain m.handle (fun c =>
    let n := if c.abortTo = m.dst then c.aborts + 1 else 1
    { c with st := if c.st = 5 then (if c.parked then 4 else 3) else c.st, abortAt := some p, abortTo := m.dst,
             pinWait := c.pinWait || (m.forPin && bit c.desc.flags 0 && c.desc.pinEngine == m.dst && !c.displaced),
             aborts := if 3 ≤ n then 0 else n,
             excluded := if 3 ≤ n then tset c.excluded m.dst (p + 64) else c.excluded }) s
  let s := goFallow m.dst s
  let s := if reason = 1 then noteMismatch m.dst (noteMismatch m.src s) else s
  if m.emerg && (engAt s m.src).pst == 2 then
    let s := modChain m.handle (fun c => { c with evacFail := c.evacFail + 1 }) s
    if 3 ≤ (chainD s m.handle).evacFail then outOfService m.src s else s
  else s

/-- Aborts every migration that a test names. -/
def abortIf (reason : Nat) (p : Migr → Bool) (s : State) : State :=
  ((moves s).filter p).foldl (fun t m => abortMigr reason m t) s

/-- Whether the twin run gave the same bits on both engines: every output and line-write window, and every line of the block that either
stored to (05 R211 step 4). -/
def sameRun (s : State) (m : Migr) : Bool :=
  let c := chainD s m.handle
  let t := chainD s (twinOf m.handle)
  match m.mine, m.other with
  | some a, some b =>
    ((List.range c.desc.outs.length).all fun i => outBlk a.1 (tickN s) i == outBlk b.1 (tickN s) i)
      && ((List.range c.desc.lines.length).all fun i => outBlk a.2.1 (tickN s) i == outBlk b.2.1 (tickN s) i)
      && (a.2.2 ++ b.2.2).all fun l => rdCells zeroAt c.blk (256 * l) 256 == rdCells zeroAt t.blk (256 * l) 256
  | _, _ => false

/-- Commits a migration after an equal compare: the destination alone runs the chain, from its own copy of a resident block (05 R211 step 4,
R204, R227). A pinned chain that leaves its pinned engine is displaced now (R205). The source engine goes fallow at the end of the tick (05 R202). -/
def commitMigr (m : Migr) (s : State) : State :=
  let t := chainD s (twinOf m.handle)
  let s := dropTwin m.handle { s with place := { s.place with migr := s.place.migr.filter fun x => x.handle != m.handle } }
  let s := placeOn m.dst m.handle m.bank (takeOff m.handle s)
  let s := modChain m.handle (fun c => { c with code := t.code, badCode := t.badCode, blk := if c.swap.isSome then c.blk else t.blk,
                                                poison := if c.swap.isSome then c.poison else t.poison }) s
  let s := displace m.handle m.src m.dst (placeCount 0 (placeEvent 2 0 m.handle m.src m.dst (min 0xFFFF (cal s - m.start)) s))
  let s := modChain m.handle (fun c =>
    { c with st := if c.st = 5 then (if c.parked then 4 else 3) else c.st, aborts := 0, evacFail := 0, cum := [] }) s
  reachPin m.handle m.src m.dst s

/-- The twin run of a migration is judged (05 R211 step 4, R214). -/
def judgeRun (m : Migr) (s : State) : State :=
  if m.failed then abortMigr 3 m s
  else if m.bad || m.phase == 1 || m.other.isNone then abortMigr 2 m s
  else if sameRun s m then commitMigr m s
  else abortMigr 1 m s

/-- Some lines of a chain's block, with their poison marks, copied to another copy of the chain (05 R211). -/
def copyLines (ls : List Nat) (c t : Chain) : Chain :=
  { t with blk := ls.foldl (fun b l => wrCells zeroAt b (256 * l) (rdCells zeroAt c.blk (256 * l) 256)) t.blk,
           poison := (t.poison.filter fun w => !ls.contains (8 * w / 256)) ++ c.poison.filter fun w => ls.contains (8 * w / 256) }

/-- The migration of a chain. -/
def migrOf (s : State) (h : Nat) : Option Migr := (moves s).find? fun m => m.handle == h

/-- Replaces the record of a migration. -/
def setMigr (m : Migr) (s : State) : State :=
  { s with place := { s.place with migr := s.place.migr.map fun x => if x.handle = m.handle then m else x } }

/-- Migrations that can no longer succeed: their destination is lost or too hot (05 R214). -/
def sweepMoves (s : State) : State :=
  abortIf 9 (fun m => 2 ≤ (engAt s m.dst).pst || decide ((s.place.policy.thermEmerg : Int) ≤ leaTempOf s (m.dst / 12))) s

/-- FREEZE as it stands: 0x1 while the Management Processor holds it, else the installer's value (05 R194, R230). -/
def freezeNow (s : State) : Nat := if s.place.hold then 1 else s.place.policy.freeze

/-- Whether only emergency moves may start (05 R194, R230). -/
def frozen (s : State) : Bool := freezeNow s == 1

/-- FREEZE became 0x1: non-emergency migrations in pre-copy are aborted (05 R216). -/
def applyFreeze (s : State) : State := if frozen s then abortIf 12 (fun m => !m.emerg && m.phase == 0) s else s

/-! ## Decisions -/

/-- Starts an emergency move of a chain, at the expense of the youngest non-emergency pre-copy when four migrations run (05 R210). -/
def emergMove (h dst : Nat) (s : State) : State :=
  let s := if (moves s).length < 4 then s
    else match (moves s).reverse.find? fun m => !m.emerg && m.phase == 0 with
      | some m => abortMigr 8 m s
      | none => s
  if (moves s).length < 4 then startMigr h dst true false s else s

/-- Whether a chain runs on its engine and is neither parked nor migrating (05 R198, R210, R222): one whose unload is staged still runs, until the
unload is bound. -/
def movable (c : Chain) : Bool := (c.st == 3 || c.st == 6) && c.first.isSome && c.stop.isNone && !c.parked

/-- Whether the unit may start a non-emergency move of a chain now (05 R201, R210, R222, 15 R601). The period in which the chain was placed, and
that of an abort, count from their start, as whole periods (DESIGN CHOICE, log entry 66). -/
def mayMove (s : State) (h : Nat) : Bool :=
  let c := chainD s h
  let p := s.place.period
  joiningChain s != some h && movable c && (migrOf s h).isNone && decide (c.placedAt + s.place.policy.residence ≤ p) && moveFree s c.engine
    && (match c.abortAt with | some a => decide (a + 4 ≤ p) | none => true)
    && decide ((moves s).length < 4) && decide (((moves s).filter fun m => !m.emerg).length < s.place.policy.maxMigr)

/-- Tries a non-emergency move of a chain to the best of some engines. -/
def tryMove (h : Nat) (packing forPin : Bool) (among : List Nat) (s : State) : State :=
  if mayMove s h then
    match destFor s h packing forPin among with
    | some e => startMigr h e false forPin s
    | none => s
  else s

/-- Whether a chain may be chosen to relieve its engine (05 R198). -/
def relievable (s : State) (pinned : Bool) (h : Nat) : Bool :=
  let c := chainD s h
  (bit c.desc.flags 0 == pinned) && movable c && (migrOf s h).isNone

/-- The chains whose move relieves an engine, best first: those that bring its predicted slack to the target, smallest first, then the rest
by measured cycles, largest first (05 R198). Where the first has no destination, the next is tried (DESIGN CHOICE, log entry 66). -/
def relieveOrder (s : State) (e : Nat) (l : List Nat) : List Nat :=
  let size := fun h => (chainD s h).desc.stateBytes + (chainD s h).desc.codeBytes
  let meas := fun h => ((chainD s h).cycBest).getD 0
  let enough := fun h => decide (s.place.policy.slackTarget ≤ predict s e 0 (addCycles s (chainD s h)))
  sortBy (fun x y => decide (size x ≤ size y)) (l.filter enough) ++ sortBy (fun x y => decide (meas y ≤ meas x)) (l.filter fun h => !enough h)

/-- The first of some chains that has a destination for a migration, with it. -/
def firstMove (s : State) (l : List Nat) : Option (Nat × Nat) := findSome (fun h => (destFor s h false false (enginesOf s)).map fun d => (h, d)) l

/-- One move off an engine: an unpinned chain, or a pinned one when no unpinned chain can relieve two periods of misses (05 R198, R205). Among
pinned chains the order is that of R198 (DESIGN CHOICE, log entry 66). -/
def emergencyRelieve (e : Nat) (s : State) : State :=
  if !moveFree s e then s
  else
    let pick := fun (pinned : Bool) => firstMove s (relieveOrder s e ((chainsOn s e).filter (relievable s pinned)))
    match pick false with
    | some (h, d) => emergMove h d s
    | none =>
      match (if 2 ≤ (engAt s e).missRun then pick true else none) with
      | some (h, d) => emergMove h d s
      | none => raise 0x0402 e (placeEvent 12 0 0 e 0xFFFF 0 s)

/-- Moves one chain off a Suspect engine, pinned or not (05 R205, R219): the first of its run list that has a destination (DESIGN CHOICE, log
entry 66). -/
def evacuate (e : Nat) (s : State) : State :=
  if !moveFree s e then s
  else
    match firstMove s ((chainsOn s e).filter fun h => movable (chainD s h) && (migrOf s h).isNone) with
    | none => s
    | some (h, d) => emergMove h d s

/-- Whether the power manager reports a Lea at its ceiling (05 R229, 18 R667): the set point last completed is the highest that may be set (DESIGN
CHOICE, log entry 66), or the Lea is hot. -/
def atCeiling (s : State) (l : Nat) : Bool :=
  s.power.setp == s.power.vmax || decide ((s.place.policy.thermTarget : Int) ≤ leaTempOf s l)

/-- Forms the figures of the period that ends (05 R190, R191). A tick for which an engine has no slack counts 1000. -/
def measurePeriod (s : State) : State :=
  let parked := fun (e : Nat) => ((chainsOn s e).filter fun h => (chainD s h).parked).length
  let fin := fun (e : Nat) (g : Engine) =>
    let l := g.slack ++ List.replicate (64 - g.slack.length) 1000
    let o := sortBy (fun a b => decide (a ≤ b)) l
    { g with fig := some (lsum l / 64, o.getD 6 1000, g.missPer), missRun := if g.missPer = 0 then 0 else g.missRun + 1,
             parkEnd := parked e, slack := [], missPer := 0, failPer := 0, uePer := 0, removed := 0, woken := false }
  let done := fun (c : Chain) => { c with cycBest := if c.cycPer = 0 then c.cycBest else some c.cycPer, cycPer := 0, added := false }
  { s with eng := { s.eng with engines := tmapK fin s.eng.engines, chains := tmap done s.eng.chains },
           place := { s.place with period := s.place.period + 1 } }

/-- The policy accepted in the period comes into force, with event 0x0B when FREEZE changes (05 R195, R237). -/
def nextPolicy (s : State) : State :=
  match s.place.next with
  | none => s
  | some p =>
    let was := freezeNow s
    let s := { s with place := { s.place with policy := p, next := none } }
    let s := if freezeNow s = was then s else placeEvent 11 0 0 0xFFFF 0xFFFF (freezeNow s) s
    if was = 1 then s else applyFreeze s

/-- Chains that run, by handle. -/
def runningChains (s : State) : List Nat := (s.eng.chains.filter fun c => c.2.engine != 0xFFFF).map (·.1)

/-- Whether a chain stands on the engine it is pinned to, which R205 alone lets it leave. -/
def onPin (c : Chain) : Bool := bit c.desc.flags 0 && c.desc.pinEngine == c.engine

/-- The non-emergency part of the decisions (05 R197). The cheapest chain of a hot Lea is the one with the smallest declared cost, and of engines
with equal sums, Leas equally cool and chains equally cheap the lowest number is taken (DESIGN CHOICE, log entry 66). -/
def quietMoves (s : State) : State :=
  let s := (runningChains s).foldl (fun t h =>
    let c := chainD t h
    if bit c.desc.flags 0 && c.desc.pinEngine != c.engine then tryMove h false true [c.desc.pinEngine] t else t) s
  let s := (runningChains s).foldl (fun t h =>
    let c := chainD t h
    match wantLea t h with
    | some l => if c.engine / 12 != l && !onPin c then
        tryMove h false false ((enginesOf t).filter fun e => e / 12 == l) t else t
    | none => t) s
  let s := if bit s.place.policy.flags 0 then
      let awake := (enginesOf s).filter fun e => (engAt s e).pst == 1 && !(chainsOn s e).isEmpty
      match bestBy (fun x y => decide (sumOf s (costOf s) (chainsOn s x) < sumOf s (costOf s) (chainsOn s y))) awake with
      | none => s
      | some e =>
        let to_ := awake.filter (· != e)
        let free := fun h => !(chainD s h).parked && !onPin (chainD s h) && (destFor s h true false to_).isSome
        if (chainsOn s e).all free then (chainsOn s e).foldl (fun t h => tryMove h true false to_ t) s else s
    else s
  if bit s.place.policy.flags 1 then
    let leas := (List.range 16).filter (hasLea s)
    match bestBy (fun x y => decide (leaTempOf s x < leaTempOf s y)) leas with
    | none => s
    | some cool => (leas.filter fun l => decide ((s.place.policy.thermTarget : Int) < leaTempOf s l)).foldl (fun t l =>
        let cs := (runningChains t).filter fun h => (chainD t h).engine / 12 == l && !onPin (chainD t h)
        match bestBy (fun x y => decide (costOf t (chainD t x) < costOf t (chainD t y))) cs with
        | some h => tryMove h false false ((enginesOf t).filter fun e => e / 12 == cool) t
        | none => t) s
  else s

/-- The decisions at the end of a period (05 R197): relief, evacuation and restarts, then the moves that FREEZE stops. -/
def decidePeriod (s : State) : State :=
  let act := (enginesOf s).filter fun e => ((engAt s e).pst == 1 || (engAt s e).pst == 2) && !(chainsOn s e).isEmpty
  let order := sortBy (fun a b => decide (p10Of s a ≤ p10Of s b)) act
  let s := order.foldl (fun t e =>
    let f := ((engAt t e).fig).getD (1000, 1000, 0)
    if f.2.2 ≠ 0 || decide (f.2.1 < t.place.policy.slackEmerg) || decide ((t.place.policy.thermEmerg : Int) ≤ leaTempOf t (e / 12)) then
      emergencyRelieve e t
    else if decide (f.2.1 < t.place.policy.slackTarget) && atCeiling t (e / 12) && !frozen t then
      match (relieveOrder t e ((chainsOn t e).filter (relievable t false))).find? fun h => mayMove t h && (destFor t h false false (enginesOf t)).isSome with
      | some h => tryMove h false false (enginesOf t) t
      | none => t
    else t) s
  let s := ((enginesOf s).filter fun e => (engAt s e).pst == 2).foldl (fun t e => evacuate e t) s
  let s := ((enginesOf s).filter fun e => (engAt s e).pst == 3).foldl (fun t e => (chainsOn t e).foldl (fun u h => restartChain h u) t) s
  if frozen s then s else quietMoves s

/-- The period of the Placement Unit ends: measures, policy and moves (05 R195, R197, R231, 02 R85). The decisions taken at a boundary use the
policy that comes into force there (DESIGN CHOICE, log entry 66). -/
def placePeriod (temps : List Int) (occ drvQ : List Nat) (s : State) : State :=
  let put := fun {α : Type} (l : List α) => tputs ([] : Tab α) 0 l
  let s := { s with place := { s.place with leaTemp := put temps, occ := put (occ.map (min 1000)), drvQ := put drvQ } }
  let s := sweepMoves (measurePeriod s)
  let s := ((List.range occ.length).zip occ).foldl (fun t x => if 700 < x.2 then raise 0x0506 x.1 t else t) s
  let s := nextPolicy s
  if placeRuns s then decidePeriod s else s

end Sys2Proof.Machine
end

