-- ==== Sys2Proof/Machine/Reset.lean ====
section
/-! DEFINITION. Resets by depth (17 R630-R642 and the reset tables of the other chapters), and `settle`, which performs what the
faults of a step asked for (16 R612). -/

namespace Sys2Proof.Machine

/-- Records the cause bits and the depth of a reset (17 R639). -/
def noteCause (d causes : Nat) (s : State) : State :=
  { s with boot := { s.boot with depth := d, cause := s.boot.cause ||| causes } }

/-- The time unit after a reset (11 R475); WIN_CLK_INT_EN and the rest read their reset values. -/
def resetClock (_ : Clock) : Clock := {}

/-- Every running ramp completes: CURRENT takes TARGET (03 R101). Sets that are bound and not yet met by their pass are taken first. -/
def setNodes (nodes : Tab Node) (rs : List SwRec) : Tab Node :=
  rs.foldl (fun t r =>
    if r.r0 = r.r1 ∧ r.c0 = r.c1 then
      tmod t (4096 * r.c0 + r.r0) {} (fun n => { n with tgt := r.code.getD n.tgt, pol := r.pol.getD n.pol })
    else
      let old := tmapK (fun k (n : Node) =>
        if r.r0 ≤ k % 4096 ∧ k % 4096 ≤ r.r1 ∧ r.c0 ≤ k / 4096 ∧ k / 4096 ≤ r.c1 then
          { n with tgt := r.code.getD n.tgt, pol := r.pol.getD n.pol } else n) t
      if r.code.getD 0 = 0 ∧ !(r.pol.getD false) then old
      else (List.range (r.c1 + 1 - r.c0)).foldl (fun t c => (List.range (r.r1 + 1 - r.r0)).foldl (fun t i =>
        tmod t (4096 * (r.c0 + c) + (r.r0 + i)) {} (fun n => { n with tgt := r.code.getD n.tgt, pol := r.pol.getD n.pol })) t) old) nodes

/-- The Sward with every ramp complete and every bound set of a list in force; `rest` stays bound. -/
def finishWith (due rest : Tab (List SwRec)) (w : Sward) : Sward :=
  let nodes := due.foldl (fun t b => setNodes t b.2) w.nodes
  { w with nodes := tmap (fun n => { n with cur := n.tgt }) nodes,
           ramps := tmap (fun (x : Ramp) => { x with on := false, pos := 0 }) w.ramps, bound := rest }

/-- The Sward with every ramp complete and every bound set in force. -/
def finishRamps (w : Sward) : Sward := finishWith w.bound [] w

/-- The Sward with every ramp complete and the sets bound before `t` in force (03 R102). -/
def finishRampsBefore (t : Nat) (w : Sward) : Sward :=
  finishWith (w.bound.filter fun b => decide (b.1 < t)) (w.bound.filter fun b => decide (t ≤ b.1)) w

/-- The fixed blocks with their configuration kept and their running state cleared from a sample tick on (06 R264); the noise of
every generator is seeded anew (09 R367). -/
def restartFixed (from_ : Nat) (f : Fixed) : Fixed :=
  { dyn := tmap (fun (d : DynRun) => { maxRed := d.maxRed }) f.dyn,
    silBase := from_, showMi := f.showMi, showDst := f.showDst, meters := tmap (fun (m : MeterRun) => { ovf := m.ovf }) f.meters,
    seen := f.seen, seenRate := f.seenRate }

/-- The fixed blocks at a Plane or Warm reset: what METER_OP_READ shows starts over also (06 R264). -/
def resetFixed (f : Fixed) : Fixed :=
  { restartFixed 0 f with seen := tmap (fun (x : OpMeterCfg × MeterRun) => (x.1, { ovf := x.2.ovf })) f.seen }

/-- The configuration that a Warm reset keeps: dynamics, operator meters and silence (06 R264). -/
def warmCfg (c : Cfg) : Cfg :=
  { dyn := c.dyn, dynPar := c.dynPar, meters := c.meters, silThr := c.silThr, silHold := c.silHold }

/-- A Heath bank's registers after a Warm reset (08 R299). A retained bank that was Fallow stays Fallow, and the policy that is kept keeps its bank
off (08 R294). -/
def warmBank (n : Nat) (b : Bank) : Bank :=
  { b with pstate := if n = 16 ∨ n = 17 then 3 else if b.policy = 2 then 0 else if b.retain then (if b.pstate = 0 then 0 else 2) else 3, waking := false }

/-- Whether a bank keeps its contents through a Warm reset. -/
def keepsWarm (m : MemSt) (n : Nat) : Bool := (tgetD m.banks n {}).retain && n != 16 && n != 17 && (tgetD m.banks n {}).pstate != 0

/-- The memories after a reset of depth `d` (08 R299, R307, R308): MRAM and the xSPI device keep their bytes. -/
def resetMem (d : Nat) (m : MemSt) : MemSt :=
  let heath := (List.range 20).foldl (fun cs n =>
    if d = 2 ∧ keepsWarm m n then cs else clearCells cs (heathBase n) (heathBase (n + 1))) m.cells
  if d = 2 then
    { m with cells := heath, banks := tmapK warmBank m.banks,
             poison := m.poison.filter fun a => (List.range 20).any fun n =>
               keepsWarm m n && decide (heathBase n ≤ 8 * a) && decide (8 * a < heathBase (n + 1)),
             ready := false, zeroing := false, selfRef := true, warmExit := false, kept := false }
  else { cells := clearCells heath dramBase 0x8000000000 }

/-- A firmware image slot after a reset: an open transfer ends and its slot is invalid (17 R653). -/
def resetImage (i : Image) : Image := if i.state = 2 then { i with state := 0, version := 0, len := 0 } else i

/-- The Fault Collector after a reset: the island keeps it at Warm and System depth; System and Cold restore the reactions and
acknowledge the log; Cold also clears counters and flags (16 R611, R613, R616, R617, R624). -/
def resetFaults (d : Nat) (f : Collector) : Collector :=
  let f := { f with inject := none, shed := 0, beat := false, tickOk := false, due := 0, rel := 0, logAt := [] }
  if d = 2 then f
  else if d = 3 then { f with react := [], ack := (f.next - f.base) % 2 ^ 32 }
  else { ff := f.ff, log := f.log, next := f.next, base := f.next, fstate := f.fstate, due := 0, rel := 0 }

/-- Pairing after a reset: the pair state ends, the boot count advances and PAIR_CONFIG takes effect (15 R580, R583, R606). -/
def resetPair (p : Pair) : Pair :=
  { cfg := p.next.getD p.cfg, next := p.next, key := p.key, boot := (p.boot + 1) % 65536, actIn := p.actIn,
    seenBoot := p.seenBoot, seenSeq := p.seenSeq }

/-- The volume that the drives hold, by the superblock of the lowest slot that names one: VOLUME_ID, DRIVE_MASK and whether it is mirrored
(12 R478; the lowest slot is DESIGN CHOICE, log entry 60). -/
def volumeIn (t : Tab Drive) : Option (Nat × Nat × Bool) :=
  findSome (fun d => let v := tgetD t d {}
    if (v.state = 1 ∨ v.state = 2 ∨ v.state = 3) ∧ v.volMask ≠ 0 then some (v.volId, v.volMask, v.volMirr) else none) (List.range 4)

/-- Whether a drive that is there belongs to a volume. -/
def belongs (t : Tab Drive) (id mask d : Nat) : Bool :=
  let v := tgetD t d {}
  (v.state == 1 || v.state == 2 || v.state == 3) && v.volId == id && bit mask d

/-- STATE of the volume that the drives hold, before it is mounted: none, mounting, or replaying the journal where a superblock is not CLEAN
(12 R501, R505; DEDUCED, log entry 60). -/
def preMount (t : Tab Drive) : Nat :=
  match volumeIn t with
  | none => 0
  | some (id, mask, _) => if ((List.range 4).filter (belongs t id mask)).all fun d => (tgetD t d {}).clean then 1 else 2

/-- Drives and the journal outlive a reset; jobs and replays end and the volume is to be mounted again. At Warm depth the staged
audio is kept (12 R502). -/
def resetCap (d : Nat) (c : Capture) : Capture :=
  let drives := tmap (fun (v : Drive) => { v with state := if v.state = 4 then 4 else if v.state = 0 then 0 else 1 }) c.drives
  { drives := drives, vol := preMount drives, segs := c.segs, marks := c.marks, seq := c.seq, recNo := c.recNo, mirr := c.mirr, mask := c.mask, volId := c.volId,
    groups := if d = 2 then c.groups else [] }

/-- A Cold, System or Warm reset: what its depth resets and keeps, with the mode Bring-up (01 R36, 17 R630). At Warm depth an engine stays Out of
service (05 R221), or Suspect (DEDUCED, log entry 66). Delay memory that was not in
self-refresh is trained and zeroed at Warm depth also (17 R634, 18 R675); the audio staged in it is then lost. -/
def resetTo (d causes : Nat) (s : State) : State :=
  let warm := d == 2
  let ns := if warm then s.links.nodeSet else none
  let trains := !warm || (s.mode.mode == 1 && !s.mem.kept) || s.power.dramOut || (s.mode.mode == 2 && s.boot.trainZ && !s.mem.ready)
  let m := resetMem d s.mem
  { part := s.part,
    mode := { mode := 2, prev := s.mode.mode },
    win := if d = 4 then { seen := s.mode.mode * 2 ^ 16 + 2 } else { msixEn := s.win.msixEn, capsOn := s.win.capsOn, seen := s.mode.mode * 2 ^ 16 + 2 },
    sec := { s.sec with work := [], region := false,
                        resp1 := if d = 4 then 1 else s.sec.resp1, resp2 := if d = 4 then 1 else s.sec.resp2,
                        resp3 := if d = 4 then 1 else s.sec.resp3 },
    pipe := { live := if warm then warmCfg s.pipe.live else {} },
    sward := if warm then { nodes := (finishRamps s.sward).nodes, ramps := (finishRamps s.sward).ramps } else {},
    fixed := if warm then resetFixed s.fixed else {},
    place := if warm then { policy := s.place.policy, next := s.place.next, log := s.place.log, idx := s.place.idx, ovf := s.place.ovf,
                            stats := s.place.stats, leaTemp := s.place.leaTemp }
             else { leaTemp := s.place.leaTemp },
    eng := { engines := if warm then tmap (fun (g : Engine) => { pst := g.pst, passRun := g.passRun }) (s.eng.engines.filter fun g => decide (2 ≤ g.2.pst)) else [] },
    fab := if warm then { priLo := s.fab.priLo, priHi := s.fab.priHi } else {},
    mem := { m with selfRef := m.selfRef && !trains },
    lines := if warm then s.lines else {},
    ports := { drv := { faultN := s.ports.drv.faultN } },
    links := match ns with
      | some v => { node := v.1, ether := v.2.1, crcLim := v.2.2, nodeSet := s.links.nodeSet }
      | none => { nodeSet := if warm then s.links.nodeSet else none },
    clock := resetClock s.clock,
    cap := resetCap (if trains then 3 else d) s.cap,
    pair := resetPair s.pair,
    flt := resetFaults d s.flt,
    boot := { s.boot with depth := d, cause := s.boot.cause ||| causes, step := 1,
                          halted := s.boot.rising || s.boot.pinLow || s.boot.hot, trainZ := trains, imgA := resetImage s.boot.imgA, imgB := resetImage s.boot.imgB,
                          fwVer := 0, healthy := false, badSev := false, ignore := false, limp := false, startRun := false,
                          waiting := false, planeR := false },
    power := { s.power with target := 0x320, setp := 0x320, slew := false, noResp := false, sent := 0x320, pend := none, askAt := none, low := 0x320,
                            above := 0, next := none, seq := 0, broke := 0, dramOut := false, back := false,
                            fixed := warm && s.power.fixed, vmin := if warm then s.power.vmin else 720,
                            vmax := if warm then s.power.vmax else 900, vfix := if warm then s.power.vfix else 0,
                            margin := if warm then s.power.margin else 150 },
    meter := { s.meter with locked := false, lost := true, lostPts := 0xFFFF },
    settings := s.settings, free := s.free, wire := s.wire, pending := s.pending }

/-! ## Plane reset -/

/-- What the ports hold of the samples in flight is dropped: the frame that each AES3 port holds (02 R65) and the samples that audio-over-IP
senders have gathered (02 R75). -/
def dropFrames (s : State) : State :=
  { s with
    ports := { s.ports with ae := tmap (fun (p : AeSt) => { p with in0 := 0, in1 := 0, out0 := 0, out1 := 0 }) s.ports.ae },
    links := { s.links with aoTx := tmap (fun (a : AoSt) => { a with buf := [] }) s.links.aoTx } }

/-- Every serial, AES3 and SLP output is low (09 R369). -/
def lowOutputs (s : State) : State :=
  { s with
    pipe := { s.pipe with outSp := [], outAe := [], outSlp := [], held := false },
    ports := { s.ports with ae := tmap (fun (p : AeSt) => { p with sent := [] }) s.ports.ae } }

/-- An engine that stops at a Plane reset: the chain running in it has its state restored, and no counter moves (17 R640 step 1). Placement
measures anew once it starts again (05 R235). -/
def haltEngine (e : Nat) (s : State) : State :=
  let h := (engAt s e).cur
  let s := if h = 0 then s else restore e h s
  modEng e (fun g => { g with cur := 0, todo := [], loops := [], journal := [], outWin := [], lineWin := [], swapWait := false,
                              stalled := none, used := 0, missTick := 0, slack := [], fig := none, missPer := 0, failPer := 0 }) s

/-- A mode change staged for the tick boundary that a Plane reset falls on, the next one to come, is discarded with BUSY and APPLIED
zero (01 R40), a late one among them (01 R23); later ones stay staged (01 R24). DEDUCED: log entry 24. -/
def dropModeChanges (s : State) : State :=
  let hit := fun (g : Staged) => g.req.opcode == 0x0103 && g.alm == none && decide (g.due ≤ cal s + 1)
  let out := s.gate.staged.filter hit
  let s := { s with gate := { s.gate with staged := s.gate.staged.filter fun g => !hit g } }
  out.foldl (fun t g => reply g.req g.key false BUSY 0 0 g.mirr false [] t) s

/-- Master numbers of the data plane (07 R266, 17 R641). -/
def dataMaster (m : Nat) : Bool := m < 16 || m == 0x13

/-- A Plane reset (17 R640, R641): no further tick, the wrappers close, sequencing state is cleared and the Slot Exchange zeroed.
Every
locked sequence ends (07 R284), and requests of the data plane not yet granted complete with ISOLATED. PAIR_ACT_OUT falls at the start of any reset (15 R579); outputs hold until the handover of a Relinquish already sent (15 R595). -/
def planeReset (causes : Nat) (s : State) : State :=
  let s := noteCause depthPlane causes s
  let s := (s.eng.engines.map (·.1)).foldl (fun t e => haltEngine e t) s
  let s := abortIf 0xA (fun _ => true) s
  let s := dropFrames (dropModeChanges s)
  let s := if s.pair.handover.isSome then s else lowOutputs s
  { s with
    boot := { s.boot with planeR := true },
    fab := { s.fab with isolated := true, ended := s.fab.ended ++ s.fab.locks.map (fun l => { l with iso := true }), locks := [],
                        waiting := s.fab.waiting.filter fun x => !dataMaster x.m },
    wire := s.wire ++ (s.fab.waiting.filter fun x => dataMaster x.m).map fun x =>
      { kind := .fabric, a := 6, b := x.m, c := x.addr, codes := List.replicate (if x.kind < 2 then x.n else 1) 6 },
    pipe := { s.pipe with running := false, mid := false, recs := [], before := [], held := s.pair.handover.isSome },
    ports := { s.ports with
      sp := tmap (fun (p : SpSt) => { p with state := if p.state ≤ 1 then p.state else 2, unmute := false }) s.ports.sp,
      ae := tmap (fun (p : AeSt) => { p with state := if p.state = 0 then 0 else 1, unmute := false }) s.ports.ae,
      drv := { s.ports.drv with ch := tmap drvOff s.ports.drv.ch } },
    fixed := resetFixed s.fixed,
    pair := { s.pair with actOut := false } }

/-- The data plane starts at the boundary `r`: earlier sample ticks read zero, write marks and the fixed blocks start over and
every ramp is complete (17 R642, 08 R314, 06 R264, 03 R101). -/
def startPlane (r : Nat) (s : State) : State :=
  { s with
    pipe := { s.pipe with running := true, first := r, mid := false, recs := [], before := cfgsBefore r r s, held := false,
                          live := { s.pipe.live with tg := tmap (fun (g : TgCfg) => { g with seedAt := r }) s.pipe.live.tg } },
    sward := finishRamps s.sward,
    fixed := restartFixed r s.fixed,
    lines := { s.lines with tab := tmap (fun (l : Line) => { l with mark := r }) s.lines.tab } }

/-! ## Settling a step -/

/-- Whether bring-up is under way. -/
def bringingUp (s : State) : Bool := s.mode.mode == 2

/-- Performs a reset of a depth. During bring-up it starts bring-up again at the deeper of its depth and the one in progress (17 R633). -/
def resetNow (d causes : Nat) (s : State) : State :=
  if d = 0 then s
  else if bringingUp s then resetTo (max (max 2 d) s.boot.depth) causes s
  else if d = 1 then planeReset causes s
  else resetTo d causes s

/-- What the gathered faults ask for, from a depth on: one relinquish and the deepest reset (16 R612). -/
def performFrom (depth : Nat) (s : State) : State :=
  let d := s.flt.due
  let r := s.flt.rel
  let s := { s with flt := { s.flt with due := 0, rel := 0 } }
  let s := if r ≠ 0 && canRelinquish s then relinquish r s else s
  if depth ≤ d then resetNow d 0x200 s else s

/-- What the faults of one step ask for, and what those ask for that a Plane reset raises as it abandons migrations (05 R219). -/
def performDue (s : State) : State := performFrom 2 (performFrom 0 s)

/-- A change of WIN_MODE sets MODE in WIN_INT_STAT, with its vector where it was clear (13 R544, R545). -/
def noteMode (s : State) : State :=
  if winMode s = s.win.seen then s else msixFrom (intStat s) { s with win := { s.win with stMode := true, seen := winMode s } }

/-- The end of every step. -/
def settle (s : State) : State := noteMode (performDue (sweepMoves s))

end Sys2Proof.Machine
end

