-- ==== Sys2Proof/Machine/Bind.lean ====
section
/-! DEFINITION. What each staged operation makes of the configuration when the Commit Gate binds it (01 R21, 02 R69, R72), the
configuration as it will stand at a later boundary, and the checks that are made against it (02 R54, R735). -/

namespace Sys2Proof.Machine

/-- The `n`-byte big-endian field at byte `off` of a request's parameters. -/
def par (r : Req) (off n : Nat) : Nat := be r.params off n

/-- A signed parameter field. -/
def parS (r : Req) (off n : Nat) : Int := beS r.params off n

/-! ## Parameter blocks as configuration -/

/-- A slot map entry (02 R56). -/
def mapEntOf (v : Nat) : MapEnt := { kind := bits v 31 29, align := bits v 27 24, source := bits v 15 0 }

/-- The 32-bit word of a slot map entry. -/
def mapWord (e : MapEnt) : Nat := e.kind * 2 ^ 29 + e.align * 2 ^ 24 + e.source

/-- SP_CONFIG (09 R334). -/
def spOf (r : Req) : SpCfg :=
  { flags := par r 1 1, format := par r 2 1, ch := par r 3 1, word := par r 4 1, slot := par r 5 1, fsDelay := par r 6 1,
    fsWidth := par r 7 1, srcBase := par r 8 2, dstBase := par r 10 2 }

/-- AE_CONFIG (09 R342). -/
def aeOf (r : Req) : AeCfg := { flags := par r 1 1, srcBase := par r 2 2, dstBase := par r 4 2, txRef := par r 6 1 }

/-- DRV_SET_FREQ (09 R354). -/
def freqOf (r : Req) : DrvFreq :=
  { mode := par r 0 1, index := par r 1 1, stations := (List.range (par r 2 1)).map fun i => par r (4 + 2 * i) 2 }

/-- TG_SET (09 R363), seeded at `t`. -/
def tgOf (t : Nat) (r : Req) : TgCfg :=
  { flags := par r 1 1, signal := par r 2 1, channels := par r 3 1, srcBase := par r 4 2, level := par r 6 2, arg := par r 8 4, seedAt := t }

/-- SLP_SET_LISTEN (09 R361). -/
def slpOf (r : Req) : SlpCfg := { left := par r 0 2, right := par r 2 2, gain := par r 4 2, flags := par r 6 1, mic := par r 8 2 }

/-- DYN_CONFIG (06 R242). -/
def dynOf (r : Req) : DynCfg :=
  { flags := par r 2 1, link := par r 3 1, insSpace := bits (par r 4 2) 15 14, insSlot := bits (par r 4 2) 11 0,
    scSpace := bits (par r 6 2) 15 14, scSlot := bits (par r 6 2) 11 0, look := par r 8 1 }

/-- DYN_SET_PARAMS (06 R243). -/
def dynParOf (r : Req) : DynPar :=
  { thr := parS r 2 2, ratio := par r 4 2, knee := par r 6 2, attack := par r 8 2, release := par r 10 2, makeup := par r 12 2 }

/-- METER_OP_SET (06 R255). -/
def opMeterOf (r : Req) : OpMeterCfg :=
  { space := bits (par r 2 2) 15 14, slot := bits (par r 2 2) 11 0, flags := par r 4 1, bqEn := par r 5 1, decK := par r 6 1,
    shBq := par r 7 1, shDet := par r 8 1, shDec := par r 9 1, shAvg := par r 10 1, avgLen := par r 12 4,
    coeff := (List.range 15).map fun i => parS r (16 + 4 * i) 4 }

/-- LINK_CONFIG (10 R418). -/
def linkOf (r : Req) : LinkCfg :=
  { speed := par r 1 1, fec := par r 2 1, tag := par r 4 2, asym := parS r 6 2, ip := par r 8 4, plen := par r 12 1 }

/-- FLOW_OUT_SET (10 R382) with the ports that placement chose for its copies. -/
def flowOutOf (ports : List Nat) (r : Req) : FlowOut :=
  { ch := par r 2 1, kind := par r 3 1, dstBase := par r 4 2, target := par r 6 2,
    copies := if par r 3 1 = 3 then (List.range (par r 9 1)).map fun i => par r (16 + 2 * i) 2 else [par r 6 2], ports := ports }

/-- The key of an inbound flow: SOURCE and FLOW (10 R406). -/
def flowKey (src flow : Nat) : Nat := 4096 * src + flow

/-- FLOW_IN_SET (10 R386). -/
def flowInOf (r : Req) : FlowIn :=
  { source := par r 0 2, partner := par r 2 2, flow := par r 4 2, ch := par r 6 1, depth := par r 7 1, srcBase := par r 8 2, conceal := par r 10 1 }

/-- AOIP_SENDER_SET and AOIP_RECEIVER_SET (10 R426). -/
def aoipOf (sender : Bool) (r : Req) : Aoip :=
  { flags := par r 1 1, ch := par r 2 1, port := par r 3 1, base := par r 4 2, ptime := par r 6 2, addr := par r 8 4, udp := par r 12 2,
    pt := par r 14 1, opt := par r 15 1, src := par r 16 4, last := if sender then par r 20 1 else par r 20 4 }

/-- CAP_REPLAY (12 R492) starting at `t`. -/
def replayOf (t : Nat) (r : Req) : ReplayCfg :=
  { tracks := par r 2 2, recording := par r 4 4, firstTrack := par r 8 2, srcFirst := par r 10 2, start := par r 12 6, bound := t }

/-- A change of DYN_CONFIG that restarts the channel (06 R250). -/
def dynRestarts (a b : DynCfg) : Bool :=
  a.insSpace != b.insSpace || a.insSlot != b.insSlot || a.scSpace != b.scSpace || a.scSlot != b.scSlot || a.link != b.link
    || bit a.flags 1 != bit b.flags 1 || (!bit a.flags 0 && bit b.flags 0)

/-! ## Binding one set -/

/-- The configuration after a set bound at sample tick `t`. `note` holds what execution chose (Staged). -/
def bindCfg (s : State) (t : Nat) (note : List Nat) (r : Req) (c : Cfg) : Cfg :=
  if note = [1] && r.opcode / 16 == 0x30 then c
  else match r.opcode with
  | 0x0104 => { c with rate := par r 0 1, n := par r 1 1, tg := tmap (fun (g : TgCfg) => { g with seedAt := t }) c.tg }
  | 0x0106 => { c with mute := bit (par r 0 1) 0 }
  | 0x0303 =>
    let d := (chainD s (par r 0 2)).desc
    { c with chains := tset c.chains (par r 0 2) { desc := d, delays := d.taps.map fun x => x.2.2, first := t } }
  | 0x0304 => { c with chains := tdel c.chains (par r 0 2) }
  | 0x0306 =>
    let f := fun (d : List Nat) => (List.range (par r 2 2)).foldl (fun d i => d.set (par r (4 + 8 * i) 2) (par r (8 + 8 * i) 4)) d
    { c with chains := tupd c.chains (par r 0 2) (fun x => { x with delays := f x.delays }) }
  | 0x0309 => (List.range (par r 0 2)).foldl (fun c i =>
      let e := mapEntOf (par r (8 + 8 * i) 4)
      let sl := par r (6 + 8 * i) 2
      let put := fun (m : Tab MapEnt) => if e = {} then tdel m sl else tset m sl e
      if par r (4 + 8 * i) 1 = 1 then { c with mapMi := put c.mapMi } else { c with mapDst := put c.mapDst }) c
  | 0x0320 => { c with dyn := tset c.dyn (par r 0 2) (dynOf r) }
  | 0x0321 => { c with dynPar := tset c.dynPar (par r 0 2) (dynParOf r) }
  | 0x0401 => { c with sp := tset c.sp (par r 0 1) (spOf r) }
  | 0x0410 => { c with ae := tset c.ae (par r 0 1) (aeOf r) }
  | 0x0420 => { c with drv := tset c.drv (par r 0 1) { flags := par r 1 1, dst := par r 2 2 } }
  | 0x0421 => { c with drvFreq := freqOf r }
  | 0x0430 => { c with slp := slpOf r }
  | 0x0440 => { c with tg := tset c.tg (par r 0 1) (tgOf t r) }
  | 0x0502 => { c with links := tset c.links (par r 0 1) (linkOf r) }
  | 0x0504 => { c with flowOut := tset c.flowOut (par r 0 2) (flowOutOf note r) }
  | 0x0505 => { c with flowOut := tdel c.flowOut (par r 0 2) }
  | 0x0506 => { c with flowIn := tset c.flowIn (flowKey (par r 0 2) (par r 4 2)) (flowInOf r) }
  | 0x0507 => { c with flowIn := tdel c.flowIn (flowKey (par r 0 2) (par r 2 2)) }
  | 0x0510 => { c with aoTx := tset c.aoTx (par r 0 1) { aoipOf true r with bound := t } }
  | 0x0511 => { c with aoRx := tset c.aoRx (par r 0 1) (aoipOf false r) }
  | 0x0711 =>
    let j := tgetD s.cap.jobs (par r 0 1) {}
    { c with recs := tset c.recs (par r 0 1) { number := s.cap.recNo, first := t, flags := j.flags, dstF := j.dstF, tracks := j.tracks } }
  | 0x0712 => { c with recs := tdel c.recs (par r 0 1) }
  | 0x0720 => { c with replays := tset c.replays (par r 0 1) (replayOf t r) }
  | 0x0721 => { c with replays := tdel c.replays (par r 0 1) }
  | 0x0880 => { c with meters := tset c.meters (par r 0 2) (opMeterOf r) }
  | 0x0890 => { c with silThr := parS r 0 2, silHold := par r 2 2 }
  | _ => c

/-! ## The configuration as it will stand -/

/-- The boundary at which a staged set is judged to be bound: its own, or for a late set and one that waits on an Almanac entry the
next one (02 R72, R735). -/
def judgedDue (s : State) (g : Staged) : Nat := if g.alm.isSome then cal s + 1 else max g.due (cal s + 1)

/-- Order of binding: boundary, then acceptance (01 R22, 13 R529). -/
def before (s : State) (a b : Staged) : Bool :=
  decide (judgedDue s a < judgedDue s b) || (judgedDue s a == judgedDue s b && decide (a.req.acc ≤ b.req.acc))

/-- The staged sets bound up to a boundary, with one more set if given, in order of binding. -/
def setsUpTo (s : State) (extra : List Staged) (t : Nat) : List Staged :=
  sortBy (before s) ((s.gate.staged ++ extra).filter fun g => decide (judgedDue s g ≤ t))

/-- The configuration as it will stand after the sets bound at a boundary. -/
def cfgAt (s : State) (extra : List Staged) (t : Nat) : Cfg :=
  (setsUpTo s extra t).foldl (fun c g => bindCfg s (judgedDue s g) g.note g.req c) s.pipe.live

/-- The boundaries at which a set is judged: its own and every later one with a pending set (02 R735, 06 R244). -/
def judgedTicks (s : State) (g : Staged) : List Nat :=
  let t := judgedDue s g
  t :: (s.gate.staged.map (judgedDue s)).filter fun u => decide (t < u)

/-- Whether a test holds of the configuration at every boundary at which a set is judged. -/
def holds (s : State) (g : Staged) (p : Cfg → Bool) : Bool := (judgedTicks s g).all fun t => p (cfgAt s [g] t)

/-! ## Writers of SRC slots (02 R54) -/

/-- First slot and number of slots of every SRC writer. -/
def srcWriters (c : Cfg) : List (Nat × Nat) :=
  ((c.sp.filter fun x => bit x.2.flags 0).map fun x => (x.2.srcBase, x.2.ch))
  ++ ((c.ae.filter fun x => bit x.2.flags 0).map fun x => (x.2.srcBase, 2))
  ++ (if bit c.slp.flags 1 then [(c.slp.mic, 1)] else [])
  ++ (c.flowIn.map fun x => (x.2.srcBase, x.2.ch))
  ++ ((c.aoRx.filter fun x => bit x.2.flags 0).map fun x => (x.2.base, x.2.ch))
  ++ ((c.tg.filter fun x => bit x.2.flags 0).map fun x => (x.2.srcBase, x.2.channels))
  ++ (c.replays.map fun x => (x.2.srcFirst, x.2.tracks))

/-- Whether no two ranges of a list share a slot. -/
def disjoint : List (Nat × Nat) → Bool
  | [] => true
  | x :: r => (r.all fun y => decide (x.1 + x.2 ≤ y.1) || decide (y.1 + y.2 ≤ x.1)) && disjoint r

/-- Single writer per SRC slot (02 R54). -/
def oneWriter (c : Cfg) : Bool := disjoint (srcWriters c)

/-- Channels taken from the ASRC pool (09 R342). -/
def asrcUsed (c : Cfg) : Nat :=
  lsum (c.sp.map fun x => if bit x.2.flags 3 && bit x.2.flags 0 then x.2.ch else 0)
    + lsum (c.ae.map fun x => if bit x.2.flags 2 && bit x.2.flags 0 then 2 else 0)

/-- The clock limits of a serial port at a rate (09 R326). -/
def spClockOk (rate : Nat) (p : SpCfg) : Bool :=
  (!bit p.flags 0 && !bit p.flags 1) || bit p.flags 3
    || (decide (p.ch * p.slot * rateHz rate ≤ 98304000) && (decide (rate < 4) || decide (p.ch ≤ 16)))

/-- The largest alignment depth at a rate and tick size: at most 48 ticks and 2 ms (10 R388). -/
def maxDepth (rate n : Nat) : Nat := min 48 (rateHz rate * 2 / (1000 * n))

end Sys2Proof.Machine
end

