-- ==== Sys2Proof/Machine/Gate.lean ====
section
/-! DEFINITION. Execution of a request by the Command Processor: the operation tables, what each operation checks before it acts,
mirroring to the partner, staging in the Commit Gate, and the reply (13 R520 steps 8, 9 and 12, R527-R536, 02 R69-R72). -/

namespace Sys2Proof.Machine

/-! ## The operation tables: opcode, lowest role, and flags

Flags: bit 0 staged through the Commit Gate, bit 1 mirrored (13 R533), bit 2 read operation, bit 3 Bring-up status read (13 R732),
bit 4 node-local (01 R33), bit 5 queue P3 (13 R527). Classes 0x09 to 0x0F and the Sealed Meter are node-local as a whole. -/

def opsSystem : List (Nat × Nat × Nat) :=
  [(0x0101, 0, 12), (0x0102, 0, 12), (0x0103, 1, 17), (0x0104, 1, 3), (0x0105, 1, 16), (0x0106, 0, 3), (0x0107, 0, 0),
   (0x0120, 1, 16), (0x0121, 0, 4), (0x0122, 0, 4), (0x0123, 0, 36), (0x0124, 1, 16), (0x0130, 0, 4), (0x0131, 1, 16), (0x0132, 1, 16)]

def opsSward : List (Nat × Nat × Nat) :=
  [(0x0201, 0, 3), (0x0202, 0, 3), (0x0203, 0, 2), (0x0204, 0, 4), (0x0205, 0, 4), (0x0206, 0, 4), (0x0207, 0, 2), (0x0208, 0, 4)]

def opsChain : List (Nat × Nat × Nat) :=
  [(0x0301, 1, 2), (0x0302, 1, 34), (0x0303, 1, 3), (0x0304, 1, 3), (0x0305, 0, 3), (0x0306, 0, 3), (0x0307, 0, 4), (0x0308, 1, 16),
   (0x0309, 1, 3), (0x030A, 0, 4), (0x030B, 1, 3), (0x030C, 1, 36), (0x030D, 1, 0), (0x0320, 1, 3), (0x0321, 0, 3), (0x0322, 0, 4),
   (0x0340, 1, 2), (0x0341, 1, 2), (0x0342, 0, 4)]

def opsPorts : List (Nat × Nat × Nat) :=
  [(0x0401, 1, 3), (0x0402, 0, 4), (0x0403, 1, 2), (0x0404, 1, 16), (0x0410, 1, 3), (0x0411, 0, 4), (0x0420, 1, 3), (0x0421, 1, 3),
   (0x0422, 1, 0), (0x0423, 0, 4), (0x0430, 0, 0), (0x0431, 1, 0), (0x0432, 0, 4), (0x0440, 1, 3), (0x0441, 0, 4)]

def opsLinks : List (Nat × Nat × Nat) :=
  [(0x0501, 1, 0), (0x0502, 1, 1), (0x0503, 0, 4), (0x0504, 1, 3), (0x0505, 1, 3), (0x0506, 1, 3), (0x0507, 1, 3), (0x0508, 0, 4),
   (0x0509, 1, 2), (0x050A, 1, 2), (0x050B, 1, 0), (0x050C, 0, 4), (0x050D, 1, 0), (0x0510, 1, 3), (0x0511, 1, 3), (0x0512, 0, 4),
   (0x0520, 1, 0), (0x0521, 1, 0), (0x0530, 1, 0), (0x0531, 1, 0), (0x0532, 0, 4), (0x0533, 0, 4), (0x0540, 1, 16)]

def opsClock : List (Nat × Nat × Nat) :=
  [(0x0601, 1, 0), (0x0602, 1, 0), (0x0603, 1, 0), (0x0604, 1, 0), (0x0605, 0, 12), (0x0606, 1, 16), (0x0610, 1, 0), (0x0611, 0, 12),
   (0x0620, 1, 0), (0x0630, 1, 2), (0x0631, 0, 4), (0x0640, 0, 4), (0x0641, 1, 3), (0x0642, 1, 3), (0x0643, 0, 4)]

def opsCapture : List (Nat × Nat × Nat) :=
  [(0x0701, 1, 0), (0x0702, 0, 4), (0x0703, 1, 2), (0x0704, 0, 4), (0x0705, 1, 0), (0x0710, 1, 2), (0x0711, 0, 3), (0x0712, 0, 3),
   (0x0713, 0, 4), (0x0720, 0, 3), (0x0721, 0, 3), (0x0730, 0, 4), (0x0731, 0, 36), (0x0732, 0, 2), (0x0733, 1, 2)]

def opsMeter : List (Nat × Nat × Nat) :=
  [(0x0801, 0, 20), (0x0802, 1, 16), (0x0803, 0, 20), (0x0804, 1, 16), (0x0805, 1, 16), (0x0806, 0, 20), (0x0807, 0, 16),
   (0x0808, 0, 20), (0x0809, 0, 16), (0x080A, 1, 16), (0x080B, 2, 48), (0x080C, 2, 16), (0x080D, 2, 16), (0x0880, 0, 2),
   (0x0881, 0, 4), (0x0890, 1, 2), (0x0891, 0, 4)]

def opsHealth : List (Nat × Nat × Nat) :=
  [(0x0901, 1, 16), (0x0902, 0, 20), (0x0903, 1, 16), (0x0904, 0, 28), (0x0A01, 1, 16), (0x0A02, 1, 16), (0x0A03, 0, 20),
   (0x0A04, 1, 16), (0x0A05, 1, 16), (0x0B01, 0, 28), (0x0B02, 0, 28), (0x0B03, 0, 16), (0x0B04, 0, 20), (0x0B05, 1, 16),
   (0x0B06, 1, 16), (0x0B07, 1, 16), (0x0B0F, 2, 16)]

def opsFirmware : List (Nat × Nat × Nat) :=
  [(0x0C01, 1, 16), (0x0C02, 1, 48), (0x0C03, 1, 16), (0x0C04, 1, 16), (0x0C05, 1, 16), (0x0C06, 1, 16), (0x0C07, 0, 28),
   (0x0C10, 1, 16), (0x0D01, 1, 16), (0x0D02, 1, 16), (0x0D03, 0, 20), (0x0D10, 1, 20), (0x0D11, 1, 20), (0x0D20, 0, 28),
   (0x0D21, 2, 16), (0x0D30, 1, 16), (0x0D31, 0, 20), (0x0D40, 1, 16), (0x0F01, 2, 20), (0x0F02, 2, 16)]

/-- Every operation (13 R550, R553 and the tables of the other chapters). -/
def opTab : List (Nat × Nat × Nat) :=
  opsSystem ++ opsSward ++ opsChain ++ opsPorts ++ opsLinks ++ opsClock ++ opsCapture ++ opsMeter ++ opsHealth ++ opsFirmware

/-- The lowest role and the flags of an operation; `none` for an undefined opcode. -/
def opInfo (op : Nat) : Option (Nat × Nat) := (opTab.find? fun x => x.1 == op).map (·.2)

/-- Whether an operation has a flag. -/
def opFlag (op i : Nat) : Bool := match opInfo op with | some x => bit x.2 i | none => false

def isStaged (op : Nat) : Bool := opFlag op 0
def isMirrored (op : Nat) : Bool := opFlag op 1
def isRead (op : Nat) : Bool := opFlag op 2
def isBringUpRead (op : Nat) : Bool := opFlag op 3
def isNodeLocal (op : Nat) : Bool := opFlag op 4
def isBulk (op : Nat) : Bool := opFlag op 5

/-- The queue of an operation (13 R527). -/
def opQueue (op : Nat) : Nat :=
  if op = 0x0106 ∨ op / 256 = 0x0A ∨ op / 256 = 0x0B then 0
  else if isBulk op then 3
  else match opInfo op with
    | some (0, _) => 1
    | _ => 2

/-- The queue of a request: a relayed one takes that of its inner operation (13 R527; DEDUCED, log entry 39). -/
def queueOf (r : Req) : Nat := opQueue (if r.opcode = 0x0107 then be r.params 6 2 else r.opcode)

/-! ## Units and audio-interrupting changes -/

/-- Whether a mask of four bits names a link port that is absent. -/
def absentIn (s : State) (mask : Nat) : Bool := (bitList mask 4).any fun p => !hasLink s p

/-- Whether a link port number names an absent port. -/
def absentPort (s : State) (p : Nat) : Bool := decide (p < 4) && !hasLink s p

/-- Whether a request addresses a unit that the part does not have (00 R4, R6; 13 R520 step 9). -/
def absentUnit (s : State) (r : Req) : Bool :=
  let c := r.opcode / 256
  (c == 7 && !hasCap s) || (c == 8 && decide (r.opcode < 0x0880) && !hasMeter s)
    || (decide (0x0420 ≤ r.opcode) && decide (r.opcode ≤ 0x0423) && !hasDrv s)
    || match r.opcode with
      | 0x0301 => (bit (par r 2 2) 0 && decide (par r 4 2 < 192) && !hasEngine s (par r 4 2))
                    || (bit (par r 2 2) 1 && decide (par r 6 1 < 16) && !hasLea s (par r 6 1))
      | 0x030D => (bit (par r 2 1) 0 && decide (par r 4 2 < 192) && !hasEngine s (par r 4 2))
                    || (bit (par r 2 1) 1 && decide (par r 3 1 < 16) && !hasLea s (par r 3 1))
      | 0x0502 => absentPort s (par r 0 1)
      | 0x0504 => par r 3 1 != 2 && absentPort s (par r 8 1)
      | 0x0509 => absentIn s (par r 3 1) || absentIn s (par r 4 1)
      | 0x050B => absentPort s (par r 3 1) || absentPort s (par r 4 1)
      | 0x050D => absentPort s (par r 2 1) || absentPort s (par r 3 1)
      | 0x0510 => absentPort s (par r 3 1)
      | 0x0511 => absentPort s (par r 3 1)
      | 0x0601 => decide (9 ≤ par r 0 1) && absentPort s (par r 0 1 - 9)
      | 0x0602 => par r 0 1 == 2 && decide (9 ≤ par r 1 1) && absentPort s (par r 1 1 - 9)
      | 0x0610 => absentPort s (par r 1 1)
      | 0x0630 => par r 1 1 == 2 && !hasCap s
      | 0x0A01 => absentPort s (par r 4 1) || absentPort s (par r 5 1)
      | _ => false

/-- Whether a serial port passes its input: a master, or locked (09 R330, R332, R336). -/
def spLive (p : SpSt) : Bool := p.state == 1 || p.state == 3 || p.state == 4

/-- Whether two configurations of a serial port have the same format and clocks (09 R336). -/
def spSame (o n : SpCfg) : Bool :=
  o.format == n.format && o.ch == n.ch && o.word == n.word && o.slot == n.slot && o.fsDelay == n.fsDelay && o.fsWidth == n.fsWidth
    && bits o.flags 5 2 == bits n.flags 5 2

/-- The Almanac entry that an apply-at value names (11 R467). -/
def almOf (r : Req) : Option Nat := if bit r.applyAt 63 then some (r.applyAt % 32) else none

/-- The boundary that a staged request asks for (02 R70). -/
def dueOf (s : State) (r : Req) : Nat := if r.applyAt = 0 then cal s + 1 else r.applyAt

/-- The configuration that a request will find at its boundary, against which it is judged to change something: the sets staged before it and bound
by then are in force (01 R34; DEDUCED, log entry 44). -/
def cfgFor (s : State) (r : Req) : Cfg := cfgAt s [] (judgedDue s { req := r, due := dueOf s r, alm := almOf r })

/-- Whether a request carries an audio-interrupting change (01 R34). SYS_RESET counts in Run-Active at every depth, for the partner also (13 R550). -/
def interrupting (s : State) (r : Req) : Bool :=
  match r.opcode with
  | 0x0104 => let c := cfgFor s r; par r 0 1 != c.rate || par r 1 1 != c.n
  | 0x0105 => s.mode.mode == 6 || (bit (par r 1 1) 0 == false && par r 0 1 == 3)
  | 0x0401 =>
    let o := tgetD (cfgFor s r).sp (par r 0 1) {}
    let n := spOf r
    bits o.flags 1 0 != 0 && !spSame o n
  | 0x0410 =>
    let o := tgetD (cfgFor s r).ae (par r 0 1) {}
    bits o.flags 1 0 != 0 && bits o.flags 2 2 != bits (aeOf r).flags 2 2
  | 0x0502 =>
    let o := tgetD (cfgFor s r).links (par r 0 1) {}
    o.speed != (linkOf r).speed || o.fec != (linkOf r).fec
  | 0x0642 => true
  | 0x0C04 => true
  | _ => false

/-- The modes in which an operation with a mode rule of its own is allowed (13 R525; 01 R36, 09 R337, R360, 11 R453, 16 R627). -/
def opMode (s : State) (r : Req) : Bool :=
  let m := s.mode.mode
  match r.opcode with
  | 0x0403 => m == 4 || m == 5
  | 0x0431 => m == 4 || m == 5
  | 0x0641 => m == 4 || m == 5
  | 0x0903 => decide (3 ≤ m) && decide (m ≤ 7)
  | 0x0B0F => m == 4
  | _ => true

/-! ## Mirroring (13 R533-R535) -/

/-- Whether execution copies a request to the partner: an accepted mirrored operation on a paired Active (13 R533, R534). -/
def wantsMirror (s : State) (r : Req) : Bool :=
  paired s && s.mode.mode == 6 && s.pair.state == 1 && decide (r.src ≠ .pair) && isMirrored r.opcode

/-- Whether a non-staged mirrored operation takes effect at a tick boundary (13 R535). -/
def boundaryOp (op : Nat) : Bool := op == 0x0880 || op == 0x0890

/-- The handle that a request creates: the Active's choice in a mirrored copy, else the lowest free one (04 R181, 13 R535). A line ID
stands in the parameters of its command. -/
def madeFor (s : State) (r : Req) : Option Nat :=
  match r.made with
  | some v => some v
  | none =>
    if r.opcode = 0x0301 then tfree s.eng.chains 1 4095 else none

/-- The body of a Mirror: the request's header with FLAGS bit 2 and its apply-at tick, the parameters, the acceptance number and the
value created (15 R584; the layout is this model's, DESIGN CHOICE, log entry 22). -/
def mirrorBody (r : Req) : List Byte :=
  toBE 1 r.ver ++ toBE 1 (r.flags ||| 4) ++ toBE 2 r.opcode ++ toBE 2 r.tag ++ toBE 2 r.params.length ++ toBE 4 r.seq
    ++ toBE 1 r.role ++ toBE 1 r.slot ++ toBE 2 0 ++ toBE 8 r.applyAt ++ r.params ++ toBE 8 r.acc ++ toBE 2 (r.made.getD 0xFFFF)

/-- Sends the copy of a mirrored command and keeps it until it is acknowledged (13 R534, 15 R588). -/
def sendMirror (r : Req) (s : State) : State :=
  let q := s.pair.seq
  let s := sendPair 2 (mirrorBody r) s
  { s with pair := { s.pair with
      lastMir := q, out := s.pair.out ++ [{ seq := q, req := r, due := r.applyAt, bytes := mirrorBody r }] } }

/-- The status of a mirrored command once the Active has executed it (15 R588). -/
def noteMirror (r : Req) (status : Nat) (s : State) : State :=
  { s with pair := { s.pair with out := s.pair.out.map fun m => if m.req.acc = r.acc then { m with status := some status } else m } }

/-- The Shadow's answer to a Mirror; `ret.1` of a request from the pair path is the PAIR_SEQ of its Mirror (15 R584). -/
def sendAck (r : Req) (status : Nat) (s : State) : State :=
  if r.src = .pair then
    let l := tset s.pair.doneMir r.acc status
    sendPair 3 (toBE 4 r.ret.1 ++ toBE 2 status) { s with pair := { s.pair with doneMir := l.drop (l.length - 256) } }
  else s

/-! ## Plans -/

/-- What an operation's execution gives. With `hold` the reply comes later, from another command. -/
structure Res where
  st      : State
  status  : Nat := 0
  err     : Nat := 0
  applied : Nat := 0
  payload : List Byte := []
  hold    : Bool := false
  note    : List Nat := []

/-- What step 12 does for an operation: whether PARAMS has its length (R734), the checks in order (test, status, ERR_OFFSET), and
the effect. For a staged operation the effect is that of execution; binding is `bindCfg` and `bindFx`. -/
structure Plan where
  len    : Bool
  checks : List (Bool × Nat × Nat) := []
  act    : State → Res

/-- A check of one field of PARAMS (13 R733). -/
def chk (ok : Bool) (off : Nat) : Bool × Nat × Nat := (ok, BAD_PARAM, off)

/-- A check of a relation or of a conflict with the configuration (13 R733). -/
def chkRel (ok : Bool) : Bool × Nat × Nat := (ok, BAD_PARAM, 0xFFFF)

/-- A check with a status of its own. -/
def chkSt (ok : Bool) (status : Nat) : Bool × Nat × Nat := (ok, status, 0)

/-- A reserved field that must be zero. -/
def chkZero (r : Req) (off n : Nat) : Bool × Nat × Nat := chk (par r off n == 0) off

/-- An effect without payload. -/
def act (f : State → State) : State → Res := fun s => { st := f s }

/-- An effect that only returns a payload. -/
def give (f : State → List Byte) : State → Res := fun s => { st := s, payload := f s }

/-- Execution that leaves the machine unchanged: a staged operation whose whole effect is at its binding. -/
def noAct : State → Res := fun s => { st := s }

/-- A read without parameters. -/
def readPlan (f : State → List Byte) : State → Req → Plan := fun _ r => { len := r.params.isEmpty, act := give f }

/-! ## Staging -/

/-- The record that a staged request makes (02 R70-R72, 11 R467, 13 R530). -/
def stagedOf (s : State) (r : Req) : Staged :=
  { req := r, due := dueOf s r, alm := almOf r, want := r.applyAt, key := replyKey s r,
    mirr := wantsMirror s r, forced := bit r.flags 3 && interrupting s r && guardedMode s }

/-- The checks of the header of a staged request (02 R70, 11 R467). -/
def headChecks (s : State) (r : Req) : List (Bool × Nat × Nat) :=
  if !isStaged r.opcode then []
  else match almOf r with
    | some n => [chkRel (r.applyAt % 2 ^ 63 < 32 && (tgetD s.clock.alm n {}).action == 3)]
    | none => [chkRel (decide (r.applyAt ≤ cal s + 16777216))]

/-- The pending future apply-at ticks; the sets that wait on one Almanac entry count as one (02 R71, 11 R468). A late set waits for the
next boundary and for no tick of its own. -/
def pendTicks (now : Nat) (l : List Staged) : List (Nat × Nat) :=
  l.foldl (fun a g => let k := match g.alm with | some n => (1, n) | none => (0, g.due)
                      if g.quiet || (g.alm.isNone && decide (g.due ≤ now)) || a.contains k then a else a ++ [k]) []

/-- Whether the gate has room for a record (02 R71). -/
def gateRoom (s : State) (g : Staged) : Bool := decide ((pendTicks (cal s) (s.gate.staged ++ [g])).length ≤ 64)

/-- Adds a record to the gate. -/
def stage (g : Staged) (s : State) : State := { s with gate := { s.gate with staged := s.gate.staged ++ [g] } }

/-- Stages a change that is bound without a reply of its own at the next boundary, or at the tick of a mirrored copy (06 R256, R261,
09 R362, 13 R535). -/
def stageQuiet (r : Req) (s : State) : State :=
  stage { req := r, due := dueOf s r, quiet := true } s

/-! ## Queues -/

/-- Whether two requests are the same accepted one: a mirrored copy bears the Active's acceptance number (13 R529, R534). -/
def sameReq (a b : Req) : Bool := a.acc == b.acc && decide (a.src = .pair) == decide (b.src = .pair)

/-- A request leaves its queue; P3 counts the executions it waits through (13 R528). -/
def dequeue (r : Req) (s : State) : State :=
  let off := fun (l : List Req) => l.filter fun x => !sameReq x r
  let inP3 := s.cp.p3.any fun x => sameReq x r
  { s with cp := { s.cp with p0 := off s.cp.p0, p1 := off s.cp.p1, p2 := off s.cp.p2, p3 := off s.cp.p3,
                             p3Wait := if inP3 then 0 else if s.cp.p3.isEmpty then 0 else min 64 (s.cp.p3Wait + 1) } }

/-! ## Execution -/

/-- The end of an execution with a reply: the status for the partner, the Ack to it, and the reply (13 R531, 15 R588). -/
def finish (r : Req) (status err applied : Nat) (mirr forced : Bool) (payload : List Byte) (s : State) : State :=
  let s := if mirr then noteMirror r status s else s
  reply r (replyKey s r) (isRead r.opcode) status err applied mirr forced payload (sendAck r status s)

/-- Records a forced audio-interrupting change (01 R35, R41). -/
def setForced (forced : Bool) (s : State) : State :=
  if forced then { s with mode := { s.mode with forced := true } } else s

/-- A plan carried out: length, header and parameter checks, then staging or the effect itself (13 R520 step 12, R530, R531). On the
link control channel a read with more than 1440 bytes of payload is refused (13 R547). -/
def carryOut (r : Req) (mirr : Bool) (p : Plan) (s : State) : State :=
  let forced := bit r.flags 3 && interrupting s r && guardedMode s
  if !p.len then finish r BAD_PARAM 0xFFFF 0 mirr false [] s
  else match (headChecks s r ++ p.checks).find? (fun c => !c.1) with
    | some (_, st, off) => finish r st (if st = BAD_PARAM then off else 0) 0 mirr false [] s
    | none =>
      if isStaged r.opcode then
        let g := { stagedOf s r with mirr := mirr, forced := forced }
        if s.gate.frozen || !gateRoom s g then finish r BUSY 0 0 mirr false [] s
        else
          let x := p.act s
          if 0x100 ≤ x.status then finish r x.status x.err 0 mirr false [] x.st
          else
            let s := stage { g with payload := x.payload, note := x.note } x.st
            let s := if mirr then noteMirror r OK s else s
            if g.alm.isSome then finish r ACCEPTED_PENDING 0 0 mirr forced [] s else sendAck r OK s
      else
        let x := p.act s
        if x.hold then x.st
        else if decide (r.src = .link) && isRead r.opcode && decide (1440 < x.payload.length) then
          finish r BAD_PARAM 0xFFFF 0 mirr false [] s
        else finish r x.status x.err x.applied mirr (forced && decide (x.status < 0x100)) x.payload
          (setForced (forced && decide (x.status < 0x100)) x.st)

/-- Executes an accepted request: the checks of steps 8 and 9 as they stand now, the operation's own mode rule, which follows the test of
the length (13 R525, R734), the copy to the partner, then the plan. -/
def execOp (op : Nat) (plan : State → Req → Plan) (r0 : Req) (s : State) : State :=
  let r := { r0 with opcode := op }
  let s := dequeue r s
  if interrupting s r && guardedMode s && !bit r.flags 3 then finish r MODE_DENIED 0 0 false false [] s
  else if absentUnit s r then finish r UNIT_ABSENT 0 0 false false [] s
  else if (plan s r).len && !opMode s r then finish r MODE_DENIED 0 0 false false [] s
  else
    let mirr := wantsMirror s r
    let r := { r with made := madeFor s r, ran := some (cal s, s.clock.now),
                      applyAt := if mirr && r.applyAt == 0 && (isStaged op || boundaryOp op) then cal s + 2 else r.applyAt }
    let s := if mirr then sendMirror r s else s
    carryOut r mirr (plan s r) s

end Sys2Proof.Machine
end

