-- ==== Sys2Proof/Machine/System.lean ====
section
/-! DEFINITION. The System class: capabilities, status, mode, time base, reset, mute and relay (13 R548-R552, 02 R50, R73, R74, R166). -/

namespace Sys2Proof.Machine

/-! ## SYS_GET_CAPS and SYS_GET_STATUS -/

/-- SYS_GET_CAPS (01 R43, 13 R550). -/
def planSysGetCaps : State → Req → Plan := readPlan caps

def execSysGetCaps (r : Req) (s : State) : Host.Outcome State Fault Refusal := .next (settle (execOp 0x0101 planSysGetCaps r s))

/-- The SYS_GET_STATUS payload (13 R552). -/
def statusPayload (s : State) : List Byte :=
  let c := s.cp
  toBE 4 (winMode s) ++ toBE 6 (cal s) ++ toBE 1 (b2n s.pipe.live.mute) ++ toBE 1 0
    ++ toBE 2 c.p0.length ++ toBE 2 c.p1.length ++ toBE 2 c.p2.length ++ toBE 2 c.p3.length
    ++ toBE 2 c.hw0 ++ toBE 2 c.hw1 ++ toBE 2 c.hw2 ++ toBE 2 c.hw3
    ++ toBE 2 c.authAll.n ++ toBE 2 c.staleAll.n ++ toBE 2 c.qFull.n
    ++ toBE 1 (b2n c.authAll.sat + 2 * b2n c.staleAll.sat + 4 * b2n c.qFull.sat) ++ toBE 1 0

/-- SYS_GET_STATUS: the high-water marks start again and the saturation flags are cleared (13 R552). -/
def planSysGetStatus (_ : State) (r : Req) : Plan :=
  { len := r.params.isEmpty,
    act := fun s =>
      let c := s.cp
      { payload := statusPayload s,
        st := { s with cp := { c with hw0 := c.p0.length, hw1 := c.p1.length, hw2 := c.p2.length, hw3 := c.p3.length,
                                      authAll := { c.authAll with sat := false }, staleAll := { c.staleAll with sat := false },
                                      qFull := { c.qFull with sat := false } } } } }

def execSysGetStatus (r : Req) (s : State) : Host.Outcome State Fault Refusal := .next (settle (execOp 0x0102 planSysGetStatus r s))

/-! ## SYS_SET_MODE -/

/-- The transitions that SYS_SET_MODE reaches (01 R36). -/
def modeReach (s : State) (to_ : Nat) : Bool :=
  let m := s.mode.mode
  (m == 5 && to_ == 6) || (m == 6 && to_ == 5) || ((m == 5 || m == 3) && to_ == 4 && s.boot.testEn)
    || (m == 6 && to_ == 7 && paired s)

/-- SYS_SET_MODE (01 R36-R39, 13 R550). Run-Shadow needs a Ready partner, else BUSY (15 R594; DESIGN CHOICE, log entry 23). While another
mode change is pending, BUSY (R39) comes before the MODE_DENIED of a mode that is not reached (R38; DESIGN CHOICE, log entry 23). -/
def planSysSetMode (s : State) (r : Req) : Plan :=
  let m := par r 0 1
  { len := r.params.length == 4,
    checks := [chk (decide (m < 8)) 0, chkZero r 1 3, chkSt (m != 4 || r.role == 2) ROLE_DENIED, chkSt (!transit s) BUSY,
               chkSt (modeReach s m) MODE_DENIED, chkSt (m != 7 || canRelinquish s) BUSY],
    act := noAct }

def execSysSetMode (r : Req) (s : State) : Host.Outcome State Fault Refusal := .next (settle (execOp 0x0103 planSysSetMode r s))

/-! ## SYS_SET_TIMEBASE -/

/-- Tracks that recordings may take together at a rate (12 R483). -/
def trackLimit (rate : Nat) : Nat := if rate < 2 then 4096 else if rate < 4 then 2048 else 1024

/-- Tracks that replays may take together at a rate (12 R492). -/
def replayLimit (rate : Nat) : Nat := trackLimit rate / 4

/-- Tracks of the jobs that record in a configuration. -/
def tracksOf (c : Cfg) : Nat := lsum (c.recs.map fun x => x.2.tracks)

/-- Tracks of the replays of a configuration. -/
def replayTracks (c : Cfg) : Nat := lsum (c.replays.map fun x => x.2.tracks)

/-- The delays of a chain's taps in a configuration: those bound, else the descriptor's. -/
def tapDelays (c : Cfg) (h : Nat) (d : Desc) : List Nat :=
  match tget c.chains h with
  | some x => x.delays
  | none => d.taps.map fun t => t.2.2

/-- Whether a chain is loaded and no set bound by boundary `t` unloads it (02 R74, 04 R181). -/
def standsAt (s : State) (t h : Nat) : Bool :=
  let c := chainD s h
  c.st != 1 && !(c.st == 6 && c.prev == 1) && c.stop.isNone
    && !s.gate.staged.any fun g => g.req.opcode == 0x0304 && par g.req 0 2 == h && decide (judgedDue s g ≤ t)

/-- The chains that are loaded once the sets bound by boundary `t` are (02 R74). -/
def loadedAt (s : State) (t : Nat) : Tab Chain := s.eng.chains.filter fun h => standsAt s t h.1

/-- The chains of a run list that are loaded then, with their descriptors. -/
def engineDescs (s : State) (t : Nat) (hs : List Nat) : List Desc := (hs.filter (standsAt s t)).map fun h => (chainD s h).desc

/-- Whether the configuration at boundary `t` suits another rate and tick size (02 R74). An audio-over-IP entry counts as configured for the
rate test where it is enabled (DESIGN CHOICE, log entry 53). -/
def suits (s : State) (t : Nat) (c : Cfg) (rate n : Nat) : Bool :=
  (c.sp.all fun p => spClockOk rate p.2)
    && ((c.aoTx ++ c.aoRx).all fun a => (!bit a.2.flags 0 || rate == 1 || rate == 3) && a.2.ptime % n == 0)
    && (c.flowIn.all fun f => decide (f.2.depth ≤ maxDepth rate n))
    && ((loadedAt s t).all fun h => (tapDelays c h.1 h.2.desc).all fun d => decide (2 * n ≤ d))

/-- Whether the declared costs on every engine keep the Headroom Rule at another rate and tick size (02 R73, R82). -/
def headroomAt (s : State) (t rate n : Nat) : Bool :=
  s.eng.runList.all fun e =>
    decide (lsum ((engineDescs s t e.2).map fun d => declared d n) ≤ 4160 * (2 * n * 1000000 - 5 * rateHz rate) / rateHz rate)

/-- Whether the windows on every engine fit its budget at another tick size (04 R155, R167). -/
def windowsAt (s : State) (t n : Nat) : Bool :=
  s.eng.runList.all fun e => decide (lsum ((engineDescs s t e.2).map fun d => (d.ins.length + d.outs.length + d.taps.length + d.lines.length) * n * 4) ≤ 16384)

/-- SYS_SET_TIMEBASE (02 R50, R73, R74, 04 R155, R166, R167, 13 R550). A window budget that would not hold answers NO_CAPACITY, as the Headroom
Rule does (DESIGN CHOICE, log entry 53). -/
def planSysSetTimebase (s : State) (r : Req) : Plan :=
  let ra := par r 0 1
  let n := par r 1 1
  let t := judgedDue s (stagedOf s r)
  let c := cfgAt s [] t
  { len := r.params.length == 4,
    checks := [chk (decide (ra < 6)) 0, chk (decide (tickBit n < 6)) 1, chkZero r 2 2, chkRel (tickAllowed ra n),
               chkRel ((loadedAt s t).all fun h => bit h.2.desc.rateMap ra && bit h.2.desc.tickMap (tickBit n)),
               chkRel (suits s t c ra n), chkSt (headroomAt s t ra n) NO_CAPACITY, chkSt (windowsAt s t n) NO_CAPACITY,
               chkSt (decide (tracksOf c ≤ trackLimit ra)) NO_CAPACITY, chkSt (decide (replayTracks c ≤ replayLimit ra)) NO_CAPACITY],
    act := noAct }

def execSysSetTimebase (r : Req) (s : State) : Host.Outcome State Fault Refusal := .next (settle (execOp 0x0104 planSysSetTimebase r s))

/-! ## SYS_RESET -/

/-- Depth code of WIN_RSTCAUSE for a SYS_RESET depth (13 R550, 17 R638). -/
def resetDepth (d : Nat) : Nat := if d = 0 then depthCold else if d = 1 then depthSystem else if d = 2 then depthWarm else depthPlane

/-- A reset by command after its reply: a Plane reset of a node that can relinquish is preceded by a Relinquish (15 R594, 13 R550). -/
def commandReset (depth : Nat) (s : State) : State :=
  let s := if depth = depthPlane && canRelinquish s then relinquish 0 s else s
  resetNow depth 0x100 s

/-- SYS_RESET (13 R550, 15 R605): the reply first, then the reset; a reset of the partner waits for its answer. -/
def planSysReset (_ : State) (r : Req) : Plan :=
  { len := r.params.length == 4,
    checks := [chk (decide (par r 0 1 < 4)) 0, chk (decide (par r 1 1 < 2)) 1, chkZero r 2 2],
    act := fun s =>
      if par r 1 1 = 1 then
        { hold := true,
          st := { sendPair 8 (toBE 1 (par r 0 1)) s with cp := { s.cp with partner := s.cp.partner ++ [{ req := r, node := s.pair.seq, forced := bit r.flags 3 && interrupting s r && guardedMode s }] } } }
      else
        let forced := bit r.flags 3 && interrupting s r && guardedMode s
        let s := finish r OK 0 0 false forced [] (setForced forced s)
        { hold := true, st := commandReset (resetDepth (par r 0 1)) s } }

def execSysReset (r : Req) (s : State) : Host.Outcome State Fault Refusal := .next (settle (execOp 0x0105 planSysReset r s))

/-! ## SYS_MUTE_ALL and SYS_RELAY -/

/-- SYS_MUTE_ALL (13 R551); it is bound by `bindCfg`. -/
def planSysMuteAll (_ : State) (r : Req) : Plan :=
  { len := r.params.length == 4, checks := [chk (decide (par r 0 1 < 2)) 0, chkZero r 1 3], act := noAct }

def execSysMuteAll (r : Req) (s : State) : Host.Outcome State Fault Refusal := .next (settle (execOp 0x0106 planSysMuteAll r s))

/-- SYS_RELAY (13 R548): the inner request leaves in a Control frame, and the reply waits for the inner reply. -/
def planSysRelay (s : State) (r : Req) : Plan :=
  { len := decide (48 ≤ r.params.length) && decide (r.params.length ≤ 1488),
    checks := [chk (thas s.links.dir (par r 0 2)) 0, chkZero r 2 2],
    act := fun s =>
      let node := par r 0 2
      { hold := true,
        st := sendNode node 2 0 (r.params.drop 4) { s with cp := { s.cp with relays := s.cp.relays ++ [{ req := r, node := node }] } } } }

def execSysRelay (r : Req) (s : State) : Host.Outcome State Fault Refusal := .next (settle (execOp 0x0107 planSysRelay r s))

end Sys2Proof.Machine
end

