-- ==== Sys2Proof/Machine/LinksOps.lean ====
section
/-! DEFINITION. The commands of the link ports, flows, tables, rings, audio over IP, MG and the Array Links (10 R381-R386, R406-R426,
05 R232). -/

namespace Sys2Proof.Machine

/-- Whether a number is a node ID (10 R372). -/
def isNode (v : Nat) : Bool := decide (1 ≤ v) && decide (v ≤ 0xFFFE)

/-- Whether a number lies in a closed range. -/
def rng (lo hi v : Nat) : Bool := decide (lo ≤ v) && decide (v ≤ hi)

/-! ## Identity and ports -/

/-- LINK_SET_NODE (10 R417, R421): in force after a Warm reset. -/
def planLinkSetNode (_ : State) (r : Req) : Plan :=
  { len := r.params.length == 8,
    checks := [chk (isNode (par r 0 2)) 0, chk (decide (0x0600 ≤ par r 2 2)) 2, chk (rng 1 100000 (par r 4 4)) 4],
    act := act fun s => { s with links := { s.links with nodeSet := some (par r 0 2, par r 2 2, par r 4 4) } } }

def execLinkSetNode (r : Req) (s : State) : Host.Outcome State Fault Refusal := .next (settle (execOp 0x0501 planLinkSetNode r s))

/-- LINK_CONFIG (10 R370, R371, R418). -/
def planLinkConfig (_ : State) (r : Req) : Plan :=
  { len := r.params.length == 16,
    checks := [chk (decide (par r 0 1 < 4)) 0, chk (decide (par r 1 1 < 3)) 1, chk (decide (par r 2 1 < 3)) 2, chkZero r 3 1,
               chk (!bit (par r 4 2) 12) 4, chk (rng 8 30 (par r 12 1)) 12, chkZero r 13 3, chkRel (!(par r 1 1 == 1 && par r 2 1 == 2))],
    act := noAct }

def execLinkConfig (r : Req) (s : State) : Host.Outcome State Fault Refusal := .next (settle (execOp 0x0502 planLinkConfig r s))

/-- Bits of one tick that an outbound flow commits on each port it leaves by (10 R380, R381). -/
def flowBits (n ch : Nat) : Nat :=
  let f := 1476 / (4 * n)
  8 * ((ch / f) * (66 + 4 * n * f) + (if ch % f = 0 then 0 else 66 + 4 * n * (ch % f)))

/-- How often a flow leaves by a port: once for each of its copies placed there, or by its group's mask (10 R381, R383). -/
def flowTimes (s : State) (f : FlowOut) (p : Nat) : Nat :=
  if f.kind = 2 then (match tget s.links.groups f.target with | some g => b2n (bit g.ports p) | none => 0)
  else (f.ports.filter (· == p)).length

/-- Bits per tick committed on a port in a configuration. -/
def committed (s : State) (c : Cfg) (p : Nat) : Nat := lsum (c.flowOut.map fun f => flowTimes s f.2 p * flowBits c.n f.2.ch)

/-- Line rate of a port in a configuration, bit/s; a disabled port has none. -/
def lineRate (c : Cfg) (p : Nat) : Nat := match (tgetD c.links p {}).speed with | 1 => 10000000000 | 2 => 25000000000 | _ => 0

/-- Whether bits per tick stay at or below `pct` hundredths of a port's line rate. -/
def fitsLine (c : Cfg) (p pct v : Nat) : Bool := decide (100 * v * rateHz c.rate ≤ pct * lineRate c p * c.n)

/-- One port record of LINK_GET_STATUS (10 R423). COMMITTED is rounded down. -/
def linkRecord (s : State) (p : Nat) : List Byte :=
  let x := linkSt s p
  let c := s.pipe.live
  let k := linkCfg s p
  let sats := [x.badFcs, x.hopLimit, x.unknown, x.noEntry, x.portDown, x.cutShort, x.annDrop]
  toBE 1 p ++ toBE 1 (if hasLink s p then x.state else 5) ++ toBE 1 k.speed ++ toBE 1 k.fec
    ++ (sats.take 6).flatMap (fun c => toBE 2 c.n) ++ toBE 4 x.sent.n ++ toBE 4 x.received.n ++ toBE 2 x.annDrop.n
    ++ toBE 1 (ofBits ((List.range 7).filter fun i => (sats.getD i {}).sat)) ++ toBE 1 0
    ++ toBE 4 (committed s c p * rateHz c.rate / (c.n * 1000000))

/-- The state of a ring in LINK_GET_STATUS. -/
def ringCode (s : State) (i : Nat) : Nat := let r := tgetD s.links.rings i {}; if !r.enabled then 0 else if r.prot then 2 else 1

/-- LINK_GET_STATUS (10 R423). -/
def planLinkGetStatus : State → Req → Plan := readPlan fun s =>
  toBE 2 s.links.node ++ toBE 2 s.links.ether ++ toBE 1 (ringCode s 0) ++ toBE 1 (ringCode s 1) ++ zeroBytes 2
    ++ (List.range 4).flatMap (linkRecord s)

def execLinkGetStatus (r : Req) (s : State) : Host.Outcome State Fault Refusal := .next (settle (execOp 0x0503 planLinkGetStatus r s))

/-! ## Outbound flows -/

/-- The ports that reach a node by its directory entry, with their hops (05 R232): every port that an Announce of the node was heard on
(10 R399), or, of a pinned entry, the two ports that DIR_SET named. -/
def reachPorts (s : State) (node : Nat) : List (Nat × Nat) :=
  match tget s.links.dir node with
  | some d =>
    (if d.pinned then [(d.prim, d.primH)] ++ (if d.alt < 4 then [(d.alt, d.altH)] else []) else d.ports).filter fun x => hasLink s x.1
  | none => []

/-- The port that the Placement Unit picks for a unicast of `ch` channels, with `used` ports of the flow's earlier copies (05 R232). -/
def pickPort (s : State) (c : Cfg) (ch : Nat) (used : List Nat) (node : Nat) : Option Nat :=
  let load := fun p => committed s c p + (used.filter (· == p)).length * flowBits c.n ch
  let ok := (reachPorts s node).filter fun x => fitsLine c x.1 90 (load x.1 + flowBits c.n ch)
  let free := fun p => (lineRate c p * c.n : Int) - load p * rateHz c.rate
  (bestBy (fun (x y : Nat × Nat) =>
    if x.2 != y.2 then decide (x.2 < y.2) else if free x.1 != free y.1 then decide (free y.1 < free x.1) else decide (x.1 < y.1)) ok).map (·.1)

/-- The ports of every copy of a flow, in order; `none` when a copy has no port. -/
def pickAll (s : State) (c : Cfg) (ch : Nat) : List Nat → List Nat → Option (List Nat)
  | used, [] => some used
  | used, v :: r => match pickPort s c ch used v with
    | some p => pickAll s c ch (used ++ [p]) r
    | none => none

/-- The nodes that a flow is sent to. -/
def flowNodes (r : Req) : List Nat :=
  if par r 3 1 = 3 then (List.range (par r 9 1)).map fun i => par r (16 + 2 * i) 2 else [par r 6 2]

/-- The ports that a FLOW_OUT_SET gives its copies (05 R232, 10 R383). One without a port for a flow that exists and goes to the same nodes keeps
its ports, since no placement moves an existing flow (05 R189); to other nodes it is a new flow (DESIGN CHOICE, log entry 67). -/
def flowPorts (s : State) (r : Req) : Option (List Nat) :=
  if par r 3 1 = 2 then some []
  else if par r 8 1 ≠ 0xFF then some ((flowNodes r).map fun _ => par r 8 1)
  else
    let c := cfgAt s [] (judgedDue s (stagedOf s r))
    let kept := match tget c.flowOut (par r 0 2) with
      | some x => if x.kind == par r 3 1 && x.copies == flowNodes r then some x.ports else none
      | none => none
    kept.or (pickAll s { c with flowOut := tdel c.flowOut (par r 0 2) } (par r 2 1) [] (flowNodes r))

/-- FLOW_OUT_SET (10 R381-R383). -/
def planFlowOutSet (s : State) (r : Req) : Plan :=
  let k := par r 3 1
  let n := par r 9 1
  let ports := flowPorts s r
  let g := { stagedOf s r with note := ports.getD [] }
  { len := r.params.length == if k = 3 then 16 + 2 * n else 16,
    checks := [chk (decide (par r 0 2 < 4096)) 0, chk (rng 1 64 (par r 2 1)) 2, chk (rng 1 3 k) 3, chk (decide (par r 4 2 < 4096)) 4,
               chk (if k = 1 then isNode (par r 6 2) else k != 2 || thas s.links.groups (par r 6 2)) 6,
               chk (k == 2 || decide (par r 8 1 < 4) || par r 8 1 == 0xFF) 8, chk (k != 3 || rng 2 64 n) 9, chkZero r 10 6]
      ++ ((List.range (if k = 3 then n else 0)).map fun i => chk (isNode (par r (16 + 2 * i) 2)) (16 + 2 * i))
      ++ [chkRel (k != 3 || par r 6 2 == 0), chkRel (k == 3 || n == 0), chkRel (decide (par r 4 2 + par r 2 1 ≤ 4096)),
          chkSt ports.isSome NO_CAPACITY,
          chkSt (k == 2 || par r 8 1 == 0xFF || holds s g fun c => fitsLine c (par r 8 1) 100 (committed s c (par r 8 1))) NO_CAPACITY],
    act := fun s => { st := s, note := ports.getD [] } }

def execFlowOutSet (r : Req) (s : State) : Host.Outcome State Fault Refusal := .next (settle (execOp 0x0504 planFlowOutSet r s))

/-- FLOW_OUT_DELETE (10 R421). -/
def planFlowOutDelete (s : State) (r : Req) : Plan :=
  { len := r.params.length == 4,
    checks := [chk (thas (cfgAt s [] (judgedDue s (stagedOf s r))).flowOut (par r 0 2)) 0, chkZero r 2 2],
    act := noAct }

def execFlowOutDelete (r : Req) (s : State) : Host.Outcome State Fault Refusal := .next (settle (execOp 0x0505 planFlowOutDelete r s))

/-! ## Inbound flows -/

/-- FLOW_IN_SET (10 R386, R388, R406). -/
def planFlowInSet (s : State) (r : Req) : Plan :=
  let g := stagedOf s r
  { len := r.params.length == 16,
    checks := [chk (isNode (par r 0 2)) 0, chk (decide (par r 2 2 ≤ 0xFFFE)) 2, chk (decide (par r 4 2 < 4096)) 4, chk (rng 1 64 (par r 6 1)) 6,
               chk (holds s g fun c => rng 1 (maxDepth c.rate c.n) (par r 7 1)) 7, chk (decide (par r 8 2 < 4096)) 8,
               chk (decide (par r 10 1 ≤ 8)) 10, chkZero r 11 5, chkRel (decide (par r 8 2 + par r 6 1 ≤ 4096)), chkRel (holds s g oneWriter),
               chkSt (holds s g fun c => decide (c.flowIn.length ≤ 4096)) TABLE_FULL],
    act := noAct }

def execFlowInSet (r : Req) (s : State) : Host.Outcome State Fault Refusal := .next (settle (execOp 0x0506 planFlowInSet r s))

/-- FLOW_IN_DELETE (10 R421). The entry named is that of SOURCE and FLOW together. -/
def planFlowInDelete (s : State) (r : Req) : Plan :=
  { len := r.params.length == 4,
    checks := [chk (isNode (par r 0 2)) 0, chk (decide (par r 2 2 < 4096)) 2,
               chkRel (thas (cfgAt s [] (judgedDue s (stagedOf s r))).flowIn (flowKey (par r 0 2) (par r 2 2)))],
    act := noAct }

def execFlowInDelete (r : Req) (s : State) : Host.Outcome State Fault Refusal := .next (settle (execOp 0x0507 planFlowInDelete r s))

/-- One record of FLOW_GET_STATUS (10 R420). -/
def flowRecord (s : State) (key : Nat) (f : FlowIn) : List Byte :=
  let x := tgetD s.links.flows key {}
  let l := [x.pres, x.late, x.early, x.dup, x.stby, x.malf, x.conc, x.zero]
  toBE 2 f.source ++ toBE 2 f.flow ++ toBE 1 x.state ++ toBE 1 0 ++ l.flatMap (fun c => toBE 2 c.n) ++ toBES 4 (x.arrMax.getD 0)
    ++ toBE 1 (ofBits ((List.range 8).filter fun i => (l.getD i {}).sat)) ++ zeroBytes 5

/-- FLOW_GET_STATUS (10 R420): the entries stand in ascending order of SOURCE and FLOW; FIRST and COUNT are two bytes each (DEDUCED,
log entry 26). -/
def planFlowGetStatus (_ : State) (r : Req) : Plan :=
  { len := r.params.length == 4, checks := [chk (decide (par r 0 2 < 4096)) 0, chk (rng 1 64 (par r 2 2)) 2],
    act := give fun s => ((s.pipe.live.flowIn.drop (par r 0 2)).take (par r 2 2)).flatMap fun f => flowRecord s f.1 f.2 }

def execFlowGetStatus (r : Req) (s : State) : Host.Outcome State Fault Refusal := .next (settle (execOp 0x0508 planFlowGetStatus r s))

/-! ## Groups, directory, rings -/

/-- GROUP_SET (10 R400, R421, R422). -/
def planGroupSet (s : State) (r : Req) : Plan :=
  let g := par r 0 2
  { len := r.params.length == 8,
    checks := [chk (g != 0xFFFF) 0, chk (decide (par r 2 1 < 2)) 2, chk (decide (par r 3 1 < 16)) 3, chk (decide (par r 4 1 < 16)) 4, chkZero r 5 3,
               chkSt (thas s.links.groups g || decide (s.links.groups.length < 1024)) TABLE_FULL],
    act := act fun s => { s with links := { s.links with
      groups := tset s.links.groups g { isLocal := bit (par r 2 1) 0, ports := par r 3 1, protect := par r 4 1 } } } }

def execGroupSet (r : Req) (s : State) : Host.Outcome State Fault Refusal := .next (settle (execOp 0x0509 planGroupSet r s))

/-- The live configuration and what it becomes at every pending boundary. -/
def everCfgs (s : State) : List Cfg := s.pipe.live :: s.gate.staged.map fun g => cfgAt s [] (judgedDue s g)

/-- GROUP_DELETE (10 R422): a group that an outbound flow names, live or staged, stays. -/
def planGroupDelete (s : State) (r : Req) : Plan :=
  let g := par r 0 2
  { len := r.params.length == 4,
    checks := [chk (thas s.links.groups g) 0, chkZero r 2 2,
               chkRel ((everCfgs s).all fun c => c.flowOut.all fun f => !(f.2.kind == 2 && f.2.target == g))],
    act := act fun s => { s with links := { s.links with groups := tdel s.links.groups g } } }

def execGroupDelete (r : Req) (s : State) : Host.Outcome State Fault Refusal := .next (settle (execOp 0x050A planGroupDelete r s))

/-- The best and the next best port of a directory entry by the hops heard per port (10 R399). -/
def dirRoutes (e : DirEnt) : DirEnt :=
  let better := fun (x y : Nat × Nat) => decide (x.2 < y.2) || (x.2 == y.2 && decide (x.1 < y.1))
  match bestBy better e.ports with
  | none => e
  | some p =>
    match bestBy better (tdel e.ports p.1) with
    | none => { e with prim := p.1, primH := p.2, alt := 0xFF, altH := 0 }
    | some q => { e with prim := p.1, primH := p.2, alt := q.1, altH := q.2 }

/-- DIR_SET (10 R399, R421, R422). An entry released before any Announce was heard goes. Its HOPS are the primary's; the alternate of a
pinned entry counts zero hops in the choice of port of 05 R232 (DESIGN CHOICE, log entry 67). -/
def planDirSet (s : State) (r : Req) : Plan :=
  let v := par r 0 2
  let pin := bit (par r 2 1) 0
  { len := r.params.length == 8,
    checks := [chk (isNode v && (pin || thas s.links.dir v)) 0, chk (decide (par r 2 1 < 2)) 2, chk (decide (par r 3 1 < 4)) 3,
               chk (decide (par r 4 1 < 4) || par r 4 1 == 0xFF) 4, chk (decide (1 ≤ par r 5 1)) 5, chkZero r 6 2,
               chkSt (!pin || decide (s.links.dir.length < 4096)) TABLE_FULL],
    act := act fun s =>
      let e := tgetD s.links.dir v {}
      let dir := if pin then tset s.links.dir v { e with pinned := true, prim := par r 3 1, primH := par r 5 1, alt := par r 4 1, altH := 0 }
        else if e.ports.isEmpty then tdel s.links.dir v else tset s.links.dir v (dirRoutes { e with pinned := false })
      { s with links := { s.links with dir := dir } } }

def execDirSet (r : Req) (s : State) : Host.Outcome State Fault Refusal := .next (settle (execOp 0x050B planDirSet r s))

/-- One record of DIR_GET (10 R424). Hops beyond one byte read 255 (DESIGN CHOICE, log entry 55). -/
def dirRecord (v : Nat) (e : DirEnt) : List Byte :=
  toBE 2 v ++ toBE 1 e.prim ++ toBE 1 (min 255 e.primH) ++ toBE 1 e.alt ++ toBE 1 (min 255 e.altH) ++ toBE 1 (b2n e.pinned + 2 * b2n e.learnt) ++ toBE 1 0 ++ toBE 8 e.die

/-- DIR_GET (10 R424). -/
def planDirGet (_ : State) (r : Req) : Plan :=
  { len := r.params.length == 4, checks := [chk (rng 1 255 (par r 2 2)) 2],
    act := give fun s => ((s.links.dir.filter fun e => decide (par r 0 2 ≤ e.1)).take (par r 2 2)).flatMap fun e => dirRecord e.1 e.2 }

def execDirGet (r : Req) (s : State) : Host.Outcome State Fault Refusal := .next (settle (execOp 0x050C planDirGet r s))

/-- A ring's ports become Normal, with no segment lost (10 R401). -/
def ringNormal (r : Ring) (s : State) : State :=
  let n := fun (l : LinkSt) => { l with ringProt := false, lost := false }
  if r.enabled then modLink r.portA n (modLink r.portB n s) else s

/-- RING_SET (10 R421, R422). A ring that is set again starts Normal, and so do its ports and those it leaves. -/
def planRingSet (s : State) (r : Req) : Plan :=
  let i := par r 0 1
  let a := par r 2 1
  let b := par r 3 1
  let o := tgetD s.links.rings (1 - i) {}
  { len := r.params.length == 8,
    checks := [chk (decide (i < 2)) 0, chk (decide (par r 1 1 < 2)) 1, chk (decide (a < 4)) 2, chk (decide (b < 4)) 3, chk (rng 1 600 (par r 4 2)) 4,
               chkZero r 6 2, chkRel (a != b), chkRel (!(o.enabled && [o.portA, o.portB].any fun p => p == a || p == b))],
    act := act fun s =>
      let n : Ring := { enabled := bit (par r 1 1) 0, portA := a, portB := b, wtr := par r 4 2 }
      let s := ringNormal n (ringNormal (tgetD s.links.rings i {}) s)
      { s with links := { s.links with rings := tset s.links.rings i n } } }

def execRingSet (r : Req) (s : State) : Host.Outcome State Fault Refusal := .next (settle (execOp 0x050D planRingSet r s))

/-! ## Audio over IP -/

/-- Whether a receiver may have an address: that of its port, where the port has one, or a multicast group (10 R426). -/
def groupOk (own group : Nat) : Bool := (own != 0 && group == own) || rng 224 239 (group / 2 ^ 24)

/-- The checks that senders and receivers share, `addr` being that of the address (10 R407, R408, R426). -/
def aoipChecks (s : State) (r : Req) (addr : Bool) : List (Bool × Nat × Nat) × List (Bool × Nat × Nat) :=
  let ch := par r 2 1
  let pt := par r 6 2
  let g := stagedOf s r
  ([chk (decide (par r 0 1 < 128)) 0, chk (decide (par r 1 1 < 4)) 1, chk (rng 1 64 ch) 2, chk (decide (par r 3 1 < 4)) 3,
    chk (decide (par r 4 2 < 4096)) 4, chk (decide (1 ≤ pt)) 6, chk addr 8, chk (decide (1024 ≤ par r 12 2)) 12, chk (rng 96 127 (par r 14 1)) 14],
   [chkRel (decide (par r 4 2 + ch ≤ 4096)), chkRel (decide (ch * pt * (if bit (par r 1 1) 1 then 3 else 2) ≤ 1460)),
    chkRel (holds s g fun c => pt % c.n == 0 && (!bit (par r 1 1) 0 || c.rate == 1 || c.rate == 3))])

/-- AOIP_SENDER_SET (10 R426). -/
def planAoipSenderSet (s : State) (r : Req) : Plan :=
  let x := aoipChecks s r true
  { len := r.params.length == 24,
    checks := x.1 ++ [chk (decide (1 ≤ par r 15 1)) 15, chk (decide (par r 20 1 < 64)) 20, chkZero r 21 3] ++ x.2,
    act := noAct }

def execAoipSenderSet (r : Req) (s : State) : Host.Outcome State Fault Refusal := .next (settle (execOp 0x0510 planAoipSenderSet r s))

/-- AOIP_RECEIVER_SET (10 R410, R426). -/
def planAoipReceiverSet (s : State) (r : Req) : Plan :=
  let x := aoipChecks s r (holds s (stagedOf s r) fun c => groupOk (tgetD c.links (par r 3 1) {}).ip (par r 8 4))
  { len := r.params.length == 24,
    checks := x.1 ++ [chk (decide (par r 15 1 ≤ 8)) 15, chk (rng 125 10000 (par r 20 4)) 20] ++ x.2 ++ [chkRel (holds s (stagedOf s r) oneWriter)],
    act := noAct }

def execAoipReceiverSet (r : Req) (s : State) : Host.Outcome State Fault Refusal := .next (settle (execOp 0x0511 planAoipReceiverSet r s))

/-- One record of AOIP_GET_STATUS (10 R426). -/
def aoipRecord (s : State) (rx : Bool) (i : Nat) : List Byte :=
  let c := tgetD (if rx then s.pipe.live.aoRx else s.pipe.live.aoTx) i {}
  let x := tgetD (if rx then s.links.aoRx else s.links.aoTx) i {}
  let st := if !bit c.flags 0 then 0 else if rx && !x.got then 2 else if rx && decide (0 < x.conc) then 3 else 1
  toBE 1 i ++ toBE 1 st ++ zeroBytes 2 ++ toBE 4 x.count.n ++ toBE 2 x.late.n ++ toBE 2 x.lost.n ++ toBE 2 x.oos.n
    ++ toBE 1 (b2n x.late.sat + 2 * b2n x.lost.sat + 4 * b2n x.oos.sat) ++ toBE 1 0

/-- AOIP_GET_STATUS (10 R426). -/
def planAoipGetStatus (_ : State) (r : Req) : Plan :=
  let f := par r 1 1
  let n := par r 2 1
  { len := r.params.length == 4,
    checks := [chk (decide (par r 0 1 < 2)) 0, chk (decide (f < 128)) 1, chk (rng 1 128 n) 2, chkZero r 3 1, chkRel (decide (f + n ≤ 128))],
    act := give fun s => (List.range n).flatMap fun i => aoipRecord s (par r 0 1 == 1) (f + i) }

def execAoipGetStatus (r : Req) (s : State) : Host.Outcome State Fault Refusal := .next (settle (execOp 0x0512 planAoipGetStatus r s))

/-! ## MG and the Array Links -/

/-- Whether a MAC address is unicast. -/
def unicast (m : Nat) : Bool := !bit m 40

/-- MG_CONFIG (10 R425). -/
def planMgConfig (_ : State) (r : Req) : Plan :=
  { len := r.params.length == 20,
    checks := [chk (decide (par r 0 1 < 4)) 0, chk (rng 8 30 (par r 1 1)) 1, chk (rng 1 1000 (par r 2 2)) 2, chk (unicast (par r 12 6)) 12, chkZero r 18 2],
    act := act fun s => { s with links := { s.links with mg := { s.links.mg with
      flags := par r 0 1, plen := par r 1 1, limit := par r 2 2, ip := par r 4 4, gw := par r 8 4, mac := par r 12 6 } } } }

def execMgConfig (r : Req) (s : State) : Host.Outcome State Fault Refusal := .next (settle (execOp 0x0520 planMgConfig r s))

/-- MG_SET_WAKE (10 R414, R425). -/
def planMgSetWake (_ : State) (r : Req) : Plan :=
  { len := r.params.length == 20, checks := [chk (decide (par r 0 1 < 8)) 0, chk (decide (par r 1 1 < 2)) 1],
    act := act fun s => { s with links := { s.links with mg := { s.links.mg with
      wake := tset s.links.mg.wake (par r 0 1) (bit (par r 1 1) 0, par r 2 2, le r.params 4 16) } } } }

def execMgSetWake (r : Req) (s : State) : Host.Outcome State Fault Refusal := .next (settle (execOp 0x0521 planMgSetWake r s))

/-- AL_CONFIG (10 R415, R425): a port that becomes PLCA coordinator begins to send the beacon. -/
def planAlConfig (_ : State) (r : Req) : Plan :=
  let plca := bit (par r 1 1) 1
  { len := r.params.length == 16,
    checks := [chk (decide (par r 0 1 < 2)) 0, chk (decide (par r 1 1 < 4)) 1, chk (decide (par r 2 1 ≤ 254)) 2, chk (rng 8 30 (par r 8 1)) 8, chkZero r 9 1,
               chk (unicast (par r 10 6)) 10, chkRel (if plca then decide (1 ≤ par r 3 1) else par r 2 1 == 0 && par r 3 1 == 0)],
    act := act fun s => alBeacon (par r 0 1) (modAl (par r 0 1) (fun a => { a with
      flags := par r 1 1, plcaId := par r 2 1, plcaN := par r 3 1, ip := par r 4 4, plen := par r 8 1, mac := par r 10 6, fell := false }) s) }

def execAlConfig (r : Req) (s : State) : Host.Outcome State Fault Refusal := .next (settle (execOp 0x0530 planAlConfig r s))

/-- AL_FRAME_TX (10 R416, R425): the port appends the FCS; a disabled port sends nothing. -/
def planAlFrameTx (_ : State) (r : Req) : Plan :=
  let p := par r 0 1
  { len := rng 64 1518 r.params.length,
    checks := [chk (decide (p < 2)) 0, chkZero r 1 1, chk (rng 60 1514 (par r 2 2)) 2, chkRel (r.params.length == 4 + par r 2 2)],
    act := act fun s =>
      if bit (alAt s p).flags 0 then alSend p { kind := .eth, a := 1 + p, bytes := withFcs true (r.params.drop 4) } s else s }

def execAlFrameTx (r : Req) (s : State) : Host.Outcome State Fault Refusal := .next (settle (execOp 0x0531 planAlFrameTx r s))

/-- The frames at the head of a queue that fit in `room` bytes, each behind its length. -/
def takeFrames : Nat → List (List Byte) → List (List Byte) × List (List Byte)
  | _, [] => ([], [])
  | room, f :: r => if f.length + 2 ≤ room then let x := takeFrames (room - f.length - 2) r; (f :: x.1, x.2) else ([], f :: r)

/-- AL_FRAME_RX (10 R416, R425): the payload holds 4096 bytes, on the link control channel 1440 (13 R516). -/
def planAlFrameRx (_ : State) (r : Req) : Plan :=
  let p := par r 0 1
  { len := r.params.length == 4, checks := [chk (decide (p < 2)) 0, chkZero r 1 3],
    act := fun s =>
      let a := alAt s p
      let x := takeFrames ((if r.src = .link then 1440 else 4096) - 4) a.queue
      { payload := toBE 1 x.1.length ++ toBE 1 (b2n a.ovf.sat) ++ toBE 2 a.ovf.n ++ x.1.flatMap (fun f => toBE 2 f.length ++ f),
        st := modAl p (fun a => { a with queue := x.2 }) s } }

def execAlFrameRx (r : Req) (s : State) : Host.Outcome State Fault Refusal := .next (settle (execOp 0x0532 planAlFrameRx r s))

/-- AL_GET_STATUS (10 R425). -/
def planAlGetStatus (_ : State) (r : Req) : Plan :=
  { len := r.params.length == 4, checks := [chk (decide (par r 0 1 < 2)) 0, chkZero r 1 3],
    act := give fun s =>
      let a := alAt s (par r 0 1)
      let l := [a.sent, a.recv, a.coll, a.drop, a.beacon, a.ovf]
      toBE 1 (par r 0 1) ++ toBE 1 (if !bit a.flags 0 then 0 else if !bit a.flags 1 then 1 else if a.fell then 3 else 2)
        ++ l.flatMap (fun c => toBE 2 c.n) ++ toBE 1 (ofBits ((List.range 6).filter fun i => (l.getD i {}).sat)) ++ toBE 1 0 }

def execAlGetStatus (r : Req) (s : State) : Host.Outcome State Fault Refusal := .next (settle (execOp 0x0533 planAlGetStatus r s))

/-- LINK_CLEAR (10 R417): link, flow, MG and AL counters and flags. -/
def planLinkClear (_ : State) (r : Req) : Plan :=
  { len := r.params.isEmpty,
    act := act fun s => { s with links := { s.links with
      ports := tmap (fun (x : LinkSt) => { x with badFcs := {}, hopLimit := {}, unknown := {}, noEntry := {}, portDown := {}, cutShort := {},
                                                  sent := {}, received := {}, annDrop := {} }) s.links.ports,
      flows := tmap (fun (x : FlowRx) => { x with pres := {}, late := {}, early := {}, dup := {}, stby := {}, malf := {}, conc := {}, zero := {} }) s.links.flows,
      mg := { s.links.mg with events := {} },
      al0 := { s.links.al0 with sent := {}, recv := {}, coll := {}, drop := {}, beacon := {}, ovf := {} },
      al1 := { s.links.al1 with sent := {}, recv := {}, coll := {}, drop := {}, beacon := {}, ovf := {} } } } }

def execLinkClear (r : Req) (s : State) : Host.Outcome State Fault Refusal := .next (settle (execOp 0x0540 planLinkClear r s))

end Sys2Proof.Machine
end

