-- ==== Sys2Proof/Machine/ClockOps.lean ====
section
/-! DEFINITION. The clean-up and time unit: candidate selection and holdover, and the clock and time commands (11 R432-R473). -/

namespace Sys2Proof.Machine

/-! ## Registers and history -/

/-- Sets bits of CLK_HIST, with the clock interrupt they may cause (11 R471, R472). -/
def setHist (m : Nat) (s : State) : State := msixFrom (intStat s) { s with clock := { s.clock with hist := s.clock.hist ||| m } }

/-- Clears bits of CLK_HIST. -/
def clearHist (m : Nat) (s : State) : State :=
  { s with clock := { s.clock with hist := ofBits ((bitList s.clock.hist 32).filter fun i => !bit m i) } }

/-- A reference candidate. -/
def candAt (s : State) (c : Nat) : Cand := tgetD s.clock.cands c {}

/-- Changes a candidate. -/
def modCand (c : Nat) (f : Cand → Cand) (s : State) : State := { s with clock := { s.clock with cands := tmod s.clock.cands c {} f } }

/-- CLK_STAT (11 R470). -/
def clkStat (s : State) : Nat :=
  let k := s.clock
  2 ^ 31 * b2n k.unset + 2 ^ 30 * b2n k.hoShort + 256 * ofBits ((List.range 13).filter fun c => (candAt s c).qual) + 16 * k.sel + k.state

/-! ## The local clock (11 R428, R429) -/

/-- The increment of a 250 MHz cycle, 4 ns x (1 + w x 10^-12), in 2^-48 ns; what lies below is dropped (DESIGN CHOICE, log entry 57). -/
def dcoInc (w : Int) : Nat := (4 * 2 ^ 48 * (10 ^ 12 + w) / 10 ^ 12).toNat

/-- The 32.32 increment applied in one cycle and the residue left: first-order noise shaping of the low 16 bits (11 R429). -/
def dcoStep (inc res : Nat) : Nat × Nat := ((inc + res) / 65536, (inc + res) % 65536)

/-- One 250 MHz cycle: what the clock holds beyond `now`, 32.32 with the residue below it. -/
def dcoCycle (k : Clock) : Clock :=
  let y := dcoStep (dcoInc k.w) (k.sub % 65536)
  { k with sub := (k.sub / 65536 + y.1) * 65536 + y.2, cycles := k.cycles + 1 }

/-- The 250 MHz cycles that take the local clock to time `t`, at once: as many as reach it (11 R428). The time of w is counted for its mean
(11 R445). -/
def clockTo (t : Nat) (k : Clock) : Clock :=
  let len := (t - k.now) * 2 ^ 48
  let inc := dcoInc k.w
  let n := (len - k.sub + inc - 1) / inc
  let d : Int := (t : Int) - k.now
  { k with now := t, sub := k.sub + n * inc - len, cycles := k.cycles + n, wSum := k.wSum + k.w * d, wNs := k.wNs + d }

/-! ## Selection (11 R438-R440, R445) -/

/-- Whether a candidate may be used: enabled and Qualified. -/
def usable (s : State) (c : Nat) : Bool := bit (candAt s c).cfg.flags 0 && (candAt s c).qual

/-- The Qualified candidate with the lowest PRIORITY, then the lowest code (11 R438). -/
def bestCand (s : State) : Option Nat :=
  bestBy (fun x y => decide ((candAt s x).cfg.prio < (candAt s y).cfg.prio)) ((List.range 13).filter (usable s))

/-- A quotient to the nearest whole number, ties away from zero. -/
def nearDiv (t n : Int) : Int := if 0 ≤ t then (2 * t + n) / (2 * n) else -((2 * (-t) + n) / (2 * n))

/-- The mean of a list of means, to the nearest ppt, ties away from zero; a list of none has none. -/
def meanOf (l : List Int) : Option Int := if l.isEmpty then none else some (nearDiv (l.foldl (· + ·) 0) l.length)

/-- Peak-to-peak spread of a list. -/
def spreadOf (l : List Int) : Nat :=
  match l with
  | [] => 0
  | x :: r => (r.foldl max x - r.foldl min x).toNat

/-- The means of the seconds from 70 s to 10 s before local time `t`; each second carries its end (11 R445). -/
def meansFor (k : Clock) (t : Nat) : List Int :=
  (k.means.filter fun x => decide (x.1 + 10000000000 ≤ t) && decide (t < x.1 + 70000000000)).map (·.2)

/-- w within the limit. -/
def clampW (limit : Nat) (w : Int) : Int := clampI (-(limit : Int)) limit w

/-- The servo's w, clamped to the limit; SLEW_LIMIT is set where the clamp acts (11 R443). -/
def setW (v : Int) (s : State) : State :=
  let w := clampW s.clock.limit v
  let s := { s with clock := { s.clock with w := w } }
  if w = v then s else setHist 0x800 s

/-- SELECTED, with SWITCH where it changes (11 R470, R471); Manual DCO and Free run are codes of it as well (11 R432). -/
def setSel (c : Nat) (s : State) : State := if s.clock.sel = c then s else setHist 0x2000 { s with clock := { s.clock with sel := c } }

/-- Enters Holdover: w is held at the mean of the recorded seconds (11 R445). SELECTED reads 0xF (DESIGN CHOICE, log entry 27). -/
def enterHoldover (s : State) : State :=
  let k := s.clock
  let l := meansFor k k.now
  let used := if l.isEmpty then (k.means.take 1).map (·.2) else l
  setW ((meanOf used).getD k.w) (setSel 0xF (setHist 0x4000 { s with
    clock := { k with state := 3, hoShort := decide (l.length < 60), spread := spreadOf used, hoFrom := some k.now, hoDone := false,
                      err := none, within := none } }))

/-- Enters Free run (11 R438, R439). -/
def enterFreeRun (s : State) : State :=
  setSel 0xF { s with clock := { s.clock with state := 0, w := s.clock.trim, hoFrom := none, err := none, within := none } }

/-- Selects a candidate; local time and w do not step (11 R440). -/
def selectCand (c : Nat) (s : State) : State :=
  if s.clock.sel = c ∧ s.clock.state ≠ 3 then s
  else
    setSel c (modCand c (fun k => { k with frame := none })
      { s with clock := { s.clock with state := 1, fresh := true, err := none, within := none, hoFrom := none, hoShort := false } })

/-- No candidate may be selected: Holdover after one that was Locked, else Free run (11 R439). -/
def noCand (s : State) : State :=
  if 13 ≤ s.clock.sel then (if s.clock.state = 3 then s else enterFreeRun s)
  else if (candAt s s.clock.sel).locked then enterHoldover s
  else enterFreeRun s

/-- Applies the selection mode to the candidates as they stand (11 R438). -/
def reselect (s : State) : State :=
  match s.clock.mode with
  | 0 => match bestCand s with | some c => selectCand c s | none => noCand s
  | 1 => if s.clock.sel < 13 && usable s s.clock.sel then s else match bestCand s with | some c => selectCand c s | none => noCand s
  | 2 => if usable s s.clock.forced then selectCand s.clock.forced s else noCand s
  | 3 => enterFreeRun s
  | _ => setSel 0xE { s with clock := { s.clock with state := 4, hoFrom := none, err := none, within := none } }

/-! ## Edges of the candidates -/

/-- A Qualified candidate is Rejected (11 R433, R439, R471): another is selected, or Holdover or Free run begins. -/
def rejectCand (c : Nat) (s : State) : State :=
  if (candAt s c).qual then reselect (setHist (2 ^ (16 + c)) (modCand c (fun k => { k with qual := false, good := 0 }) s)) else s

/-- Whether a candidate is enabled. -/
def candOn (s : State) (c : Nat) : Bool := decide (c ≤ 0xC) && bit (candAt s c).cfg.flags 0

/-- Whether every edge of a candidate is missing (11 R435): an AES11 candidate whose receiver is not locked, or is not flagged as a reference
candidate (09 R341), and a recovered link clock whose port has no PCS block lock. A port that the CRC-rate monitor took down keeps its lock;
one that is down otherwise counts as without it (DEDUCED, log entry 68). A Plane reset, which leaves the candidates running (11 R475), takes no edge
away. -/
def edgesOut (s : State) (c : Nat) : Bool :=
  if 4 ≤ c ∧ c < 8 then
    !(bit (tgetD s.pipe.live.ae (c - 4) {}).flags 3 && (tgetD s.ports.ae (c - 4) {}).lock)
  else if 9 ≤ c ∧ c ≤ 0xC then (linkSt s (c - 9)).state != 2 && (linkSt s (c - 9)).state != 4
  else false

/-- Frames of a video sequence at a sample rate (11 R442). -/
def seqLen (rate code : Nat) : Nat :=
  if rate % 2 = 1 then [1, 1, 1, 1, 5, 1, 1, 5, 1].getD code 1 else [1, 80, 2, 1, 100, 1, 1, 200, 1].getD code 1

/-- `n` more pulses of a candidate are due: a video sequence in progress counts them, whether they come or not (11 R442). -/
def dueEdges (rate n : Nat) (k : Cand) : Cand := { k with frame := k.frame.map fun f => (f + n) % seqLen rate k.cfg.nominal }

/-- `n` more missing edges of a candidate: it is Rejected once MISS_EDGES in a row are missing (11 R433). -/
def missEdges (c n : Nat) (s : State) : State :=
  let s := modCand c (fun k => { dueEdges (rate s) n k with missed := k.missed + n, good := 0 }) s
  if (candAt s c).cfg.missE ≤ (candAt s c).missed then rejectCand c s else s

/-- A missing edge of a candidate; with `first`, an edge came since the one missed before (11 R432, R433). An edge of a receiver or port without
lock is noted, so that the tick's end does not count it again. -/
def missEdge (c : Nat) (first : Bool) (s : State) : State :=
  if !candOn s c then s
  else if edgesOut s c then missEdges c 1 (modCand c (fun k => { k with came := k.came + 1 }) s)
  else missEdges c 1 (if first then modCand c (fun k => { k with missed := 0 }) s else s)

/-- Edges of a candidate without lock in the tick that ends: one for each frame of an AES11 candidate, and those of a link clock at 10 kHz
(11 R432, R435). -/
def tickEdges (s : State) (c : Nat) : Nat :=
  if c < 8 then tickN s else (s.clock.now + tickLen s) / 100000 - s.clock.now / 100000

/-- At the end of a tick: every edge of a candidate without lock counts as missing (11 R435). -/
def countEdges (s : State) : State :=
  let out := ([4, 5, 6, 7, 9, 10, 11, 12] : List Nat).filter fun c => candOn s c && edgesOut s c
  let s := out.foldl (fun t c => missEdges c (tickEdges t c - (candAt t c).came) t) s
  { s with clock := { s.clock with cands := tmap (fun (k : Cand) => { k with came := 0 }) s.clock.cands } }

/-- Edges of a candidate cease after `came` more of the current tick (11 R435). -/
def edgesStop (c came : Nat) (s : State) : State :=
  if candOn s c then modCand c (fun k => { k with came := came, good := 0, missed := 0 }) s else s

/-- Edges of a candidate come again (11 R435). -/
def edgesBack (c : Nat) (s : State) : State := if edgesOut s c then s else modCand c (fun k => { k with missed := 0 }) s

/-! ## Candidate and selection commands -/

/-- The CLK_SET_REF block (11 R436). -/
def refOf (r : Req) : RefCfg :=
  { flags := par r 1 1, prio := par r 2 1, type := par r 3 1, nominal := par r 4 4, phaseOff := parS r 8 4, accPpm := par r 12 1,
    rejPpm := par r 13 1, accS := par r 14 1, missE := par r 15 1, stampDiv := par r 16 4 }

/-- Whether NOMINAL suits TYPE (11 R436). -/
def nominalOk (ty v : Nat) : Bool := if ty = 1 then rng 8000 192000 v else if ty = 2 then rng 1 8 v else v == 0

/-- CLK_SET_REF (11 R436, R437). -/
def planClkSetRef (s : State) (r : Req) : Plan :=
  let c := par r 0 1
  let f := par r 1 1
  let ty := par r 3 1
  let refin := decide (c < 4)
  { len := r.params.length == 20,
    checks := [chk (decide (c ≤ 0xC)) 0, chk (decide (f < 16)) 1, chk (rng 1 15 (par r 2 1)) 2, chk (decide (ty ≤ 3)) 3,
               chk (decide (-500000000 ≤ parS r 8 4) && decide (parS r 8 4 ≤ 500000000)) 8, chk (rng 1 100 (par r 12 1)) 12,
               chk (decide (2 ≤ par r 13 1)) 13, chk (rng 1 60 (par r 14 1)) 14, chk (rng 1 16 (par r 15 1)) 15, chk (decide (par r 16 4 ≤ 16777216)) 16,
               chkRel (refin == decide (1 ≤ ty)), chkRel (refin || (!bit f 1 && !bit f 3)), chkRel (nominalOk ty (par r 4 4)),
               chkRel (decide (par r 12 1 < par r 13 1)), chkRel (bit f 3 == decide (1 ≤ par r 16 4)),
               chkRel (!(bit f 2 && (ty == 3 || decide (9 ≤ c)))), chkRel (!(bit f 2 && ty == 2 && decide (5 < seqLen (rate s) (par r 4 4))))],
    act := act fun s => reselect (modCand c (fun k => { k with cfg := refOf r, qual := false, ppb := none, missed := 0, good := 0, edges := 0, frame := none }) s) }

def execClkSetRef (r : Req) (s : State) : Host.Outcome State Fault Refusal := .next (settle (execOp 0x0601 planClkSetRef r s))

/-- CLK_SET_SELECT (11 R438, R440, R443). -/
def planClkSetSelect (_ : State) (r : Req) : Plan :=
  let l := par r 4 4
  { len := r.params.length == 16,
    checks := [chk (decide (par r 0 1 < 5)) 0, chk (decide (par r 1 1 ≤ 0xC)) 1, chkZero r 2 2, chk (rng 1000000 500000000 l) 4,
               chk (rng 100 10000000 (par r 12 4)) 12, chkRel (par r 0 1 == 2 || par r 1 1 == 0),
               chkRel (clampW l (parS r 8 4) == parS r 8 4)],
    act := act fun s => reselect (setW s.clock.w { s with clock := { s.clock with
      mode := par r 0 1, forced := par r 1 1, limit := l, trim := parS r 8 4, jump := par r 12 4 } }) }

def execClkSetSelect (r : Req) (s : State) : Host.Outcome State Fault Refusal := .next (settle (execOp 0x0602 planClkSetSelect r s))

/-- CLK_SET_DCO (11 R440). -/
def planClkSetDco (s : State) (r : Req) : Plan :=
  let w := parS r 0 4
  { len := r.params.length == 4, checks := [chk (clampW s.clock.limit w == w) 0, chkRel (s.clock.mode == 4)],
    act := act fun s => { s with clock := { s.clock with w := w } } }

def execClkSetDco (r : Req) (s : State) : Host.Outcome State Fault Refusal := .next (settle (execOp 0x0603 planClkSetDco r s))

/-- CLK_SET_HOLDOVER (11 R447). -/
def planClkSetHoldover (_ : State) (r : Req) : Plan :=
  { len := r.params.length == 12,
    checks := [chk (decide (par r 0 4 ≤ 1000000)) 0, chk (decide (par r 4 4 ≤ 1000000)) 4, chk (rng 10 1000000000 (par r 8 4)) 8],
    act := act fun s => { s with clock := { s.clock with hoUnc := par r 0 4, hoAge := par r 4 4, hoLim := par r 8 4 } } }

def execClkSetHoldover (r : Req) (s : State) : Host.Outcome State Fault Refusal := .next (settle (execOp 0x0604 planClkSetHoldover r s))

/-- The holdover timer X in ns, rounded down (11 R447): half a ppt of spread and 0.001 ppt/s of ageing, over whole ns of time. -/
def holdoverX (s : State) : Nat :=
  match s.clock.hoFrom with
  | none => 0
  | some t0 =>
    let t := s.clock.now - t0
    ((2 * s.clock.hoUnc + s.clock.spread) * t * 1000 * 1000000000 + s.clock.hoAge * t * t) / (2 * 10 ^ 12 * 1000 * 1000000000)

/-- CLK_GET_STATUS (11 R473): CLK_STAT, CLK_HIST, w, the thirteen candidates' frequency readings in ppb, 32 bits each, the missing edges in a row that
their activity monitors count, 16 bits each, and the holdover timer in ns, 32 bits (the layout is DESIGN CHOICE, log entry 28). -/
def planClkGetStatus : State → Req → Plan := readPlan fun s =>
  toBE 4 (clkStat s) ++ toBE 4 s.clock.hist ++ toBES 4 s.clock.w ++ (List.range 13).flatMap (fun c => toBES 4 ((candAt s c).ppb.getD 0))
    ++ (List.range 13).flatMap (fun c => toBE 2 (min 0xFFFF (candAt s c).missed))
    ++ toBE 4 (min 0xFFFFFFFF (holdoverX s))

def execClkGetStatus (r : Req) (s : State) : Host.Outcome State Fault Refusal := .next (settle (execOp 0x0605 planClkGetStatus r s))

/-- CLK_CLEAR_HIST (11 R471, R473). -/
def planClkClearHist (_ : State) (r : Req) : Plan := { len := r.params.length == 4, act := act (clearHist (par r 0 4)) }

def execClkClearHist (r : Req) (s : State) : Host.Outcome State Fault Refusal := .next (settle (execOp 0x0606 planClkClearHist r s))

/-! ## PTP -/

/-- The default intervals of a profile (11 R448). -/
def ptpDefault (profile : Nat) : Int × Int × Int := match profile with | 1 => (-2, -3, -3) | 2 => (1, -3, -3) | _ => (1, 0, 0)

/-- An interval as configured: 0x7F selects the default. -/
def ptpLog (v : Nat) (d : Int) : Int := if v = 0x7F then d else signed 8 v

/-- Whether the intervals lie in the ranges of the profile (11 R450). -/
def ptpRanges (r : Req) : Bool :=
  let p := par r 0 1
  let d := ptpDefault p
  let a := ptpLog (par r 6 1) d.1
  let y := ptpLog (par r 7 1) d.2.1
  let q := ptpLog (par r 8 1) d.2.2
  let r := fun (lo hi v : Int) => decide (lo ≤ v) && decide (v ≤ hi)
  if p = 1 then r (-3) 1 a && r (-7) (-1) y && r y (y + 5) q
  else if p = 2 then r 0 4 a && r (-4) 1 y && r (-3) 5 q
  else r 0 4 a && r (-1) 1 y && r 0 5 q

/-- PTP_CONFIG (11 R448-R450). The clock starts again from listening; a port that leaves SLAVE by it rejects the PTP candidate (11 R434). -/
def planPtpConfig (_ : State) (r : Req) : Plan :=
  let f := par r 2 1
  { len := r.params.length == 16,
    checks := [chk (rng 1 3 (par r 0 1)) 0, chk (decide (par r 1 1 ≤ 4)) 1, chk (decide (f < 8)) 2, chk (decide (par r 3 1 < 128)) 3,
               chk (par r 9 1 == 0 || rng 2 10 (par r 9 1)) 9, chkZero r 10 6, chkRel (ptpRanges r),
               chkRel (par r 1 1 != 4 || (bit f 1 && !bit f 2))],
    act := act fun s =>
      let t := { s with clock := { s.clock with ptp := { raw := r.params, state := 1, gm := s.clock.ptp.gm, seq := s.clock.ptp.seq } } }
      if s.clock.ptp.state = 3 then rejectCand 8 t else t }

def execPtpConfig (r : Req) (s : State) : Host.Outcome State Fault Refusal := .next (settle (execOp 0x0610 planPtpConfig r s))

/-- PTP_GET_STATUS (11 R473): the PTP_CONFIG block, the port state in byte 16, and grandmaster, offset and delay of 8 bytes each from
byte 24 on (the layout is DESIGN CHOICE, log entry 28). -/
def planPtpGetStatus : State → Req → Plan := readPlan fun s =>
  let p := s.clock.ptp
  fit 16 p.raw ++ toBE 1 p.state ++ zeroBytes 7 ++ toBE 8 p.gm ++ toBES 8 p.offset ++ toBES 8 p.delay

def execPtpGetStatus (r : Req) (s : State) : Host.Outcome State Fault Refusal := .next (settle (execOp 0x0611 planPtpGetStatus r s))

/-! ## PULSE outputs and timestamps -/

/-- Frame period of a video rate code, as a fraction of a second (11 R442, R459). -/
def videoPeriod (code : Nat) : Nat × Nat :=
  match code with
  | 1 => (1001, 24000) | 2 => (1, 24) | 3 => (1, 25) | 4 => (1001, 30000) | 5 => (1, 30) | 6 => (1, 50) | 7 => (1001, 60000) | _ => (1, 60)

/-- Period of the events of a source as a fraction of a second, where it has one (11 R459). -/
def pulsePeriod (s : State) (source code : Nat) : Option (Nat × Nat) :=
  match source with
  | 5 => some (1, 1)
  | 6 => some (videoPeriod code)
  | 7 => some (tickN s, rateHz (rate s))
  | 8 => some (1, rateHz (rate s))
  | 0 => none
  | 9 => none
  | n =>
    let c := (candAt s (n - 1)).cfg
    match c.type with
    | 1 => some (1, c.nominal)
    | 2 => some (videoPeriod c.nominal)
    | 3 => some (1, 10000000)
    | _ => none

/-- Whether a PULSE output has events that DIVIDE selects (11 R459, R462). -/
def pulseCounts (p : Pulse) : Bool := bit p.flags 0 && decide (1 ≤ p.source) && decide (p.source ≤ 8)

/-- A PULSE_CONFIG takes effect at its first selected event; one that has no such event does at once (11 R462; DEDUCED, log entry 59). -/
def setPulse (i : Nat) (p : Pulse) (s : State) : State :=
  if pulseCounts p then { s with clock := { s.clock with pulseNew := tset s.clock.pulseNew i (s.clock.now, p) } }
  else { s with clock := { s.clock with pulses := tset s.clock.pulses i p, pulseNew := tdel s.clock.pulseNew i } }

/-- PULSE_CONFIG (11 R459, R460, R462). -/
def planPulseConfig (s : State) (r : Req) : Plan :=
  let src := par r 1 1
  let f := par r 2 1
  let code := par r 3 1
  { len := r.params.length == 16,
    checks := [chk (decide (par r 0 1 < 4)) 0, chk (decide (src ≤ 9)) 1, chk (decide (f < 8)) 2, chk (decide (code ≤ 8)) 3,
               chk (rng 1 16777216 (par r 4 4)) 4, chk (decide (-500000000 ≤ parS r 8 4) && decide (parS r 8 4 ≤ 500000000)) 8,
               chk (rng 10 500000000 (par r 12 4)) 12, chkRel ((src == 6) == decide (1 ≤ code)),
               chkRel (!bit f 2 || (src == 6 && (code == 4 || code == 7))),
               chkRel (match pulsePeriod s src code with
                 | some p => decide (par r 12 4 * p.2 < par r 4 4 * p.1 * 1000000000)
                 | none => true)],
    act := act (setPulse (par r 0 1)
      { source := src, flags := f, rate := code, divide := par r 4 4, offset := parS r 8 4, width := par r 12 4 }) }

def execPulseConfig (r : Req) (s : State) : Host.Outcome State Fault Refusal := .next (settle (execOp 0x0620 planPulseConfig r s))

/-- TIME_GET_STAMPS (11 R463). -/
def planTimeGetStamps (_ : State) (r : Req) : Plan :=
  let i := par r 0 1
  { len := r.params.length == 1, checks := [chk (decide (i < 4)) 0],
    act := fun s => { payload := (candAt s i).stamps.flatMap timeBytes, st := modCand i (fun k => { k with stamps := [] }) s } }

def execTimeGetStamps (r : Req) (s : State) : Host.Outcome State Fault Refusal := .next (settle (execOp 0x0643 planTimeGetStamps r s))

/-! ## The Almanac -/

/-- The START of an ALMANAC_SET: a PTP time in ns or a Calendar count (11 R465). -/
def almStart (r : Req) : Nat := if bit (par r 2 1) 0 then par r 8 6 else par r 4 6 * 1000000000 + par r 10 4

/-- Whether a START has passed. -/
def almPassed (s : State) (tick : Bool) (v : Nat) : Bool := if tick then decide (v ≤ cal s) else decide (v ≤ s.clock.now)

/-- ALMANAC_SET (11 R465, R466, R468, R469). -/
def planAlmanacSet (s : State) (r : Req) : Plan :=
  let e := par r 0 1
  let a := par r 1 1
  let tick := bit (par r 2 1) 0
  let per := par r 16 8
  let old := tgetD s.clock.alm e {}
  { len := r.params.length == 32,
    checks := [chk (decide (e < 32)) 0, chk (decide (a < 5)) 1, chk (decide (par r 2 1 < 2)) 2, chkZero r 3 1,
               chk (if tick then par r 4 4 == 0 else decide (par r 10 4 < 1000000000)) 4, chkZero r 14 2,
               chkRel (!(a == 1 && decide (4 ≤ par r 28 4)) && !(a == 2 && decide (16 ≤ par r 28 4))),
               chkRel (tick || per == 0 || !((a == 2 || a == 3) && decide (per * rateHz (rate s) < tickN s * 1000000000))),
               chkRel (tick || per == 0 || a != 1 || decide (1000 ≤ per)),
               chkSt (a == old.action || !(s.gate.staged.any fun g => g.alm == some e)) BUSY],
    act := act fun s =>
      let x : Alm :=
        { raw := r.params, action := a, tick := tick, start := almStart r, period := per, count := par r 24 4, arg := par r 28 4,
          left := par r 24 4, next := if a = 0 then none else some (almStart r), late := a != 0 && almPassed s tick (almStart r) }
      { s with clock := { s.clock with alm := tset s.clock.alm e x } } }

def execAlmanacSet (r : Req) (s : State) : Host.Outcome State Fault Refusal := .next (settle (execOp 0x0630 planAlmanacSet r s))

/-- ALMANAC_GET (11 R469): all 32 entries of 42 bytes; an entry never written shows its number and zeros. -/
def planAlmanacGet : State → Req → Plan := readPlan fun s => (List.range 32).flatMap fun i =>
  let e := tgetD s.clock.alm i {}
  (if e.raw.isEmpty then fit 32 (toBE 1 i) else e.raw) ++ toBE 4 e.left ++ toBE 6 e.last

def execAlmanacGet (r : Req) (s : State) : Host.Outcome State Fault Refusal := .next (settle (execOp 0x0631 planAlmanacGet r s))

/-! ## Time -/

/-- TIME_GET (11 R458). -/
def planTimeGet : State → Req → Plan := readPlan fun s =>
  timeBytes s.clock.now ++ toBE 6 (cal s) ++ toBES 10 s.clock.epoch ++ toBES 4 s.clock.w ++ toBES 4 (s.clock.phase.getD 0)

def execTimeGet (r : Req) (s : State) : Host.Outcome State Fault Refusal := .next (settle (execOp 0x0640 planTimeGet r s))

/-- TIME_STEP (11 R453). -/
def planTimeStep (_ : State) (r : Req) : Plan :=
  { len := r.params.length == 10,
    checks := [chk (decide (-(10 ^ 18 : Int) ≤ parS r 0 10) && decide (parS r 0 10 ≤ (10 ^ 18 : Int))) 0],
    act := noAct }

def execTimeStep (r : Req) (s : State) : Host.Outcome State Fault Refusal := .next (settle (execOp 0x0641 planTimeStep r s))

/-- The first tick under a new EPOCH that is bound at `t` (11 R457): the first whose start falls at or after the start of tick `t`
under the old one. -/
def epochFirst (s : State) (new : Int) (t : Nat) : Int :=
  let num := (s.clock.epoch - new) * rateHz (rate s)
  let den : Int := tickN s * 1000000000
  t + -((-num) / den)

/-- TIME_SET_EPOCH (11 R457). -/
def planTimeSetEpoch (s : State) (r : Req) : Plan :=
  let t := judgedDue s (stagedOf s r)
  { len := r.params.length == 10, checks := [chkRel (decide ((t : Int) ≤ epochFirst s (parS r 0 10) t))], act := noAct }

def execTimeSetEpoch (r : Req) (s : State) : Host.Outcome State Fault Refusal := .next (settle (execOp 0x0642 planTimeSetEpoch r s))

end Sys2Proof.Machine
end

