-- ==== Sys2Proof/Machine/MemOps.lean ====
section
/-! DEFINITION. Heath banks and their registers, LPDDR5X registers, the line allocator, and the memory operations
(08 R291-R303, R310-R324). -/

namespace Sys2Proof.Machine

/-! ## Banks -/

/-- Whether a 64-bit word address lies in a bank. -/
def inBank (n w : Nat) : Bool := decide (heathBase n ≤ 8 * w) && decide (8 * w < heathBase (n + 1))

/-- Words of a bank now marked poisoned (08 R303). -/
def poisonCount (s : State) (n : Nat) : Nat := (s.mem.poison.filter (inBank n)).length

/-- HEATH_CTRL_n, HEATH_STAT_n, HEATH_ECC_n and HEATH_POISON_n (08 R300-R303). -/
def heathRegs (s : State) (n : Nat) : List Nat :=
  let b := bankAt s n
  [128 * b2n b.retain + b.policy, 512 * b2n b.ceSat + 256 * b2n b.ueSat + b.pstate, 65536 * b.ue + b.ce, poisonCount s n]

/-- DRAM_STAT, DRAM_ECC and DRAM_POISON (08 R310-R312). -/
def dramRegs (s : State) : List Nat :=
  let m := s.mem
  [8 * b2n m.warmExit + 4 * b2n m.zeroing + 2 * b2n m.selfRef + b2n m.ready, 65536 * m.dramUe + m.dramCe,
   2 ^ 31 * b2n m.dramOvf + 2 ^ 30 * b2n m.dramUeSat + 2 ^ 29 * b2n m.dramCeSat + m.dramTab.length]

/-- The contents of a bank are lost and its poison array cleared (08 R293). -/
def bankLost (n : Nat) (s : State) : State :=
  let s := memClear (heathBase n) (heathBase (n + 1)) s
  { s with mem := { s.mem with poison := s.mem.poison.filter fun w => !inBank n w } }

/-- Whether a bank holds a code image or a journal of its Lea's chains, those that migrate there included, or swapped state (08 R294, R323;
04 R127, R171, 05 R211). -/
def bankHolds (s : State) (n : Nat) : Bool :=
  (s.eng.chains.any fun c => c.2.swap == some n || (c.2.engine != 0xFFFF && decide (n < 16) && c.2.engine / 12 == n))
    || s.place.migr.any fun m => m.bank == some n || (decide (n < 16) && m.dst / 12 == n)

/-- A bank enters Fallow: its contents are lost. -/
def bankOff (n : Nat) (s : State) : State := modBank n (fun b => { b with pstate := 0, waking := false }) (bankLost n s)

/-- A new POLICY and RETAIN_WARM for a bank (08 R294, R295, R300); an access that waits for it turns it on. H16 and H17 stay On and keep RETAIN_WARM clear. -/
def setBank (n policy : Nat) (retain : Bool) (s : State) : State :=
  let core := n == 16 || n == 17
  let s := modBank n (fun b => { b with policy := policy, retain := retain && !core }) s
  if core then s
  else if policy = 2 then bankOff n s
  else if policy = 1 ∨ s.fab.waiting.any (fun x => inBank n (x.addr / 8)) then bankOn n s
  else s

/-- `n` corrected errors of a bank (08 R302). -/
def countCe (bank k : Nat) (s : State) : State :=
  if k = 0 then s else
  modBank bank (fun b => { b with ce := min 0xFFFF (b.ce + k), ceSat := b.ceSat || decide (0xFFFF < b.ce + k) }) s

/-- One uncorrectable error of a bank: counted, with its fault (08 R291, R292, R302). Its local time is kept for 15 R594. -/
def countUe (id bank addr : Nat) (x : FAcc) (s : State) : State :=
  let s := modBank bank (fun b => { b with ue := min 0xFFFF (b.ue + 1), ueSat := b.ueSat || decide (0xFFFF < b.ue + 1),
                                           ueAt := (s.clock.now :: b.ueAt).take 4 }) s
  askTwice id (bankAt s bank).ueAt (raiseX id addr x false true s)

/-! ## MEM_GET_STATUS, HEATH_SET_POLICY, MEM_CLEAR_ECC -/

/-- MEM_GET_STATUS (08 R322). -/
def planMemGetStatus : State → Req → Plan := readPlan fun s =>
  ((List.range 20).flatMap (heathRegs s) ++ dramRegs s).flatMap (toBE 4)

def execMemGetStatus (r : Req) (s : State) : Host.Outcome State Fault Refusal := .next (settle (execOp 0x0130 planMemGetStatus r s))

/-- HEATH_SET_POLICY (08 R323). -/
def planHeathSetPolicy (s : State) (r : Req) : Plan :=
  let n := par r 0 1
  let v := par r 1 1
  { len := r.params.length == 4,
    checks := [chk (decide (n < 20)) 0, chk (bits v 6 2 == 0 && v % 4 != 3) 1, chkZero r 2 2,
               chkRel (!((n == 16 || n == 17) && (v % 4 == 2 || bit v 7))), chkSt (!(v % 4 == 2 && bankHolds s n)) BUSY],
    act := act fun s => setBank n (v % 4) (bit v 7) s }

def execHeathSetPolicy (r : Req) (s : State) : Host.Outcome State Fault Refusal := .next (settle (execOp 0x0131 planHeathSetPolicy r s))

/-- MEM_CLEAR_ECC (08 R324). -/
def planMemClearEcc (_ : State) (r : Req) : Plan :=
  { len := r.params.isEmpty,
    act := act fun s => { s with mem := { s.mem with
      banks := tmap (fun (b : Bank) => { b with ce := 0, ue := 0, ceSat := false, ueSat := false }) s.mem.banks,
      dramCe := 0, dramUe := 0, dramOvf := false, dramCeSat := false, dramUeSat := false } } }

def execMemClearEcc (r : Req) (s : State) : Host.Outcome State Fault Refusal := .next (settle (execOp 0x0132 planMemClearEcc r s))

/-! ## Delay lines (08 R313-R320) -/

/-- Ring capacity of a line, in samples (08 R313). -/
def lineCap (len : Nat) : Nat := (len + 64 + 511) / 512 * 512

/-- Bytes of the line pool (08 R308). -/
def poolBytes (s : State) : Nat := if s.mem.ready then (s.part.dramMiB - 256) * 1048576 else 0

/-- The free ranges between allocated ranges, given by rising base, from an offset on. -/
def gaps (size : Nat) : Nat → List (Nat × Nat) → List (Nat × Nat)
  | o, [] => if o < size then [(o, size - o)] else []
  | o, (b, n) :: r => (if o < b then [(o, b - o)] else []) ++ gaps size (max o (b + n)) r

/-- The free ranges of the pool: base and bytes. -/
def freeRanges (s : State) : List (Nat × Nat) :=
  gaps (poolBytes s) 0 (sortBy (fun a b => decide (a.1 ≤ b.1)) (s.lines.tab.map fun l => (l.2.base, 4 * l.2.cap)))

/-- Best fit: the smallest free range that holds the bytes, the lowest among equals (08 R317). -/
def bestFit (s : State) (bytes : Nat) : Option Nat :=
  (bestBy (fun (a b : Nat × Nat) => decide (a.2 < b.2)) ((freeRanges s).filter fun g => decide (bytes ≤ g.2))).map (·.1)

/-- Largest free range left, in KiB (08 R319). -/
def largestFree (s : State) : Nat := lmax ((freeRanges s).map (·.2)) / 1024

/-- Allocates a line; its mark is the next boundary (08 R314). -/
def putLine (id len base mark : Nat) (s : State) : State :=
  { s with lines := { s.lines with tab := tset s.lines.tab id { len := len, cap := lineCap len, base := base, mark := mark } } }

/-- LINE_ALLOC (08 R317, R319). -/
def planLineAlloc (s : State) (r : Req) : Plan :=
  let id := par r 0 2
  let len := par r 4 4
  { len := r.params.length == 8,
    checks := [chk (decide (id < 0xFFFF) && !thas s.lines.tab id) 0, chkZero r 2 2, chk (inRange64 len) 4,
               chkSt (decide (s.lines.tab.length < 16384)) TABLE_FULL],
    act := fun s => match bestFit s (4 * lineCap len) with
      | none => { st := s, status := NO_CAPACITY, payload := zeroBytes 12 ++ toBE 4 (largestFree s) }
      | some b =>
        let s := putLine id len b (cal s + 1) s
        { st := s, payload := toBE 4 (lineCap len) ++ toBE 8 (poolBase + b) ++ toBE 4 (largestFree s) } }
where
  inRange64 (n : Nat) : Bool := decide (64 ≤ n) && decide (n ≤ 4194304)

def execLineAlloc (r : Req) (s : State) : Host.Outcome State Fault Refusal := .next (settle (execOp 0x0340 planLineAlloc r s))

/-- Whether a chain names a line as a write or tap binding. -/
def namesLine (d : Desc) (id : Nat) : Bool := d.lines.contains id || d.taps.any fun t => t.1 == id

/-- LINE_FREE (08 R318). -/
def planLineFree (s : State) (r : Req) : Plan :=
  let id := par r 0 2
  { len := r.params.length == 4,
    checks := [chk (thas s.lines.tab id && s.eng.chains.all fun c => !namesLine c.2.desc id) 0, chkZero r 2 2],
    act := act fun s => { s with lines := { s.lines with tab := tdel s.lines.tab id } } }

def execLineFree (r : Req) (s : State) : Host.Outcome State Fault Refusal := .next (settle (execOp 0x0341 planLineFree r s))

/-- LINE_GET (08 R320). -/
def planLineGet (s : State) (r : Req) : Plan :=
  let id := par r 0 2
  { len := r.params.length == 2, checks := [chk (thas s.lines.tab id) 0],
    act := give fun s =>
      let l := tgetD s.lines.tab id { len := 0, cap := 0, base := 0, mark := 0 }
      let w := match s.eng.chains.find? fun c => c.2.desc.lines.contains id with | some c => c.1 | none => 0
      let t := lsum (s.eng.chains.map fun c => (c.2.desc.taps.filter fun t => t.1 == id).length)
      toBE 2 id ++ toBE 2 w ++ toBE 4 l.len ++ toBE 4 l.cap ++ toBE 2 t ++ toBE 2 0 ++ toBE 6 l.mark ++ toBE 2 0 }

def execLineGet (r : Req) (s : State) : Host.Outcome State Fault Refusal := .next (settle (execOp 0x0342 planLineGet r s))

end Sys2Proof.Machine
end

