-- ==== Sys2Proof/Machine/ChainOps.lean ====
section
/-! DEFINITION. The chain and slot-map commands (04 R163-R188, 02 R56-R67, 05 R203, R204, R206). -/

namespace Sys2Proof.Machine

/-! ## Descriptors -/

/-- Bindings of `n` entries from byte `off` on: space and slot (04 R164). -/
def bindsOf (r : Req) (off n : Nat) : List (Nat × Nat) :=
  (List.range n).map fun i => (par r (off + 4 * i) 4 / 2 ^ 30, par r (off + 4 * i) 4 % 4096)

/-- The descriptor that CHAIN_LOAD_BEGIN carries (04 R163, R164). -/
def descOf (r : Req) : Desc :=
  let ni := par r 28 2
  let no := par r 30 2
  let nt := par r 32 2
  let nl := par r 34 2
  let t0 := 96 + 4 * ni + 4 * no
  { stage := par r 1 1, flags := par r 2 2, pinEngine := par r 4 2, affinity := par r 6 1, codeBytes := par r 8 4, stateBytes := par r 12 4,
    entry := par r 16 4, costFixed := par r 20 4, costSample := par r 24 4, paramOff := par r 36 2, paramWords := par r 38 2,
    holdMs := par r 40 2, tailMs := par r 42 2, rateMap := par r 44 1, tickMap := par r 45 1, opMask := par r 48 32,
    ins := bindsOf r 96 ni, outs := bindsOf r (96 + 4 * ni) no,
    taps := (List.range nt).map fun i => (par r (t0 + 8 * i) 2, bit (par r (t0 + 8 * i + 2) 2) 15, par r (t0 + 8 * i + 4) 4),
    lines := (List.range nl).map fun i => par r (t0 + 8 * nt + 4 * i) 2 }

/-- Length of a line, zero when it is not allocated. -/
def lineLen (s : State) (id : Nat) : Nat := match tget s.lines.tab id with | some l => l.len | none => 0

/-- Whether a tap delay lies in the range of 04 R161. -/
def tapOk (s : State) (n id d : Nat) : Bool := decide (2 * n ≤ d) && decide (d ≤ lineLen s id)

/-- PIN_ENGINE is zero without a pin, and AFFINITY_LEA without an affinity (04 R163, 05 R203). -/
def pinFields (f pin lea : Nat) : Bool := (bit f 0 || pin == 0) && (bit f 1 || lea == 0)

/-- The checks of the fixed fields of a descriptor. -/
def descFields (r : Req) : List (Bool × Nat × Nat) :=
  let rg := fun (lo hi v : Nat) => decide (lo ≤ v) && decide (v ≤ hi)
  let f := par r 2 2
  [chk (par r 0 1 == 1) 0, chk (rg 1 2 (par r 1 1)) 1, chk (decide (f < 8)) 2,
   chk (decide (par r 4 2 < 192)) 4, chk (decide (par r 6 1 < 16)) 6, chkZero r 7 1, chk (rg 8 49152 (par r 8 4) && par r 8 4 % 8 == 0) 8, chk (rg 256 163840 (par r 12 4) && par r 12 4 % 256 == 0) 12,
   chk (par r 16 4 % 8 == 0) 16, chk (decide (par r 28 2 ≤ 128)) 28, chk (rg 1 128 (par r 30 2)) 30, chk (decide (par r 32 2 ≤ 64)) 32,
   chk (decide (par r 34 2 ≤ 16)) 34, chk (par r 36 2 % 4 == 0) 36, chk (decide (par r 38 2 ≤ 256)) 38, chk (decide (par r 44 1 < 64)) 44,
   chk (decide (par r 45 1 < 64)) 45, chkZero r 46 2, chkZero r 80 16,
   chkRel (pinFields f (par r 4 2) (par r 6 1))]

/-- The checks of the binding entries, each by itself (04 R161, R164, R165). -/
def descBinds (s : State) (r : Req) : List (Bool × Nat × Nat) :=
  let ni := par r 28 2
  let no := par r 30 2
  let nt := par r 32 2
  let t0 := 96 + 4 * ni + 4 * no
  let ok := fun (v : Nat) (out : Bool) => bits v 29 12 == 0 && (if out then v / 2 ^ 30 == 1 || v / 2 ^ 30 == 3 else v / 2 ^ 30 != 3)
  ((List.range ni).map fun i => chk (ok (par r (96 + 4 * i) 4) false) (96 + 4 * i))
    ++ ((List.range no).map fun i => chk (ok (par r (96 + 4 * ni + 4 * i) 4) true) (96 + 4 * ni + 4 * i))
    ++ ((List.range nt).flatMap fun i =>
      let o := t0 + 8 * i
      [chk (thas s.lines.tab (par r o 2)) o, chk (par r (o + 2) 2 % 32768 == 0) (o + 2), chk (tapOk s (tickN s) (par r o 2) (par r (o + 4) 4)) (o + 4)])
    ++ ((List.range (par r 34 2)).flatMap fun i =>
      let o := t0 + 8 * nt + 4 * i
      [chk (thas s.lines.tab (par r o 2)) o, chkZero r (o + 2) 2])

/-- One writer for each line, in the same stage as every chain that taps it (04 R159). -/
def linesAgree (s : State) (d : Desc) : Bool :=
  s.eng.chains.all fun c =>
    let o := c.2.desc
    d.lines.all (fun l => !o.lines.contains l && (o.stage == d.stage || o.taps.all fun t => t.1 != l))
      && d.taps.all fun t => o.stage == d.stage || !o.lines.contains t.1

/-- The live configuration and what it becomes at every pending boundary. -/
def everCfg (s : State) : List Cfg := s.pipe.live :: s.gate.staged.map fun g => cfgAt s [] (judgedDue s g)

/-- Whether no output of a chain lies at a MIX-IN slot that returns a MIX-OUT (02 R67). -/
def noReturnOut (c : Cfg) (d : Desc) : Bool := d.outs.all fun o => o.1 != 1 || (mapOf c 1 o.2).kind != 3

/-- Whether no enabled dynamics channel is inserted at a MIX-IN slot that returns a MIX-OUT (02 R67). -/
def noReturnDyn (c : Cfg) : Bool :=
  c.dyn.all fun x => !bit x.2.flags 0 || x.2.insSpace != 1 || (mapOf c 1 x.2.insSlot).kind != 3

/-- The relations of a descriptor and its place in the configuration (04 R165). -/
def descRels (s : State) (d : Desc) : List (Bool × Nat × Nat) :=
  [chkRel (decide (d.entry < d.codeBytes)), chkRel (decide (d.paramOff + 4 * d.paramWords ≤ d.stateBytes)),
   chkRel (d.outs.all fun o => o.1 == if d.stage = 1 then 1 else 3), chkRel (d.ins.all fun i => d.stage == 2 || i.1 == 0),
   chkRel (bit d.rateMap (rate s) && bit d.tickMap (tickBit (tickN s))), chkRel (decide (winBytes s d ≤ 16384)),
   chkRel (linesAgree s d), chkRel ((everCfg s).all fun c => noReturnOut c d)]

/-- CHAIN_LOAD_BEGIN (04 R163-R165, R181). -/
def planChainLoadBegin (s : State) (r : Req) : Plan :=
  let h := r.made.getD 0
  let d := descOf r
  { len := r.params.length == 96 + 4 * par r 28 2 + 4 * par r 30 2 + 8 * par r 32 2 + 4 * par r 34 2,
    checks := descFields r ++ descBinds s r ++ descRels s d ++ [chkSt (decide (0 < h) && !thas s.eng.chains h) TABLE_FULL],
    act := fun s =>
      { payload := toBE 2 h,
        st := { s with eng := { s.eng with chains := tset s.eng.chains h { desc := d, taps := d.taps.map fun t => t.2.2 } } } } }

def execChainLoadBegin (r : Req) (s : State) : Host.Outcome State Fault Refusal := .next (settle (execOp 0x0301 planChainLoadBegin r s))

/-! ## Images, start and end of a chain -/

/-- Whether a handle names a chain in one of some states (04 R185, R187). -/
def chainIn (s : State) (h : Nat) (l : List Nat) : Bool := match chainAt s h with | some c => l.contains c.st | none => false

/-- CHAIN_LOAD_DATA (04 R182, R186). -/
def planChainLoadData (s : State) (r : Req) : Plan :=
  let h := par r 0 2
  let off := par r 4 4
  let data := r.params.drop 8
  let d := (chainD s h).desc
  { len := decide (16 ≤ r.params.length) && decide (r.params.length ≤ 4088) && r.params.length % 8 == 0,
    checks := [chk (chainIn s h [1]) 0, chk (decide (par r 2 1 < 2)) 2, chkZero r 3 1, chk (off % 8 == 0) 4,
               chkRel (decide (off + data.length ≤ (if par r 2 1 = 0 then d.codeBytes else d.stateBytes)))],
    act := act (modChain h fun c =>
      if par r 2 1 = 0 then { c with image := wrCells zeroAt c.image off data, codeGot := c.codeGot ++ [(off, data.length)] }
      else { c with init := wrCells zeroAt c.init off data }) }

def execChainLoadData (r : Req) (s : State) : Host.Outcome State Fault Refusal := .next (settle (execOp 0x0302 planChainLoadData r s))

/-- Whether every byte of the code has been supplied (04 R182). -/
def codeWhole (c : Chain) : Bool :=
  (List.range (c.desc.codeBytes / 8)).all fun i => c.codeGot.any fun g => decide (g.1 ≤ 8 * i) && decide (8 * i < g.1 + g.2)

/-- CHAIN_LOAD_END (04 R165, R182, 05 R206-R208): the Placement Unit takes the chain and its image is copied; the chain is bound later. It does so
at once, also in a Plane reset, in which R231 stops placement and no status is given for such a command (DESIGN CHOICE, log entry 66). A chain
that does not list a rate or tick size set since CHAIN_LOAD_BEGIN is not loaded (DEDUCED, log entry 53). -/
def planChainLoadEnd (s : State) (r : Req) : Plan :=
  let h := par r 0 2
  { len := r.params.length == 4,
    checks := [chk (chainIn s h [1] && codeWhole (chainD s h)) 0, chkZero r 2 2,
               chkRel (bit (chainD s h).desc.rateMap (rate s) && bit (chainD s h).desc.tickMap (tickBit (tickN s))), chkSt (admitTo s h).isSome NO_CAPACITY],
    act := act fun s => match admitTo s h with
      | none => s
      | some e =>
        let s := putOn e h (modChain h (fun c => { c with st := 2, blk := c.init, cum := [] }) s)
        { s with place := { s.place with migr := s.place.migr ++ [{ handle := h, src := 0xFFFF, dst := e, phase := 3, start := cal s }] } } }

def execChainLoadEnd (r : Req) (s : State) : Host.Outcome State Fault Refusal := .next (settle (execOp 0x0303 planChainLoadEnd r s))

/-- Whether a map entry names a chain. -/
def mapNames (c : Cfg) (h : Nat) : Bool := (c.mapMi ++ c.mapDst).any fun e => e.2.kind == 2 && e.2.source == h

/-- CHAIN_UNLOAD (04 R181, R183, R187, R188): the chain enters Unload staged. -/
def planChainUnload (s : State) (r : Req) : Plan :=
  let h := par r 0 2
  { len := r.params.length == 4,
    checks := [chk (chainIn s h [1, 2, 3, 4, 5]) 0, chkZero r 2 2,
               chkRel (!mapNames (cfgAt s [stagedOf s r] (judgedDue s (stagedOf s r))) h)],
    act := act (modChain h fun c => { c with prev := c.st, st := 6 }) }

def execChainUnload (r : Req) (s : State) : Host.Outcome State Fault Refusal := .next (settle (execOp 0x0304 planChainUnload r s))

/-- The stage of the chains that write or tap a delay line (04 R159); Stage A where none is loaded. -/
def lineStage (s : State) (id : Nat) : Nat :=
  if s.eng.chains.any fun c => c.2.desc.stage == 2 && (c.2.desc.lines.contains id || c.2.desc.taps.any fun t => t.1 == id) then 2 else 1

/-- The zeros that a line which no Stage B chain names any longer is short of (04 R160): those of the two sample ticks between the stages. -/
def fillLines (c : Chain) (s : State) : State :=
  if c.desc.stage ≠ 2 then s
  else ((c.desc.lines ++ c.desc.taps.map (·.1)).filter fun id => lineStage s id == 1).foldl (fun t id =>
    [2, 3].foldl (fun u d => if s.pipe.first + d ≤ cal s then lineWrite id (cal s - d) (tickN s) [] u else u) t) s

/-- A handle is freed with everything the chain holds. Its CHAIN_LOAD_END, if still staged, and the other staged sets that name
the handle lose their effect, so that they never reach a later chain of that handle (04 R188; DESIGN CHOICE, log entry 24). -/
def freeChain (h : Nat) (s : State) : State :=
  let c := chainD s h
  let s := match c.pinReq with
    | some r => reply r (replyKey s r) false BUSY 0 0 false false [] s
    | none => s
  let s := dropTwin h s
  let s := if c.engine == 0xFFFF then s else goFallow c.engine (takeOff h s)
  let names := fun (g : Staged) => [0x0303, 0x0304, 0x0305, 0x0306, 0x030B].contains g.req.opcode && par g.req 0 2 == h
  let void := fun (g : Staged) => if names g then { g with note := [1] } else g
  fillLines c { s with
           eng := { s.eng with chains := tdel s.eng.chains h },
           place := { s.place with migr := s.place.migr.filter fun m => m.handle != h },
           gate := { s.gate with staged := s.gate.staged.map void } }

/-! ## Parameters, taps, state -/

/-- CHAIN_SET_PARAMS (04 R175, R176, R186, R187). -/
def planChainSetParams (s : State) (r : Req) : Plan :=
  let h := par r 0 2
  let n := par r 2 2
  let d := (chainD s h).desc
  { len := r.params.length == 4 + 8 * n,
    checks := [chk (thas s.eng.chains h) 0, chk (decide (1 ≤ n) && decide (n ≤ 256)) 2]
      ++ ((List.range n).flatMap fun i => [chk (decide (par r (4 + 8 * i) 2 < d.paramWords)) (4 + 8 * i), chkZero r (6 + 8 * i) 2])
      ++ [chkSt (r.role != 0 || (List.range n).all fun i => bit d.opMask (par r (4 + 8 * i) 2)) ROLE_DENIED],
    act := noAct }

def execChainSetParams (r : Req) (s : State) : Host.Outcome State Fault Refusal := .next (settle (execOp 0x0305 planChainSetParams r s))

/-- CHAIN_SET_TAPS (04 R161, R162, R176, R186, R187). -/
def planChainSetTaps (s : State) (r : Req) : Plan :=
  let h := par r 0 2
  let n := par r 2 2
  let d := (chainD s h).desc
  let tap := fun i => d.taps.getD (par r (4 + 8 * i) 2) (0xFFFF, false, 0)
  let g := stagedOf s r
  { len := r.params.length == 4 + 8 * n,
    checks := [chk (thas s.eng.chains h) 0, chk (decide (1 ≤ n) && decide (n ≤ 64)) 2]
      ++ ((List.range n).flatMap fun i =>
        [chk (decide (par r (4 + 8 * i) 2 < d.taps.length)) (4 + 8 * i), chkZero r (6 + 8 * i) 2,
         chk (holds s g fun c => tapOk s c.n (tap i).1 (par r (8 + 8 * i) 4)) (8 + 8 * i)])
      ++ [chkSt (r.role != 0 || (List.range n).all fun i => (tap i).2.1) ROLE_DENIED],
    act := noAct }

def execChainSetTaps (r : Req) (s : State) : Host.Outcome State Fault Refusal := .next (settle (execOp 0x0306 planChainSetTaps r s))

/-- The CHAIN_GET_STATUS payload (04 R184). -/
def chainStatus (s : State) (h : Nat) : List Byte :=
  let c := chainD s h
  toBE 2 h ++ toBE 1 c.st ++ toBE 1 c.desc.stage ++ toBE 2 (if c.st = 1 then 0xFFFF else c.engine) ++ toBE 2 c.misses.n ++ toBE 2 c.fails.n
    ++ toBE 1 (b2n c.misses.sat + 2 * b2n c.fails.sat + 4 * b2n c.overrun + 8 * b2n c.swap.isSome) ++ toBE 1 0
    ++ toBE 4 c.cycLast ++ toBE 4 c.cycMax ++ toBE 4 (costOf s c) ++ toBE 4 c.parkTicks

/-- CHAIN_GET_STATUS (04 R184). -/
def planChainGetStatus (s : State) (r : Req) : Plan :=
  { len := r.params.length == 4, checks := [chk (thas s.eng.chains (par r 0 2)) 0, chkZero r 2 2],
    act := give fun s => chainStatus s (par r 0 2) }

def execChainGetStatus (r : Req) (s : State) : Host.Outcome State Fault Refusal := .next (settle (execOp 0x0307 planChainGetStatus r s))

/-- CHAIN_CLEAR_COUNTERS (02 R80, 04 R180, R184, R186). -/
def planChainClearCounters (s : State) (r : Req) : Plan :=
  let h := par r 0 2
  { len := r.params.length == 4, checks := [chk (h == 0 || thas s.eng.chains h) 0, chkZero r 2 2],
    act := act fun s => { s with eng := { s.eng with chains := tmapK (fun k (c : Chain) =>
      if h = 0 ∨ k = h then { c with misses := {}, fails := {}, overrun := false, cycMax := 0 } else c) s.eng.chains } } }

def execChainClearCounters (r : Req) (s : State) : Host.Outcome State Fault Refusal := .next (settle (execOp 0x0308 planChainClearCounters r s))

/-- CHAIN_WRITE_STATE (04 R129, R186, R187). -/
def planChainWriteState (s : State) (r : Req) : Plan :=
  let h := par r 0 2
  let off := par r 4 4
  let b := (chainD s h).desc.stateBytes
  { len := decide (16 ≤ r.params.length) && decide (r.params.length ≤ 4088) && r.params.length % 8 == 0,
    checks := [chk (chainIn s h [3, 4, 5]) 0, chkZero r 2 2, chk (off % 8 == 0 && decide (off < b)) 4,
               chkRel (decide (off + (r.params.length - 8) ≤ b))],
    act := noAct }

def execChainWriteState (r : Req) (s : State) : Host.Outcome State Fault Refusal := .next (settle (execOp 0x030B planChainWriteState r s))

/-- A chain with its block at the end of its last completed tick: while it runs a tick, as it was before the words bound for that tick were
applied (04 R180). -/
def settledBlk (s : State) (h : Nat) : Chain :=
  let c := chainD s h
  let g := engAt s c.engine
  if g.cur != h then c else { c with blk := g.before.1, poison := g.before.2 }

/-- CHAIN_READ_STATE (04 R180, R186, R187). A poisoned word reads zero, as a load takes it (04 R128; DESIGN CHOICE, log entry 40). -/
def planChainReadState (s : State) (r : Req) : Plan :=
  let h := par r 0 2
  let off := par r 4 4
  let n := par r 8 2
  let b := (chainD s h).desc.stateBytes
  { len := r.params.length == 10,
    checks := [chk (chainIn s h [3, 4, 5]) 0, chkZero r 2 2, chk (off % 4 == 0) 4,
               chk (decide (4 ≤ n) && decide (n ≤ 4096) && n % 4 == 0) 8, chkRel (decide (off + n ≤ b))],
    act := give fun s => (List.range (n / 4)).flatMap fun i => toBE 4 (readWord (settledBlk s h) [] (off + 4 * i)).toNat }

def execChainReadState (r : Req) (s : State) : Host.Outcome State Fault Refusal := .next (settle (execOp 0x030C planChainReadState r s))

/-! ## Placement -/

/-- The migration that a new pin needs cannot start yet (05 R194, R201, R210, R222, R231). -/
def pinWaits (s : State) (h e : Nat) : Bool :=
  !placeRuns s || frozen s || !mayMove s h || !moveFree s e || (notExcluded s h [e]).isEmpty

/-- CHAIN_SET_PLACEMENT (05 R203, R204): a pin to another engine starts a migration, and the reply waits until it has started. -/
def planChainSetPlacement (s : State) (r : Req) : Plan :=
  let h := par r 0 2
  let f := par r 2 1
  let e := par r 4 2
  { len := r.params.length == 8,
    checks := [chk (thas s.eng.chains h) 0, chk (decide (f < 4)) 2, chk (decide (par r 3 1 < 16)) 3, chk (decide (e < 192)) 4,
               chkZero r 6 2, chkRel (pinFields f e (par r 3 1))],
    act := fun s0 =>
      let s := abortIf 7 (fun m => m.handle == h) s0
      let s := match (chainD s h).pinReq with
        | some q => reply q (replyKey s q) false BUSY 0 0 false false [] s
        | none => s
      let set := modChain h fun c =>
        { c with desc := { c.desc with flags := c.desc.flags / 4 * 4 + f, pinEngine := e, affinity := par r 3 1 },
                 displaced := false, pinWait := false, pinReq := none }
      let src := (chainD s h).engine
      if bit f 0 && src != 0xFFFF && e != src then
        if !qualifies s h e false true then { st := s0, status := NO_CAPACITY }
        else
          let s := modChain h (fun c => { c with pinReq := some r }) (set s)
          { st := if pinWaits s h e then s else startMigr h e false true s, hold := true }
      else { st := set s } }

def execChainSetPlacement (r : Req) (s : State) : Host.Outcome State Fault Refusal := .next (settle (execOp 0x030D planChainSetPlacement r s))

/-! ## The slot map -/

/-- Whether a 32-bit slot map entry is one that MAP_SET takes (02 R56-R58). -/
def mapEntryOk (s : State) (space v : Nat) : Bool :=
  let e := mapEntOf v
  let out := decide (e.source < outCount s (rate s))
  bits v 28 28 == 0 && bits v 23 16 == 0 && (space == 1 || e.align == 0)
    && (match e.kind with
      | 0 => e.source == 0
      | 1 => if space = 1 then decide (e.source < 4096) else out
      | 2 => chainIn s e.source [2, 3, 4, 5] || (chainIn s e.source [6] && (chainD s e.source).prev != 1)
      | 3 => space == 1 && out
      | _ => false)

/-- MAP_SET (02 R56-R58, R67, 04 R186). -/
def planMapSet (s : State) (r : Req) : Plan :=
  let n := par r 0 2
  { len := r.params.length == 4 + 8 * n,
    checks := [chk (decide (1 ≤ n) && decide (n ≤ 511)) 0, chkZero r 2 2]
      ++ ((List.range n).flatMap fun i =>
        [chk (par r (4 + 8 * i) 1 == 1 || par r (4 + 8 * i) 1 == 3) (4 + 8 * i), chkZero r (5 + 8 * i) 1,
         chk (decide (par r (6 + 8 * i) 2 < 4096)) (6 + 8 * i), chk (mapEntryOk s (par r (4 + 8 * i) 1) (par r (8 + 8 * i) 4)) (8 + 8 * i)])
      ++ [chkRel (holds s (stagedOf s r) fun c => noReturnDyn c && s.eng.chains.all fun h => noReturnOut c h.2.desc)],
    act := noAct }

def execMapSet (r : Req) (s : State) : Host.Outcome State Fault Refusal := .next (settle (execOp 0x0309 planMapSet r s))

/-- MAP_GET (04 R186). -/
def planMapGet (_ : State) (r : Req) : Plan :=
  let sp := par r 0 1
  let n := par r 4 2
  { len := r.params.length == 6,
    checks := [chk (sp == 1 || sp == 3) 0, chkZero r 1 1, chk (decide (par r 2 2 < 4096)) 2, chk (decide (1 ≤ n) && decide (n ≤ 1024)) 4,
               chkRel (decide (par r 2 2 + n ≤ 4096))],
    act := give fun s => (List.range n).flatMap fun i => toBE 4 (mapWord (mapOf s.pipe.live sp (par r 2 2 + i))) }

def execMapGet (r : Req) (s : State) : Host.Outcome State Fault Refusal := .next (settle (execOp 0x030A planMapGet r s))

end Sys2Proof.Machine
end

