-- ==== Sys2Proof/Machine/FixedOps.lean ====
section
/-! DEFINITION. The commands of the dynamics channels, operator meters and silence detectors (06 R242-R264). -/

namespace Sys2Proof.Machine

/-! ## Dynamics -/

/-- The enabled dynamics channels of a configuration. -/
def dynOn (c : Cfg) : Tab DynCfg := c.dyn.filter fun x => bit x.2.flags 0

/-- The tests of R244 on enabled channels: insertion slots, sidechains and link groups. -/
def dynFits (c : Cfg) : Bool :=
  let on := dynOn c
  noReturnDyn c
    && (on.all fun x => on.all fun y => x.1 == y.1 || x.2.insSpace != y.2.insSpace || x.2.insSlot != y.2.insSlot)
    && (on.all fun x => !(x.2.insSpace == 1 && bit x.2.flags 1 && x.2.scSpace == 2))
    && (on.all fun x => x.2.link == 0 ||
        (let grp := on.filter fun y => y.2.link == x.2.link
         decide (grp.length ≤ 16) && grp.all fun y => y.2.insSpace == x.2.insSpace))

/-- DYN_CONFIG (06 R242, R244). -/
def planDynConfig (s : State) (r : Req) : Plan :=
  let ins := par r 4 2
  let sc := par r 6 2
  { len := r.params.length == 16,
    checks := [chk (decide (par r 0 2 < 512)) 0, chk (decide (par r 2 1 < 4)) 2, chk (decide (par r 3 1 ≤ 32)) 3,
               chk ((ins / 16384 == 1 || ins / 16384 == 3) && bits ins 13 12 == 0) 4, chk (sc / 16384 != 3 && bits sc 13 12 == 0) 6,
               chk (decide (par r 8 1 ≤ 64)) 8, chkZero r 9 7, chkRel (bit (par r 2 1) 1 || sc == 0),
               chkRel (holds s (stagedOf s r) dynFits)],
    act := noAct }

def execDynConfig (r : Req) (s : State) : Host.Outcome State Fault Refusal := .next (settle (execOp 0x0320 planDynConfig r s))

/-- DYN_SET_PARAMS (06 R243, R244). -/
def planDynSetParams (s : State) (r : Req) : Plan :=
  let t := parS r 2 2
  let q := par r 4 2
  { len := r.params.length == 16,
    checks := [chk (decide (par r 0 2 < 512)) 0, chk (decide (-15360 ≤ t) && decide (t ≤ 0)) 2,
               chk (q == 0xFFFF || (decide (0x0100 ≤ q) && decide (q ≤ 0x4000))) 4, chk (decide (par r 6 2 ≤ 0x1800)) 6,
               chk (decide (par r 8 2 ≤ 10000)) 8, chk (decide (1 ≤ par r 10 2) && decide (par r 10 2 ≤ 5000)) 10,
               chk (decide (par r 12 2 ≤ 0x3000)) 12, chkZero r 14 2, chkRel (holds s (stagedOf s r) dynFits)],
    act := noAct }

def execDynSetParams (r : Req) (s : State) : Host.Outcome State Fault Refusal := .next (settle (execOp 0x0321 planDynSetParams r s))

/-- The blocks of a channel as its stage last used them (06 R263). -/
def dynShown (f : Fixed) (ch : Nat) : DynCfg × DynPar :=
  let a := tgetD f.showMi ch ({}, {})
  if a.1.insSpace = 3 then tgetD f.showDst ch ({}, {}) else a

/-- The key of a channel's running state: Stage A and Stage B keep it apart (06 R240, R263). -/
def dynKey (ch : Nat) (c : DynCfg) : Nat := if c.insSpace = 3 then ch + 512 else ch

/-- A DYN_CONFIG block (06 R242). -/
def dynCfgBytes (ch : Nat) (c : DynCfg) : List Byte :=
  toBE 2 ch ++ toBE 1 c.flags ++ toBE 1 c.link ++ toBE 2 (c.insSpace * 16384 + c.insSlot) ++ toBE 2 (c.scSpace * 16384 + c.scSlot)
    ++ toBE 1 c.look ++ zeroBytes 7

/-- A DYN_SET_PARAMS block (06 R243). -/
def dynParBytes (ch : Nat) (p : DynPar) : List Byte :=
  toBE 2 ch ++ toBES 2 p.thr ++ toBE 2 p.ratio ++ toBE 2 p.knee ++ toBE 2 p.attack ++ toBE 2 p.release ++ toBE 2 p.makeup ++ zeroBytes 2

/-- DYN_GET: the largest reduction is cleared by the read (06 R263); it belongs to the channel, whichever slot it is inserted at. -/
def planDynGet (_ : State) (r : Req) : Plan :=
  let ch := par r 0 2
  { len := r.params.length == 2, checks := [chk (decide (ch < 512)) 0],
    act := fun s =>
      let b := dynShown s.fixed ch
      let i := dynKey ch b.1
      let d := tgetD s.fixed.dyn i {}
      { payload := dynCfgBytes ch b.1 ++ dynParBytes ch b.2 ++ toBES 2 (rnd d.g 16) ++ toBES 2 (tgetD s.fixed.dyn ch {}).maxRed,
        st := { s with fixed := { s.fixed with dyn := tupd s.fixed.dyn ch fun d => { d with maxRed := 0 } } } } }

def execDynGet (r : Req) (s : State) : Host.Outcome State Fault Refusal := .next (settle (execOp 0x0322 planDynGet r s))

/-! ## Operator meters -/

/-- METER_OP_SET (06 R255, R256): in effect from the next tick boundary. -/
def planMeterOpSet (_ : State) (r : Req) : Plan :=
  let m := par r 12 4
  { len := r.params.length == 76,
    checks := [chk (decide (par r 0 2 < 256)) 0, chk (bits (par r 2 2) 13 12 == 0) 2, chk (decide (par r 4 1 < 16)) 4,
               chk (decide (par r 5 1 < 8)) 5, chk (decide (par r 6 1 ≤ 12)) 6, chk (decide (par r 7 1 ≤ 8)) 7,
               chk (decide (par r 8 1 ≤ 63)) 8, chk (decide (par r 9 1 ≤ 1)) 9, chk (decide (par r 10 1 ≤ 16)) 10, chkZero r 11 1,
               chk (decide (1 ≤ m) && decide (m ≤ 65536)) 12],
    act := act (stageQuiet r) }

def execMeterOpSet (r : Req) (s : State) : Host.Outcome State Fault Refusal := .next (settle (execOp 0x0880 planMeterOpSet r s))

/-- Whether `10^(2y - 1) b^(2c) ≤ a^(2c)`: whether `c log10(a / b)` rounds to `y` or more. -/
def dbReaches (c a b : Nat) (y : Int) : Bool :=
  let e := 2 * y - 1
  if 0 ≤ e then decide (10 ^ e.toNat * b ^ (2 * c) ≤ a ^ (2 * c)) else decide (b ^ (2 * c) ≤ a ^ (2 * c) * 10 ^ (-e).toNat)

/-- The largest `y` from `lo` on that is reached, by its bits from bit `i - 1` down. -/
def dbSearch (c a b : Nat) : Nat → Int → Int
  | 0, y => y
  | i + 1, y => dbSearch c a b i (if dbReaches c a b (y + 2 ^ i) then y + 2 ^ i else y)

/-- `round(c log10(a / b))`, correctly rounded (06 R254). -/
def roundLog (c a b : Nat) : Int := dbSearch c a b 18 (-131072)

/-- The dBFS word of a path: value `v`, detector `d`, and `P = m 2^e` (06 R254). Zero reports 0x8000. A result outside 16 bits, of
which the spec states no value, is free (log entry 5). -/
def dbWord (v d m : Nat) (e : Int) (s : State) : Nat × State :=
  if v = 0 then (0x8000, s)
  else
    let x : Int := e + if d = 1 then 23 else 46
    let y := roundLog (5120 / d) (v * 2 ^ (-x).toNat) (m * 2 ^ x.toNat)
    if y < -32768 ∨ 32767 < y then freshNat 16 s else (wrap 16 y, s)

/-- The exponent of P on the coarse path. -/
def coarseExp (c : OpMeterCfg) : Int := -((if bit c.flags 1 then 2 else 1) * (c.shBq : Int)) - c.shDet

/-- P on the slow path: factor and exponent. -/
def slowP (c : OpMeterCfg) : Nat × Int :=
  (if bit c.flags 3 then 1 else c.avgLen,
   coarseExp c + (c.decK : Int) * ((if bit c.flags 2 then 0 else 1) - (c.shDec : Int)) - c.shAvg)

/-- One record of METER_OP_READ: the meter at the end of the last completed tick (06 R257). -/
def meterRecord (i : Nat) (s : State) : List Byte × State :=
  let (c, m) := tgetD s.fixed.seen i ({}, {})
  let d := if bit c.flags 1 then 2 else 1
  let (p, e) := slowP c
  let (cw, s) := dbWord m.cVal d (rateHz s.fixed.seenRate / 100) (coarseExp c) s
  let (sw, s) := if m.coarse then (cw, s) else dbWord m.level d p e s
  (toBE 2 i ++ toBE 1 (b2n m.coarse + 2 * b2n m.ovf + 4 * b2n (bit c.flags 0)) ++ toBE 1 0 ++ toBE 6 (if m.coarse then 0 else m.level)
    ++ toBE 2 sw ++ toBE 2 cw ++ toBE 2 0, s)

/-- METER_OP_READ (06 R257). -/
def planMeterOpRead (_ : State) (r : Req) : Plan :=
  let f := par r 0 2
  let n := par r 2 2
  { len := r.params.length == 4,
    checks := [chk (decide (f < 256)) 0, chk (decide (1 ≤ n) && decide (n ≤ 255)) 2, chkRel (decide (f + n ≤ 256))],
    act := fun s =>
      let x := (List.range n).foldl (fun (a : List Byte × State) i => let y := meterRecord (f + i) a.2; (a.1 ++ y.1, y.2)) ([], s)
      { payload := x.1, st := x.2 } }

def execMeterOpRead (r : Req) (s : State) : Host.Outcome State Fault Refusal := .next (settle (execOp 0x0881 planMeterOpRead r s))

/-! ## Silence -/

/-- SILENCE_SET (06 R258, R259, R261): in effect from the next tick boundary. -/
def planSilenceSet (_ : State) (r : Req) : Plan :=
  let t := parS r 0 2
  { len := r.params.length == 4,
    checks := [chk (decide (-35328 ≤ t) && decide (t ≤ -10240)) 0, chk (decide (10 ≤ par r 2 2) && decide (par r 2 2 ≤ 60000)) 2],
    act := act (stageQuiet r) }

def execSilenceSet (r : Req) (s : State) : Host.Outcome State Fault Refusal := .next (settle (execOp 0x0890 planSilenceSet r s))

/-- The hold of the silence detectors in ticks (06 R259). -/
def silHoldTicks (s : State) : Nat := msTicks (rate s) (tickN s) s.pipe.live.silHold

/-- Consecutive quiet sample ticks that a detector has counted (06 R259). After a start it sees zeros from the first tick on, in which its stage
works on the sample tick one or three before (06 R264). -/
def quietCount (s : State) (space slot : Nat) : Nat :=
  let seen := if space = 1 then s.fixed.silMi else s.fixed.silDst
  let loud := tgetD (if space = 1 then s.fixed.loudMi else s.fixed.loudDst) slot 0
  seen - max (s.fixed.silBase - (if space = 1 then 1 else 3)) loud

/-- Whether a slot is silent (06 R259). -/
def isSilent (s : State) (space slot : Nat) : Bool := decide (silHoldTicks s ≤ quietCount s space slot)

/-- SILENCE_GET (06 R261). -/
def planSilenceGet (_ : State) (r : Req) : Plan :=
  let sp := par r 0 1
  { len := r.params.length == 1, checks := [chk (sp == 1 || sp == 3) 0],
    act := give fun s =>
      (List.range 512).map (fun i => BitVec.ofNat 8 (ofBits ((List.range 8).filter fun j => isSilent s sp (8 * i + j))))
        ++ toBE 4 (quietLevel s) }

def execSilenceGet (r : Req) (s : State) : Host.Outcome State Fault Refusal := .next (settle (execOp 0x0891 planSilenceGet r s))

end Sys2Proof.Machine
end

