-- ==== Sys2Proof/Machine/SwardOps.lean ====
section
/-! DEFINITION. The Sward commands and the words of the Sward control port (03 R98-R116). -/

namespace Sys2Proof.Machine

/-! ## Live state (03 R92, R106-R110) -/

/-- The node (row, column). -/
def nodeAt (w : Sward) (row col : Nat) : Node := tgetD w.nodes (4096 * col + row) {}

/-- The ramp context of a column. -/
def rampAt (w : Sward) (col : Nat) : Ramp := tgetD w.ramps col {}

/-- The code at step `p` of a ramp of length `l`: truncated towards zero (03 R92). -/
def rampCode (cur tgt p l : Nat) : Nat :=
  if l = 0 then tgt else ((cur : Int) + Int.tdiv (((tgt : Int) - cur) * p) l).toNat

/-- The code that a node uses in the last processed sample tick. -/
def liveCode (x : Ramp) (n : Node) : Nat := if x.on then rampCode n.cur n.tgt x.pos x.len else n.cur

/-- A gain word (03 R106). -/
def gainWord (n : Node) : Nat := n.tgt * 65536 + n.cur

/-- A ramp context word (03 R107). -/
def rampWord (x : Ramp) : Nat := 2 ^ 31 * b2n x.on + 65536 * x.pos + (x.len - 1)

/-- A clip counter word (03 R108). -/
def clipWord (c : Sat) : Nat := 2 ^ 31 * b2n c.sat + c.n

/-- A tile status word (03 R105, R109). -/
def tileWord (s : State) (nn : Nat) : Nat :=
  if nn < tileCount s.part.variant then
    let t := tgetD s.sward.tiles nn {}
    t.state * 2 ^ 30 + bandWidth (rate s) * 65536 + t.rowsLast
  else 3 * 2 ^ 30

/-! ## Staged records -/

/-- The records of a SWARD_SET_NODES or SWARD_FILL request (03 R112, R113). -/
def swRecs (r : Req) : List SwRec :=
  let l := par r 0 2 % 4096 + 1
  let mk := fun (r0 r1 c0 c1 code fl : Nat) =>
    ({ r0 := r0, r1 := r1, c0 := c0, c1 := c1, code := if bit fl 2 then some code else none,
       pol := if bit fl 1 then some (bit fl 0) else none, len := l, acc := r.acc, fill := r.opcode == 0x0202 } : SwRec)
  if r.opcode = 0x0201 then
    (List.range (par r 2 2)).map fun i =>
      let row := par r (4 + 8 * i) 2
      let col := par r (6 + 8 * i) 2
      mk row row col col (par r (8 + 8 * i) 2) (par r (10 + 8 * i) 1)
  else [mk (par r 2 2) (par r 4 2) (par r 6 2) (par r 8 2) (par r 10 2) (par r 12 1)]

/-- Whether a staged record is a Sward command. -/
def isSward (g : Staged) : Bool := (g.req.opcode == 0x0201 || g.req.opcode == 0x0202) && g.note != [1]

/-- Records in the staging area that a staged set takes (03 R98): one for each node record and one for a fill. -/
def swCount (g : Staged) : Nat :=
  if !isSward g then 0 else if g.req.opcode = 0x0201 then par g.req 2 2 else 1

/-- Staged Sward sets for the same apply-at tick or Almanac entry as a set. A late set counts with those of the boundary at which it will
be bound (03 R98 does not say; DEDUCED from 01 R23, log entry 44). -/
def swSame (s : State) (g : Staged) : List Staged :=
  s.gate.staged.filter fun x => isSward x && x.alm == g.alm && (g.alm.isSome || judgedDue s x == judgedDue s g)

/-- The sample rate in force at a set's boundary, as the configuration will stand (03 R98). -/
def rateThen (s : State) (r : Req) : Nat := (cfgAt s [] (judgedDue s (stagedOf s r))).rate

/-- The limits of the staging area (03 R98). -/
def swRoom (s : State) (r : Req) : Bool :=
  let g := stagedOf s r
  let same := swSame s g
  let w := bandWidth (rateThen s r)
  decide (lsum ((s.gate.staged ++ [g]).map swCount) ≤ 262144)
    && (if r.opcode = 0x0202 then decide ((same.filter fun x => x.req.opcode == 0x0202).length < 16)
        else
          let cols := ((same ++ [g]).filter fun x => x.req.opcode == 0x0201).flatMap fun x => (swRecs x.req).map fun y => y.c0 / w
          cols.all fun b => decide ((cols.filter (· == b)).length ≤ 4096))

/-- A FLAGS byte of a record (03 R112, R114). -/
def swFlags (v : Nat) : Bool := decide (v < 8) && (bit v 1 || bit v 2)

/-- The length of a Sward ramp field (03 R112). -/
def rampField (r : Req) : Bool × Nat × Nat := chk (decide (par r 0 2 < 4096)) 0

/-- SWARD_SET_NODES (03 R98, R112, R114). -/
def planSwardSetNodes (s : State) (r : Req) : Plan :=
  let n := par r 2 2
  let ra := rateThen s r
  { len := r.params.length == 4 + 8 * n,
    checks := [rampField r, chk (decide (1 ≤ n) && decide (n ≤ 511)) 2]
      ++ ((List.range n).flatMap fun i =>
        [chk (decide (par r (4 + 8 * i) 2 < rowCount ra)) (4 + 8 * i), chk (decide (par r (6 + 8 * i) 2 < outCount s ra)) (6 + 8 * i),
         chk (swFlags (par r (10 + 8 * i) 1)) (10 + 8 * i), chkZero r (11 + 8 * i) 1])
      ++ [chkSt (swRoom s r) BUSY],
    act := noAct }

def execSwardSetNodes (r : Req) (s : State) : Host.Outcome State Fault Refusal := .next (settle (execOp 0x0201 planSwardSetNodes r s))

/-- SWARD_FILL (03 R98, R113, R114). -/
def planSwardFill (s : State) (r : Req) : Plan :=
  let ra := rateThen s r
  { len := r.params.length == 16,
    checks := [rampField r, chk (decide (par r 2 2 < rowCount ra)) 2, chk (decide (par r 4 2 < rowCount ra)) 4,
               chk (decide (par r 6 2 < outCount s ra)) 6, chk (decide (par r 8 2 < outCount s ra)) 8,
               chk (swFlags (par r 12 1)) 12, chkZero r 13 3,
               chkRel (decide (par r 2 2 ≤ par r 4 2) && decide (par r 6 2 ≤ par r 8 2)), chkSt (swRoom s r) BUSY],
    act := noAct }

def execSwardFill (r : Req) (s : State) : Host.Outcome State Fault Refusal := .next (settle (execOp 0x0202 planSwardFill r s))

/-- SWARD_DROP_STAGED (03 R100). A set that lost its records is still bound, empty, and replied to at its tick (13 R531; DEDUCED, log entry
24); one that waits on an Almanac entry has had its reply and goes. -/
def planSwardDropStaged (s : State) (r : Req) : Plan :=
  let v := par r 0 8
  let ok := if bit v 63 then decide (v % 2 ^ 63 < 32) && (tgetD s.clock.alm (v % 32) {}).action == 3 else decide (cal s < v)
  let hit := fun (g : Staged) => isSward g && (if bit v 63 then g.alm == some (v % 32) else g.alm.isNone && g.due == v)
  { len := r.params.length == 8, checks := [chk ok 0],
    act := fun s =>
      { payload := toBE 4 (lsum ((s.gate.staged.filter hit).map swCount)),
        st := { s with gate := { s.gate with staged :=
          (s.gate.staged.filter fun g => !(hit g && g.alm.isSome)).map fun g => if hit g then { g with note := [1] } else g } } } }

def execSwardDropStaged (r : Req) (s : State) : Host.Outcome State Fault Refusal := .next (settle (execOp 0x0203 planSwardDropStaged r s))

/-! ## Reads -/

/-- One record of SWARD_GET_NODES (03 R115). -/
def nodeRecord (w : Sward) (col row : Nat) : List Byte :=
  let n := nodeAt w row col
  toBE 2 (liveCode (rampAt w col) n) ++ toBE 2 n.tgt ++ toBE 1 (b2n n.pol) ++ toBE 1 0

/-- SWARD_GET_NODES (03 R115). -/
def planSwardGetNodes (s : State) (r : Req) : Plan :=
  let r0 := par r 0 2
  let r1 := par r 2 2
  let c0 := par r 4 2
  let c1 := par r 6 2
  let rows := rowCount (rate s)
  let cols := outCount s (rate s)
  { len := r.params.length == 8,
    checks := [chk (decide (r0 < rows)) 0, chk (decide (r1 < rows)) 2, chk (decide (c0 < cols)) 4, chk (decide (c1 < cols)) 6,
               chkRel (decide (r0 ≤ r1) && decide (c0 ≤ c1) && decide ((r1 + 1 - r0) * (c1 + 1 - c0) ≤ 682))],
    act := give fun s => (List.range (c1 + 1 - c0)).flatMap fun j => (List.range (r1 + 1 - r0)).flatMap fun i =>
      nodeRecord s.sward (c0 + j) (r0 + i) }

def execSwardGetNodes (r : Req) (s : State) : Host.Outcome State Fault Refusal := .next (settle (execOp 0x0204 planSwardGetNodes r s))

/-- The checks of a column range (03 R116). -/
def colRange (s : State) (r : Req) (most : Nat) : List (Bool × Nat × Nat) :=
  let cols := outCount s (rate s)
  [chk (decide (par r 0 2 < cols)) 0, chk (decide (par r 2 2 < cols)) 2,
   chkRel (decide (par r 0 2 ≤ par r 2 2) && decide (par r 2 2 + 1 - par r 0 2 ≤ most))]

/-- One word for every column of a range. -/
def colWords (r : Req) (f : Nat → Nat) : List Byte :=
  (List.range (par r 2 2 + 1 - par r 0 2)).flatMap fun i => toBE 4 (f (par r 0 2 + i))

/-- SWARD_GET_COLUMNS (03 R116). -/
def planSwardGetColumns (s : State) (r : Req) : Plan :=
  { len := r.params.length == 4, checks := colRange s r 1024, act := give fun s => colWords r fun j => rampWord (rampAt s.sward j) }

def execSwardGetColumns (r : Req) (s : State) : Host.Outcome State Fault Refusal := .next (settle (execOp 0x0205 planSwardGetColumns r s))

/-- SWARD_GET_CLIP (03 R116). -/
def planSwardGetClip (s : State) (r : Req) : Plan :=
  { len := r.params.length == 4, checks := colRange s r 1024, act := give fun s => colWords r fun j => clipWord (tgetD s.sward.clips j {}) }

def execSwardGetClip (r : Req) (s : State) : Host.Outcome State Fault Refusal := .next (settle (execOp 0x0206 planSwardGetClip r s))

/-- SWARD_CLEAR_CLIP (03 R91, R116). -/
def planSwardClearClip (s : State) (r : Req) : Plan :=
  { len := r.params.length == 4, checks := colRange s r 4096,
    act := act fun s => { s with sward := { s.sward with
      clips := s.sward.clips.filter fun c => !(decide (par r 0 2 ≤ c.1) && decide (c.1 ≤ par r 2 2)) } } }

def execSwardClearClip (r : Req) (s : State) : Host.Outcome State Fault Refusal := .next (settle (execOp 0x0207 planSwardClearClip r s))

/-- SWARD_GET_TILES (03 R116). -/
def planSwardGetTiles (_ : State) (r : Req) : Plan :=
  let f := par r 0 1
  let n := par r 1 1
  { len := r.params.length == 2,
    checks := [chk (decide (f < 64)) 0, chk (decide (1 ≤ n) && decide (n ≤ 64)) 1, chkRel (decide (f + n ≤ 64))],
    act := give fun s => (List.range n).flatMap fun i => toBE 4 (tileWord s (f + i)) }

def execSwardGetTiles (r : Req) (s : State) : Host.Outcome State Fault Refusal := .next (settle (execOp 0x0208 planSwardGetTiles r s))

end Sys2Proof.Machine
end

