-- ==== Sys2Proof/Machine/Fx.lean ====
section
/-! DEFINITION. Arithmetic of the fixed blocks, sample by sample: dynamics (06 R248-R250), operator meters (06 R251-R253) and test
generators (09 R365). -/

namespace Sys2Proof.Machine

/-! ## Dynamics -/

/-- `t - t x / 2 (i + 1) + ...`: the alternating sum of `n` terms from term `i` on, scaled by `2^96`. -/
def expSum : Nat → Nat → Nat → Nat → Int
  | 0, _, _, _ => 0
  | n + 1, i, x, t => (t : Int) - expSum n (i + 1) x (t * x / 2 ^ 96 / (i + 1))

/-- `round(2^32 (1 - exp(-a / b)))`. Over every ATTACK, RELEASE and rate the value before rounding lies more than `10^-6` from a tie,
and the series is exact to `2^-50`, so the result is correctly rounded (log entry 15). -/
def smoothing (a b : Nat) : Int := let x := a * 2 ^ 96 / b; rnd (expSum 47 1 x x) 64

/-- The attack coefficient (06 R248). -/
def attackOf (p : DynPar) (fs : Nat) : Int := if p.attack = 0 then 2 ^ 32 else smoothing 100000 (p.attack * fs)

/-- The release coefficient (06 R248). -/
def releaseOf (p : DynPar) (fs : Nat) : Int := smoothing 1000 (p.release * fs)

/-- `s` of 06 R248: the share of the level above the threshold that is taken off, Q16. -/
def slopeOf (p : DynPar) : Int := if p.ratio = 0xFFFF then 65536 else 65536 - ((2 ^ 24 + p.ratio / 2) / p.ratio : Nat)

/-- The reduction that one detector sample asks for, Q16 of 1/256 dB (06 R248). -/
def wantedGain (p : DynPar) (x : W32) : Int :=
  let lev := (log2Of (mag x)).toInt
  let dbfs := max (rnd ((lev - 23 * 65536) * 1541) 16) (-49152)
  let above := dbfs - p.thr
  let w : Int := p.knee
  if 2 * above ≤ -w then 0
  else if w ≤ 2 * above then above * slopeOf p
  else (((2 * above + w) ^ 2 * slopeOf p).toNat + 4 * p.knee) / (8 * p.knee) |> Int.ofNat

/-- One sample of a channel: the smoothed reduction, the delayed audio and the output (06 R248, R249). -/
def dynSample (p : DynPar) (look : Nat) (aa ar : Int) (gt : Int) (a : W32) (r : DynRun) : DynRun × W32 :=
  let g := if r.g < gt then r.g + rnd ((gt - r.g) * aa) 32 else r.g - rnd ((r.g - gt) * ar) 32
  let buf := (a :: r.buf).take 65
  let code := (clampI 1 0xFFFF (0xC000 - rnd g 16 + p.makeup)).toNat
  ({ g := g, buf := buf, maxRed := max r.maxRed (rnd g 16) }, sat (coefMul (buf.getD look 0).toInt (linOf code)))

/-- A block of a channel, against the reductions asked for at each sample. -/
def dynBlock (p : DynPar) (look fs : Nat) : List Int → List W32 → DynRun → DynRun × List W32
  | gt :: gs, a :: as_, r =>
    let x := dynSample p look (attackOf p fs) (releaseOf p fs) gt a r
    let y := dynBlock p look fs gs as_ x.1
    (y.1, x.2 :: y.2)
  | _, _, r => (r, [])

/-! ## Operator meters -/

/-- One second-order section on a sample: output, states, and whether it saturated (04 R144). -/
def section2 (co : Nat → Int) (x : Int) (z : Int × Int) : Int × (Int × Int) × Bool :=
  let acc := (BitVec.ofInt 80 (co 0 * x + z.1)).toInt
  let y := sat32 (rnd acc 29)
  (y, ((BitVec.ofInt 80 (co 1 * x - co 3 * y + z.2)).toInt, (BitVec.ofInt 80 (co 2 * x - co 4 * y)).toInt), y != rnd acc 29)

/-- The largest 48-bit unsigned value. -/
def max48 : Nat := 2 ^ 48 - 1

/-- A rounded right shift with saturation to 48 bits, and whether it saturated. -/
def shift48 (v sh : Nat) : Nat × Bool := let y := (rnd v sh).toNat; (min y max48, decide (max48 < y))

/-- The biquads of a meter in turn. -/
def meterBq (c : OpMeterCfg) (x : Int) (r : MeterRun) : Int × MeterRun :=
  (List.range 3).foldl (fun (a : Int × MeterRun) i =>
    if bit c.bqEn i then
      let y := section2 (fun j => c.coeff.getD (5 * i + j) 0) a.1 (a.2.bq.getD i (0, 0))
      let bq := (List.range 3).map fun j => if j = i then y.2.1 else a.2.bq.getD j (0, 0)
      (y.1, { a.2 with bq := bq, ovf := a.2.ovf || y.2.2 })
    else a) (x, r)

/-- A value enters the moving average (06 R251, R253). -/
def meterAvg (c : OpMeterCfg) (v : Nat) (r : MeterRun) : MeterRun :=
  let win := (v :: r.win).take c.avgLen
  let y := shift48 (if bit c.flags 3 then lmax win else lsum win) c.shAvg
  { r with win := win, level := y.1, ovf := r.ovf || y.2 }

/-- A value enters decimation stage `i` of `k`; past the last stage it enters the average. -/
def meterDec (c : OpMeterCfg) : Nat → Nat → Nat → MeterRun → MeterRun
  | 0, _, v, r => meterAvg c v r
  | n + 1, i, v, r =>
    let put := fun (x : Option Nat) => (List.range c.decK).map fun j => if j = i then x else r.dec.getD j none
    match r.dec.getD i none with
    | none => { r with dec := put (some v) }
    | some u =>
      let y := shift48 (if bit c.flags 2 then max u v else u + v) c.shDec
      meterDec c n (i + 1) y.1 { r with dec := put none, ovf := r.ovf || y.2 }

/-- The coarse value of a block that has ended is shown (06 R252). -/
def coarseEnd (r : MeterRun) : MeterRun := match r.cDone with | some v => { r with cVal := v, cDone := none } | none => r

/-- Once `M 2^k` samples have entered, the slow path is shown (06 R253). -/
def slowReady (c : OpMeterCfg) (r : MeterRun) : MeterRun :=
  if r.coarse && decide (c.avgLen * 2 ^ c.decK ≤ r.entered) then { r with coarse := false } else r

/-- A detector value enters the coarse path. -/
def meterCoarse (blockLen v : Nat) (r : MeterRun) : MeterRun :=
  if blockLen ≤ r.cCount + 1 then { coarseEnd r with cDone := some (r.cSum + v), cSum := 0, cCount := 0 }
  else { r with cSum := r.cSum + v, cCount := r.cCount + 1 }

/-- One sample of an operator meter (06 R251, R252). -/
def meterSample (c : OpMeterCfg) (blockLen : Nat) (x : W32) (r : MeterRun) : MeterRun :=
  let (y, r) := meterBq c x.toInt r
  let y := sat32 (rnd y c.shBq)
  let m := if bit c.flags 1 then y.natAbs * y.natAbs else y.natAbs
  let (v, o) := shift48 m c.shDet
  let r := { r with ovf := r.ovf || o, entered := r.entered + 1 }
  meterDec c c.decK 0 v (meterCoarse blockLen v r)

/-! ## Test generators -/

/-- `floor(pi 2^128)`. -/
def pi128 : Nat := 1069028584064966747859680373161870783300

/-- The alternating sum of `n` terms of the sine series from term `i` on; `q` is the square of the angle; all scaled by `2^128`. -/
def sinSum : Nat → Nat → Nat → Nat → Int
  | 0, _, _, _ => 0
  | n + 1, i, q, t => (t : Int) - sinSum n (i + 1) q (t * q / 2 ^ 128 / (2 * i * (2 * i + 1)))

/-- `round(2^23 sin(2 pi a / 2^32))`, correctly rounded: no angle comes within `10^-10` of a tie, and the series is exact to
`2^-70` (09 R365; log entry 15). -/
def sine23 (a : Nat) : Int :=
  let h := a % 2 ^ 31
  let q := if 2 ^ 30 < h then 2 ^ 31 - h else h
  let t := q * pi128 / 2 ^ 31
  let v := rnd (sinSum 22 1 (t * t / 2 ^ 128) t) 105
  if a % 2 ^ 32 < 2 ^ 31 then v else -v

/-- Bounds a signal value to 24 bits, symmetric (09 R365). -/
def sig24 (v : Int) : Int := clampI (-(2 ^ 23 - 1)) (2 ^ 23 - 1) v

/-- One step of the noise register (09 R365). -/
def lfsrStep (x : Nat) : Nat := if bit x 0 then Nat.xor (x / 2) 0x80200003 else x / 2

/-- Coefficients of the pink-noise sections: `round(2^29 value)` of `1`, `-z`, `0`, `-p`, `0` (09 R365). -/
def pinkCoef (i j : Nat) : Int :=
  let z : List Int := [528515075, 447709184, 40632318]
  let p : List Int := [534577153, 508903422, 287588353]
  match j with
  | 0 => 2 ^ 29
  | 1 => -(z.getD i 0)
  | 3 => -(p.getD i 0)
  | _ => 0

/-- A value through the three pink-noise sections. -/
def pinkRun (x : Int) (z : List (Int × Int)) : Int × List (Int × Int) :=
  let y := (List.range 3).foldl (fun (a : Int × List (Int × Int)) i =>
    let o := section2 (pinkCoef i) a.1 (z.getD i (0, 0))
    (o.1, a.2 ++ [o.2.1])) (x, [])
  (sig24 (rnd y.1 3), y.2)

/-- The noise values of `n` samples, with the register and the sections after them. -/
def noiseRun (pink : Bool) : Nat → Nat → List (Int × Int) → List Int × Nat × List (Int × Int)
  | 0, x, z => ([], x, z)
  | n + 1, x, z =>
    let x := lfsrStep x
    let w := sig24 (signed 24 (x / 256))
    let (u, z) := if pink then pinkRun w z else (w, z)
    let r := noiseRun pink n x z
    (u :: r.1, r.2)

/-- The value of a signal without noise at sample position `n` (09 R365). -/
def tgValue (g : TgCfg) (n : Nat) : Int :=
  match g.signal with
  | 1 => sig24 (sine23 (g.arg * n % 2 ^ 32))
  | 4 => if n % g.arg = 0 then 2 ^ 23 - 1 else 0
  | 5 => signed 24 n
  | _ => 0

/-- The sample that a generator writes (09 R365). -/
def tgOut (g : TgCfg) (u : Int) : W32 := if g.level = 0 then 0 else sat (coefMul u (linOf g.level))

/-- The seed of a channel's noise (09 R365). -/
def tgSeed (g : TgCfg) (c : Nat) : Nat := 0x5EED0001 + if bit g.flags 1 then c else 0

/-- One tick of a generator's channel: its block, and the noise state kept. -/
def tgChannel (gen : Nat) (g : TgCfg) (k n c : Nat) (f : Fixed) : List W32 × Fixed :=
  if g.signal = 2 ∨ g.signal = 3 then
    let key := 64 * gen + c
    let r := noiseRun (g.signal == 3) n (tgetD f.lfsr key (tgSeed g c)) (tgetD f.pink key [])
    (r.1.map (tgOut g), { f with lfsr := tset f.lfsr key r.2.1, pink := if g.signal = 3 then tset f.pink key r.2.2 else f.pink })
  else ((List.range n).map fun j => tgOut g (tgValue g (k * n + j)), f)

/-- Every generator writes its SRC slots for a sample tick (09 R365, R366). -/
def runTestGens (c : Cfg) (k : Nat) (src : Tab Blk) (f : Fixed) : Tab Blk × Fixed :=
  (c.tg.filter fun g => bit g.2.flags 0).foldl (fun a g =>
    (List.range g.2.channels).foldl (fun (a : Tab Blk × Fixed) ch =>
      let x := tgChannel g.1 g.2 k c.n ch a.2
      (putBlk a.1 (g.2.srcBase + ch) x.1, x.2)) a) (src, f)

end Sys2Proof.Machine
end

