-- ==== Sys2Proof/Machine/Measure.lean ====
section
/-! DEFINITION. The measurands of the Sealed Meter: its fixed weightings, time constant and gates, the running figures of each point, and the
codes they are stored as (19 R683-R687). No command changes a weighting, a time constant or a gate: they stand here and in Config (R685). -/

namespace Sys2Proof.Machine

/-! ## The points -/

/-- Whether a point is enabled. -/
def pointOn (t : Tab Point) (i : Nat) : Bool := bit (tgetD t i {}).flags 0

/-- Which of V1 to V4 a point has (19 R684). -/
def hasValue (p : Point) (v : Nat) : Bool := bit p.flags 0 && (p.kind != 3 || v == 3)

/-- BS.1770 channel weights times 100, by group size and place in the group: L, R, C, LFE, Ls, Rs (19 R684, R687). -/
def chanWeight (i : Nat) : Nat := if i < 3 then 100 else if i = 3 then 0 else 141

/-! ## Sample by sample -/

/-- A sample through a fixed weighting: the filter of R251 with the coefficients of the rate (19 R683, R685). -/
def weigh (curve rate : Nat) (x : Int) (z : List (Int × Int)) : Int × List (Int × Int) :=
  (List.range 3).foldl (fun (a : Int × List (Int × Int)) i =>
    let o := section2 (fun j => (Config.meterCoef curve rate i j).toInt) a.1 (z.getD i (0, 0))
    (o.1, a.2 ++ [o.2.1])) (x, [])

/-- The F time weighting of a squared sample, with 16 fraction bits: a time constant of 125 ms (19 R684). -/
def fastStep (fs sq g : Nat) : Nat := ((g : Int) + rnd (((sq * 65536 : Nat) - (g : Int)) * smoothing 8 fs) 32).toNat

/-- The magnitude that the peak path finds at the newest sample: oversampled 4 times at 44.1 and 48 kHz, 2 times at 88.2 and 96 kHz, once
above (19 R684). -/
def peakOf (rate : Nat) (last : List Int) : Nat :=
  if rate < 2 then Config.overPeak 4 last else if rate < 4 then Config.overPeak 2 last else (last.headD 0).natAbs

/-- One sample of an enabled point (19 R684): the weighted sums, the F level and the peak. An exposure point weighs A and, for its peak, C;
a loudness point weighs K and takes its peak from the sample itself. -/
def pointSample (p : Point) (rate : Nat) (x : W32) (r : PtRun) : PtRun :=
  let (y, a) := weigh (if p.kind = 1 then 0 else 2) rate x.toInt r.bqA
  let (c, z) := if p.kind = 1 then weigh 1 rate x.toInt r.bqC else (x.toInt, r.bqC)
  let sq := y.natAbs * y.natAbs
  let fast := fastStep (rateHz rate) sq r.fast
  let last := (c :: r.recent).take 12
  { r with bqA := a, bqC := z, sum := r.sum + sq, n := r.n + 1, fast := fast, fastMax := max r.fastMax fast, recent := last,
           peak := max r.peak (peakOf rate last), stepSum := r.stepSum + sq }

/-! ## Every 100 ms -/

/-- The mean square of the last `k` steps, times `2^20`; `none` until `k` steps have come. -/
def stepMean (k : Nat) (l : List (Nat × Nat)) : Option Nat :=
  if l.length < k then none else some ((lsum ((l.take k).map (·.1))) * 2 ^ 20 / (100 * lsum ((l.take k).map (·.2))))

/-- The larger of two values of which one may not be there. -/
def maxOpt : Option Nat → Option Nat → Option Nat
  | some a, some b => some (max a b)
  | none, b => b
  | a, none => a

/-- The end of a leader's 100 ms: a 400 ms block and a 3 s window end with it (19 R684). -/
def leaderStep (sum n : Nat) (r : PtRun) : PtRun :=
  let steps := ((sum, n) :: r.steps).take 30
  let z := stepMean 4 steps
  { r with steps := steps, mom := maxOpt r.mom z, short := maxOpt r.short (stepMean 30 steps), gate := z.toList ++ r.gate }

/-- The weighted sum of a leader's group over the 100 ms that end (19 R684, R687). -/
def groupSum (m : Meter) (p : Nat) : Nat :=
  let g := (tgetD m.points p {}).group
  lsum ((List.range g).map fun i => if pointOn m.points (p + i) then chanWeight i * (tgetD m.runs (p + i) {}).stepSum else 0)

/-- 100 ms end: the leaders take their groups' sums, and what METER_GET_LIVE shows is taken (19 R684, R711). -/
def stepEnd (m : Meter) : Meter :=
  let runs := tmapK (fun p r =>
    let q := tgetD m.points p ({} : Point)
    { (if q.kind = 2 then leaderStep (groupSum m p) m.stepN r else r) with stepSum := 0 }) m.runs
  { m with runs := runs, shown := runs, stepN := 0 }

/-- Samples `j` to `j + n - 1` of a tick enter every enabled point. -/
def measurePart (rate j n : Nat) (blk : Nat → Blk) (m : Meter) : Meter :=
  let pts := (List.range 16).filter (pointOn m.points)
  { m with
    runs := pts.foldl (fun t p =>
      let q := tgetD m.points p ({} : Point)
      tset t p ((List.range n).foldl (fun r i => pointSample q rate (smp (blk q.slot) (j + i)) r) (tgetD t p {}))) m.runs
    stepN := m.stepN + n }

/-- A tick's block of `n` samples enters the measurands; 100 ms may end within it. `blk`: the block of a SLOT field (19 R682, R684). -/
def meterTick (rate n : Nat) (blk : Nat → Blk) (m : Meter) : Meter :=
  let left := rateHz rate / 10 - m.stepN
  if n < left then measurePart rate 0 n blk m
  else measurePart rate left (n - left) blk (stepEnd (measurePart rate 0 left blk m))

/-! ## Levels -/

/-- The largest number below `2^w` that passes a test true of all smaller ones; `none` if zero does not pass. -/
def largestFit (test : Nat → Bool) : Nat → Nat → Option Nat
  | 0, lo => if test lo then some lo else none
  | w + 1, lo => largestFit test w (if test (lo + 2 ^ w) then lo + 2 ^ w else lo)

/-- Whether `10 log10 (num / den)` is at least `e / u` dB: whether `(num / den)^(10 u)` is at least `10^e`. -/
def levelAtLeast (num den u : Nat) (e : Int) : Bool :=
  decide (den ^ (10 * u) * 10 ^ e.toNat ≤ num ^ (10 * u) * 10 ^ (-e).toNat)

/-- The code of `10 log10 (num / den) + off / 100` dB: `round(10 (value + 150))`, 0x000 at -150.0 and below, 0xFFE at 259.4 and above
(19 R686). -/
def levelCode (num den : Nat) (off : Int) : Nat :=
  if num = 0 then 0
  else min 0xFFE ((largestFit (fun y => levelAtLeast num den 100 (10 * y - 5 - off - 15000)) 12 0).getD 0)

/-- `10 log10 (num / den) + off / 100` dB in 1/100 dB, nearest; `none` where the level is no number of 16 bits (19 R711). -/
def levelCenti (num den : Nat) (off : Int) : Option Int :=
  if num = 0 then none
  else
    match largestFit (fun y => levelAtLeast num den 200 (2 * ((y : Int) - 32767 - off) - 1)) 16 0 with
    | some y => if y = 65535 then none else some (y - 32767)
    | none => none

/-- The integrated mean square of gated blocks, as a sum and a count: -70 LKFS absolute, then -10 LU relative (19 R684). -/
def integrated (blocks : List Nat) : Nat × Nat :=
  let a := blocks.filter fun z => decide (2 ^ 66 < z * 10000000)
  let g := a.filter fun z => decide (lsum a < z * 10 * a.length)
  (lsum g, g.length)

/-- What stands behind a value of a point (19 R684): the ratio whose `10 log10` it is, and an offset in 1/100 dB; `none` where no audio that
it needs has come. -/
def ratioOf (p : Point) (r : PtRun) (v : Nat) : Option (Nat × Nat × Int) :=
  let some_ := fun (o : Option Nat) => o.map fun z => (z, 2 ^ 66, (0 : Int))
  if p.kind = 1 then
    match v with
    | 0 => if r.n = 0 then none else some (r.sum, r.n * 2 ^ 45, p.cal)
    | 1 => if r.n = 0 then none else some (r.fastMax, 2 ^ 61, p.cal)
    | 2 => if r.n = 0 then none else some (r.peak * r.peak, 2 ^ 45, p.cal)
    | _ =>
      let l := (r.sum, r.n) :: r.past.take (p.tMin - 1)
      let n := lsum (l.map (·.2))
      if n = 0 then none else some (lsum (l.map (·.1)), n * 2 ^ 45, p.cal)
  else
    match v with
    | 0 => let g := integrated r.gate; if g.2 = 0 then none else some (g.1, g.2 * 2 ^ 66, 0)
    | 1 => some_ r.mom
    | 2 => some_ r.short
    | _ => if r.n = 0 then none else some (r.peak * r.peak, 2 ^ 46, 0)

/-! ## Minutes -/

/-- A point at a minute boundary: the minute's figures begin anew, filters and windows go on (19 R684). -/
def minuteRun (r : PtRun) : PtRun :=
  { r with sum := 0, n := 0, fastMax := 0, peak := 0, past := ((r.sum, r.n) :: r.past).take 59, mom := none, short := none }

/-- A restart of a leader's integration: blocks of 400 ms that begin from here on (19 R684, R711). -/
def restartRun (r : PtRun) : PtRun := { r with steps := [], gate := [] }

/-- The runs of a new minute: a point whose block is not the one it had begins anew, and so does a leader one of whose group's blocks is not;
`mask`: the leaders that METER_LOUD_RESET restarts. -/
def minuteRuns (old now : Tab Point) (mask : Nat) (t : Tab PtRun) : Tab PtRun :=
  let same := fun p => decide (tgetD old p ({} : Point) = tgetD now p {})
  let kept := t.filter fun x => pointOn now x.1 && same x.1
  tmapK (fun p r =>
    let q := tgetD now p ({} : Point)
    let r := minuteRun r
    if q.kind = 2 ∧ (bit mask p ∨ !((List.range q.group).all fun i => same (p + i))) then restartRun r else r) kept

/-- The leaders whose integration starts at a minute boundary because their group's blocks changed (19 R697). -/
def newLeaders (old now : Tab Point) : Nat :=
  ofBits ((List.range 16).filter fun p =>
    let q := tgetD now p ({} : Point)
    pointOn now p && q.kind == 2 && !((List.range q.group).all fun i => decide (tgetD old (p + i) ({} : Point) = tgetD now (p + i) {})))

end Sys2Proof.Machine
end

