-- ==== Sys2Proof/Machine/MeterOps.lean ====
section
/-! DEFINITION. The Sealed Meter's mailbox operations (19 R688-R712). -/

namespace Sys2Proof.Machine

/-- Changes the meter. -/
def modMeter (f : Meter → Meter) (s : State) : State := { s with meter := f s.meter }

/-- The status line raises the fault of an alarm, unless the node is Off (19 R708, R710). -/
def statusLine (code : Nat) (s : State) : State := if s.mode.mode = 0 then s else raise 0x1201 code s

/-- An alarm of the meter begins or ends; its beginning raises the fault of the status line (19 R710). -/
def meterAlarm (code : Nat) (on : Bool) (s : State) : State :=
  let was := bit s.meter.alarms code
  if on && !was then statusLine code (modMeter (fun m => { m with alarms := m.alarms ||| 2 ^ code }) s)
  else if !on && was then modMeter (fun m => { m with alarms := m.alarms - 2 ^ code }) s
  else s

/-- The export alarm (19 R703). -/
def exportAlarm (s : State) : State := meterAlarm 5 (decide (s.meter.ring ≤ s.meter.idx - s.meter.exported + 1440)) s

/-- A mailbox operation: a meter without VMET does not answer, and the reply waits for the timeout (19 R709). -/
def mailbox (p : State → Req → Plan) (s : State) (r : Req) : Plan :=
  if s.meter.vmet then p s r
  else { len := (p s r).len, act := fun s => { hold := true, st := { s with cp := { s.cp with meterWait := s.cp.meterWait ++ [r] } } } }

/-- Whether the seal leaves the meter open to change (19 R692). -/
def open_ (s : State) : Bool × Nat × Nat := chkSt (s.meter.sealSt == 1) SEALED

/-! ## Identity -/

/-- The bytes of an image loaded in pieces. -/
def imageBytes (l : List (Nat × List Byte)) (n : Nat) : List Byte :=
  rdCells zeroAt (l.foldl (fun m x => wrCells zeroAt m x.1 x.2) []) 0 n

/-- Length of a loaded image: the end of its last byte. -/
def imageLen (l : List (Nat × List Byte)) : Nat := lmax (l.map fun x => x.1 + x.2.length)

/-- FW_ID of the running program (19 R706). -/
def meterFwId (m : Meter) : List Byte :=
  if m.imgRun then (sha256 (imageBytes m.image (imageLen m.image))).take 8 else (List.range 8).map Config.meterRomId

/-- FW_VERSION of the running program (19 R712). -/
def meterFwVersion (m : Meter) : Nat :=
  if m.imgRun then (Config.meterImageVersion (imageBytes m.image (imageLen m.image))).toNat else Config.meterRomVersion.toNat

/-- The METER_GET_INFO payload (19 R712). -/
def meterInfo (s : State) : List Byte :=
  let m := s.meter
  toBE 1 m.sealSt ++ toBE 1 (b2n m.imgRun + 2 * b2n m.batLow + 4 * b2n (!m.free)) ++ toBE 2 m.sec ++ meterFwId m
    ++ toBE 4 (meterFwVersion m)
    ++ (List.range 32).map Config.meterKey ++ toBE 4 m.idx ++ toBE 4 m.exported ++ toBE 6 m.time ++ toBE 2 m.ring ++ fit 64 m.lastSig ++ toBE 4 m.lastBlk

/-- METER_GET_INFO (19 R712). -/
def planMeterGetInfo : State → Req → Plan := mailbox (readPlan meterInfo)

def execMeterGetInfo (r : Req) (s : State) : Host.Outcome State Fault Refusal := .next (settle (execOp 0x0801 planMeterGetInfo r s))

/-! ## Configuration and seal -/

/-- The METER_SET_POINT block (19 R688). -/
def pointOf (r : Req) : Point :=
  { flags := par r 1 1, kind := par r 2 1, group := par r 3 1, slot := par r 4 2, cal := parS r 6 2, tMin := par r 8 1 }

/-- METER_SET_POINT (19 R688, R689, R692). -/
def planMeterSetPoint : State → Req → Plan := mailbox fun s r =>
  let k := par r 2 1
  let g := par r 3 1
  let sl := par r 4 2
  let t := par r 8 1
  { len := r.params.length == 12,
    checks := [chk (decide (par r 0 1 < 16)) 0, chk (decide (par r 1 1 < 2)) 1, chk (rng 1 3 k) 2, chk (g == 0 || g == 1 || g == 2 || g == 6) 3,
               chk ((sl / 16384 == 0 || sl / 16384 == 3) && bits sl 13 12 == 0) 4, chk (decide (-20000 ≤ parS r 6 2) && decide (parS r 6 2 ≤ 20000)) 6,
               chk (decide (t ≤ 60)) 8, chkZero r 9 3, chkRel ((k == 2) == (g != 0)), chkRel (k == 1 || par r 6 2 == 0), chkRel ((k == 1) == (t != 0)), open_ s],
    act := act (modMeter fun m => { m with next := tset m.next (par r 0 1) (pointOf r) }) }

def execMeterSetPoint (r : Req) (s : State) : Host.Outcome State Fault Refusal := .next (settle (execOp 0x0802 planMeterSetPoint r s))

/-- The points as they will stand at the next minute boundary (19 R689). -/
def pointsThen (m : Meter) : Tab Point := tmerge m.points m.next

/-- A METER_SET_POINT block. -/
def pointBytes (i : Nat) (p : Point) : List Byte :=
  toBE 1 i ++ toBE 1 p.flags ++ toBE 1 p.kind ++ toBE 1 p.group ++ toBE 2 p.slot ++ toBES 2 p.cal ++ toBE 1 p.tMin ++ zeroBytes 3

/-- METER_GET_POINTS (19 R689). -/
def planMeterGetPoints : State → Req → Plan := mailbox (readPlan fun s => (List.range 16).flatMap fun i => pointBytes i (tgetD (pointsThen s.meter) i {}))

def execMeterGetPoints (r : Req) (s : State) : Host.Outcome State Fault Refusal := .next (settle (execOp 0x0803 planMeterGetPoints r s))

/-- Whether every leader has its members and every member a leader (19 R687, R691). -/
def groupsWhole (t : Tab Point) : Bool :=
  let at_ := fun i => tgetD t i ({} : Point)
  let leads := (List.range 16).filter fun i => pointOn t i && (at_ i).kind == 2
  (leads.all fun p => (List.range ((at_ p).group - 1)).all fun i => pointOn t (p + 1 + i) && (at_ (p + 1 + i)).kind == 3)
    && (List.range 16).all fun i => !pointOn t i || (at_ i).kind != 3 || leads.any fun p => decide (p < i) && decide (i < p + (at_ p).group)

/-- METER_SEAL (19 R691). -/
def planMeterSeal : State → Req → Plan := mailbox fun s r =>
  let t := pointsThen s.meter
  { len := r.params.isEmpty,
    checks := [chkRel (s.meter.sealSt == 1), chkRel ((List.range 16).any (pointOn t)), chkRel (groupsWhole t)],
    act := act (modMeter fun m => { m with sealSt := 2, sealEv := true }) }

def execMeterSeal (r : Req) (s : State) : Host.Outcome State Fault Refusal := .next (settle (execOp 0x0804 planMeterSeal r s))

/-- METER_UNSEAL burns one fuse of the Seal Event Counter (19 R693). -/
def planMeterUnseal : State → Req → Plan := mailbox fun s r =>
  { len := r.params.isEmpty,
    checks := [chkRel (s.meter.sealSt != 1), chkSt (decide (s.meter.sec < 4095)) TABLE_FULL],
    act := act fun s =>
      let s := modMeter (fun m => { m with sealSt := 1, sec := m.sec + 1, sealEv := true, unsealed := true }) s
      meterAlarm 4 false (meterAlarm 7 (decide (4095 ≤ s.meter.sec)) s) }

def execMeterUnseal (r : Req) (s : State) : Host.Outcome State Fault Refusal := .next (settle (execOp 0x0805 planMeterUnseal r s))

/-! ## Records -/

/-- The oldest INDEX held (19 R701). -/
def oldestRec (m : Meter) : Nat := match m.records with | [] => m.idx | (k, _) :: _ => k

/-- The payload of METER_READ and the status (19 R702). -/
def meterRead (m : Meter) (first count : Nat) : Nat × List Byte :=
  let h := toBE 4 (oldestRec m) ++ toBE 4 m.idx ++ zeroBytes 8
  if m.idx ≤ first then (NO_DATA, h)
  else (OK, h ++ ((m.records.filter fun x => decide (first ≤ x.1)).take count).flatMap fun x => x.2)

/-- METER_READ (19 R702). -/
def planMeterRead : State → Req → Plan := mailbox fun _ r =>
  { len := r.params.length == 5, checks := [chk (rng 1 (if r.src = .link then 11 else 31) (par r 4 1)) 4],
    act := fun s => let x := meterRead s.meter (par r 0 4) (par r 4 1); { st := s, status := x.1, payload := x.2 } }

def execMeterRead (r : Req) (s : State) : Host.Outcome State Fault Refusal := .next (settle (execOp 0x0806 planMeterRead r s))

/-- Sets the export index (19 R703). -/
def ackExport (i : Nat) (s : State) : State := exportAlarm (modMeter (fun m => { m with exported := i }) s)

/-- METER_ACK_EXPORT (19 R703). -/
def planMeterAckExport : State → Req → Plan := mailbox fun _ r => { len := r.params.length == 4, act := act (ackExport (par r 0 4)) }

def execMeterAckExport (r : Req) (s : State) : Host.Outcome State Fault Refusal := .next (settle (execOp 0x0807 planMeterAckExport r s))

/-- A value of METER_GET_LIVE: 0x8000 for none; a level that is no number of 16 bits is not stated, and free (19 R711; log entry 70). -/
def liveValue (m : Meter) (p v : Nat) (s : State) : Int × State :=
  let q := tgetD m.points p ({} : Point)
  if m.sealSt != 3 && hasValue q v then
    match ratioOf q (tgetD m.shown p {}) v with
    | some (a, b, off) =>
      match levelCenti a b off with
      | some y => (y, s)
      | none => freshInt 16 s
    | none => (-32768, s)
  else (-32768, s)

/-- The METER_GET_LIVE payload: the quantities behind V1 to V4 as they stood at the last end of 100 ms (19 R684, R711). -/
def meterLive (s : State) : List Byte × State :=
  (List.range 64).foldl (fun (a : List Byte × State) i =>
    let x := liveValue s.meter (i / 4) (i % 4) a.2
    (a.1 ++ toBES 2 x.1, x.2)) ([], s)

/-- METER_GET_LIVE (19 R711). -/
def planMeterGetLive : State → Req → Plan := mailbox fun _ r =>
  { len := r.params.isEmpty, act := fun s => let x := meterLive s; { payload := x.1, st := x.2 } }

def execMeterGetLive (r : Req) (s : State) : Host.Outcome State Fault Refusal := .next (settle (execOp 0x0808 planMeterGetLive r s))

/-- METER_LOUD_RESET (19 R711). -/
def planMeterLoudReset : State → Req → Plan := mailbox fun _ r =>
  { len := r.params.length == 2, act := act (modMeter fun m => { m with restart := m.restart ||| par r 0 2 }) }

def execMeterLoudReset (r : Req) (s : State) : Host.Outcome State Fault Refusal := .next (settle (execOp 0x0809 planMeterLoudReset r s))

/-- METER_SET_EXPORT (19 R704, R711). -/
def planMeterSetExport : State → Req → Plan := mailbox fun _ r =>
  { len := r.params.length == 1, checks := [chk (decide (par r 0 1 < 5)) 0], act := act (modMeter fun m => { m with baud := par r 0 1 }) }

def execMeterSetExport (r : Req) (s : State) : Host.Outcome State Fault Refusal := .next (settle (execOp 0x080A planMeterSetExport r s))

/-! ## Firmware images -/

/-- A new ring length: the newest records it can hold are kept (19 R701). -/
def setRing (n : Nat) (m : Meter) : Meter := { m with ring := n, records := m.records.drop (m.records.length - n) }

/-- METER_FW_LOAD (19 R707): the first piece shrinks the ring. -/
def planMeterFwLoad : State → Req → Plan := mailbox fun s r =>
  let data := r.params.drop 4
  { len := rng 5 4084 r.params.length,
    checks := [chk (decide (par r 0 4 < 262144)) 0, chkRel (decide (par r 0 4 + data.length ≤ 262144)),
               chkSt (!s.meter.imgRun && s.meter.imgNext != some true) BUSY, open_ s],
    act := act fun s => exportAlarm (modMeter (fun m => { setRing 14336 m with image := m.image ++ [(par r 0 4, data)], loading := true }) s) }

def execMeterFwLoad (r : Req) (s : State) : Host.Outcome State Fault Refusal := .next (settle (execOp 0x080B planMeterFwLoad r s))

/-- METER_FW_END (19 R707): a good image runs from the next minute boundary; a bad one is discarded. -/
def planMeterFwEnd : State → Req → Plan := mailbox fun s r =>
  let n := par r 0 4
  { len := r.params.length == 4,
    checks := [chk (rng 1 262144 n) 0, chkRel s.meter.loading, open_ s],
    act := fun s =>
      let b := imageBytes s.meter.image n
      if Config.meterImageGood b then
        { st := modMeter (fun m => { m with image := [(0, b)], loading := false, imgNext := some true }) s }
      else
        { st := exportAlarm (modMeter (fun m => { setRing 16384 m with image := [], loading := false }) s), status := BAD_PARAM, err := 0xFFFF } }

def execMeterFwEnd (r : Req) (s : State) : Host.Outcome State Fault Refusal := .next (settle (execOp 0x080C planMeterFwEnd r s))

/-- METER_FW_REMOVE (19 R707). -/
def planMeterFwRemove : State → Req → Plan := mailbox fun s r =>
  { len := r.params.isEmpty, checks := [open_ s], act := act (modMeter fun m => { m with imgNext := some false }) }

def execMeterFwRemove (r : Req) (s : State) : Host.Outcome State Fault Refusal := .next (settle (execOp 0x080D planMeterFwRemove r s))

end Sys2Proof.Machine
end

