-- ==== Sys2Proof/Machine/PortsOps.lean ====
section
/-! DEFINITION. The commands of the serial and AES3 ports, the Drive Modulator, the Service Listen Port and the test generators
(09 R325-R368). -/

namespace Sys2Proof.Machine

/-! ## Serial ports -/

/-- Whether a first slot exists when its direction is enabled. -/
def baseOk (on : Bool) (b : Nat) : Bool := !on || decide (b < 4096)

/-- Whether a range of slots lies in a slot space when its direction is enabled. -/
def spanOk (on : Bool) (b n : Nat) : Bool := !on || decide (b + n ≤ 4096)

/-- SP_CONFIG (09 R325, R326, R331, R334, R335). -/
def planSpConfig (s : State) (r : Req) : Plan :=
  let f := par r 1 1
  let ch := par r 3 1
  let fmt := par r 2 1
  let g := stagedOf s r
  let wd := fun (v : Nat) => v == 16 || v == 24 || v == 32
  { len := r.params.length == 16,
    checks := [chk (decide (par r 0 1 < 8)) 0, chk (decide (f < 64)) 1, chk (decide (fmt < 3)) 2, chk (decide (2 ≤ ch) && decide (ch ≤ 32)) 3,
               chk (wd (par r 4 1)) 4, chk (wd (par r 5 1)) 5, chk (decide (par r 6 1 < 2)) 6, chk (decide (par r 7 1 < 3)) 7,
               chk (baseOk (bit f 0) (par r 8 2)) 8, chk (baseOk (bit f 1) (par r 10 2)) 10, chkZero r 12 4,
               chkRel (fmt == 2 || ch == 2), chkRel (decide (par r 4 1 ≤ par r 5 1)), chkRel (fmt == 2 || (par r 6 1 == 0 && par r 7 1 == 0)),
               chkRel (holds s g fun c => spClockOk c.rate (spOf r)), chkRel (spanOk (bit f 0) (par r 8 2) ch),
               chkRel (spanOk (bit f 1) (par r 10 2) ch), chkRel (!(bit f 3 && (bit f 2 || bit f 1))), chkRel (holds s g oneWriter),
               chkSt (holds s g fun c => decide (asrcUsed c ≤ 64)) NO_CAPACITY],
    act := noAct }

def execSpConfig (r : Req) (s : State) : Host.Outcome State Fault Refusal := .next (settle (execOp 0x0401 planSpConfig r s))

/-- Status of a serial port. -/
def spSt (s : State) (p : Nat) : SpSt := tgetD s.ports.sp p {}

/-- Changes the status of a serial port. -/
def modSp (p : Nat) (f : SpSt → SpSt) (s : State) : State := { s with ports := { s.ports with sp := tmod s.ports.sp p {} f } }

/-- One record of SP_GET_STATUS (09 R336): a master runs at the node rate with PHASE zero. -/
def spRecord (s : State) (p : Nat) : List Byte :=
  let x := spSt s p
  toBE 1 p ++ toBE 1 x.state ++ toBES 2 (if x.state = 1 then 0 else x.phase) ++ toBE 4 (if x.state = 1 then rateHz (rate s) else x.rate)
    ++ toBE 2 x.under.n ++ toBE 2 x.overr.n ++ toBE 2 x.loss.n ++ toBE 1 (b2n x.under.sat + 2 * b2n x.overr.sat + 4 * b2n x.loss.sat) ++ toBE 1 0

/-- SP_GET_STATUS (09 R336). -/
def planSpGetStatus : State → Req → Plan := readPlan fun s => (List.range 8).flatMap (spRecord s)

def execSpGetStatus (r : Req) (s : State) : Host.Outcome State Fault Refusal := .next (settle (execOp 0x0402 planSpGetStatus r s))

/-- SP_SET_MCLK (09 R337). -/
def planSpSetMclk (_ : State) (r : Req) : Plan :=
  { len := r.params.length == 4, checks := [chk (decide (par r 0 1 < 4)) 0, chkZero r 1 3],
    act := act fun s => { s with ports := { s.ports with slp := { s.ports.slp with mclk := par r 0 1 } } } }

def execSpSetMclk (r : Req) (s : State) : Host.Outcome State Fault Refusal := .next (settle (execOp 0x0403 planSpSetMclk r s))

/-- SP_CLEAR (09 R368): SP and AE counters and flags. -/
def planSpClear (_ : State) (r : Req) : Plan :=
  { len := r.params.isEmpty,
    act := act fun s => { s with ports := { s.ports with
      sp := tmap (fun (p : SpSt) => { p with under := {}, overr := {}, loss := {} }) s.ports.sp,
      ae := tmap (fun (p : AeSt) => { p with parity := {}, crcc := {}, slips := {}, losses := {}, cons := false, valid := false, crccEv := false }) s.ports.ae } } }

def execSpClear (r : Req) (s : State) : Host.Outcome State Fault Refusal := .next (settle (execOp 0x0404 planSpClear r s))

/-! ## AES3 ports -/

/-- Eight bits, least significant first, of the CRCC of AES3: polynomial x^8 + x^4 + x^3 + x^2 + 1 (PRESUMED: from AES3, which 09 R339
and R340 name). -/
def crccByte (c : Nat) (b : Byte) : Nat :=
  (List.range 8).foldl (fun c i => if bit c 7 != b.getLsbD i then (c * 2 % 256) ^^^ 0x1D else c * 2 % 256) c

/-- The CRCC of 23 bytes of channel status as byte 23 carries it: all ones to start, sent highest power first. -/
def crcc (bs : List Byte) : Nat := let c := bs.foldl crccByte 0xFF; ofBits ((List.range 8).filter fun i => bit c (7 - i))

/-- AE_CONFIG (09 R342). -/
def planAeConfig (s : State) (r : Req) : Plan :=
  let f := par r 1 1
  let g := stagedOf s r
  { len := r.params.length == 8,
    checks := [chk (decide (par r 0 1 < 4)) 0, chk (decide (f < 16)) 1, chk (spanOk (bit f 0) (par r 2 2) 2) 2, chk (spanOk (bit f 1) (par r 4 2) 2) 4,
               chk (decide (par r 6 1 < 3)) 6, chkZero r 7 1, chkRel (holds s g oneWriter),
               chkSt (holds s g fun c => decide (asrcUsed c ≤ 64)) NO_CAPACITY],
    act := noAct }

def execAeConfig (r : Req) (s : State) : Host.Outcome State Fault Refusal := .next (settle (execOp 0x0410 planAeConfig r s))

/-- Status of an AES3 port. -/
def aeSt (s : State) (p : Nat) : AeSt := tgetD s.ports.ae p {}

/-- Changes the status of an AES3 port. -/
def modAe (p : Nat) (f : AeSt → AeSt) (s : State) : State := { s with ports := { s.ports with ae := tmod s.ports.ae p {} f } }

/-- One record of AE_GET_STATUS (09 R342). -/
def aeRecord (s : State) (p : Nat) : List Byte :=
  let x := aeSt s p
  toBE 1 p ++ toBE 1 x.state ++ toBE 1 (b2n x.cons + 2 * b2n x.valid + 4 * b2n x.crccEv) ++ toBE 1 0 ++ toBE 4 x.rate ++ toBES 2 x.phase
    ++ toBE 2 x.parity.n ++ toBE 2 x.crcc.n ++ toBE 2 x.slips.n ++ toBE 2 x.losses.n ++ zeroBytes 2 ++ fit 24 x.block

/-- AE_GET_STATUS (09 R342): the flags since the last read are cleared. -/
def planAeGetStatus (_ : State) (r : Req) : Plan :=
  { len := r.params.isEmpty,
    act := fun s =>
      { payload := (List.range 4).flatMap (aeRecord s),
        st := { s with ports := { s.ports with ae := tmap (fun (p : AeSt) => { p with valid := false, crccEv := false }) s.ports.ae } } } }

def execAeGetStatus (r : Req) (s : State) : Host.Outcome State Fault Refusal := .next (settle (execOp 0x0411 planAeGetStatus r s))

/-! ## Drive Modulator -/

/-- DRV_CONFIG (09 R345, R354). -/
def planDrvConfig (s : State) (r : Req) : Plan :=
  { len := r.params.length == 8,
    checks := [chk (decide (par r 0 1 < 32)) 0, chk (decide (par r 1 1 < 16)) 1, chk (decide (par r 2 2 < 4096)) 2, chkZero r 4 4,
               chkRel (!bit (par r 1 1) 1 || decide (2 ≤ s.ports.slp.mclk))],
    act := noAct }

def execDrvConfig (r : Req) (s : State) : Host.Outcome State Fault Refusal := .next (settle (execOp 0x0420 planDrvConfig r s))

/-- DRV_SET_FREQ (09 R347, R354). -/
def planDrvSetFreq (_ : State) (r : Req) : Plan :=
  let n := par r 2 1
  { len := r.params.length == 4 + 2 * n,
    checks := [chk (decide (par r 0 1 < 2)) 0, chk (decide (par r 1 1 < 8)) 1, chk (decide (n ≤ 8)) 2, chkZero r 3 1]
      ++ (List.range n).map fun i => chk (decide (520 ≤ par r (4 + 2 * i) 2) && decide (par r (4 + 2 * i) 2 ≤ 1710)) (4 + 2 * i),
    act := noAct }

def execDrvSetFreq (r : Req) (s : State) : Host.Outcome State Fault Refusal := .next (settle (execOp 0x0421 planDrvSetFreq r s))

/-- The configuration in force of a drive channel: DRV_CONFIG acts from the output stage of its sample tick on (02 R69, 09 R368). -/
def drvCfg (s : State) (c : Nat) : DrvCfg := tgetD s.ports.drv.cfg c {}


/-- The state of a drive channel. -/
def drvCh (s : State) (c : Nat) : DrvCh := tgetD s.ports.drv.ch c {}

/-- Changes the state of a drive channel. -/
def modDrv (c : Nat) (f : DrvCh → DrvCh) (s : State) : State :=
  { s with ports := { s.ports with drv := { s.ports.drv with ch := tmod s.ports.drv.ch c {} f } } }

/-- DRV_REARM (09 R349, R351, R354). -/
def planDrvRearm (s : State) (r : Req) : Plan :=
  let m := par r 0 4
  let g := bit (par r 4 1) 0
  { len := r.params.length == 5, checks := [chk (decide (par r 4 1 < 2)) 4, chkSt (!g || s.ports.drv.faultN) BUSY],
    act := act fun s =>
      let s := (bitList m 32).foldl (fun t c => modDrv c (fun x => { x with trip := false }) t) s
      if g then { s with ports := { s.ports with drv := { s.ports.drv with fault := false } } } else s }

def execDrvRearm (r : Req) (s : State) : Host.Outcome State Fault Refusal := .next (settle (execOp 0x0422 planDrvRearm r s))

/-- The state of a drive channel: the earliest condition of R354 that holds, else its run state (09 R354, R355). -/
def drvState (s : State) (c : Nat) : Nat :=
  let d := s.ports.drv
  if !bit (drvCfg s c).flags 0 then 0
  else if d.fault then 7
  else if d.clkErr then 6
  else if (drvCh s c).trip then 5
  else if s.mode.mode = 7 then 8
  else (drvCh s c).run

/-- DRV_EN (09 R354); low through every reset (R369). -/
def drvEn (s : State) : Bool :=
  hasDrv s && (s.ports.drv.cfg.any fun c => bit c.2.flags 0) && !s.ports.drv.fault
    && !(s.ports.drv.clkErr && s.ports.drv.ch.all fun c => c.2.run != 4) && s.mode.mode != 7 && !s.boot.planeR

/-- One record of DRV_GET_STATUS (09 R354). DC is the filter's output in 0.01 % of full scale, rounded as R138 rounds (DESIGN CHOICE,
log entry 50). -/
def drvRecord (s : State) (c : Nat) : List Byte :=
  let x := drvCh s c
  toBE 1 c ++ toBE 1 (drvState s c) ++ toBES 2 (rnd (10000 * x.dc) 23) ++ toBE 2 x.clips.n ++ toBE 1 x.trips
    ++ toBE 1 (b2n x.fbLost + 2 * b2n x.clips.sat)

/-- DRV_GET_STATUS (09 R354). -/
def planDrvGetStatus : State → Req → Plan := readPlan fun s =>
  let d := s.ports.drv
  toBE 1 d.code ++ toBE 1 (b2n (drvEn s) + 2 * b2n d.faultN + 4 * b2n d.clkErr) ++ zeroBytes 2 ++ (List.range 32).flatMap (drvRecord s)

def execDrvGetStatus (r : Req) (s : State) : Host.Outcome State Fault Refusal := .next (settle (execOp 0x0423 planDrvGetStatus r s))

/-! ## Service Listen Port -/

/-- SLP_SET_LISTEN (09 R361, R362): in effect from the first boundary after its acceptance. -/
def planSlpSetListen (s : State) (r : Req) : Plan :=
  let f := par r 6 1
  { len := r.params.length == 12,
    checks := [chk (bits (par r 0 2) 13 12 == 0) 0, chk (bits (par r 2 2) 13 12 == 0) 2, chk (decide (f < 4)) 6, chkZero r 7 1,
               chk (decide (par r 8 2 < 4096)) 8, chkZero r 10 2, chkRel (bit f 1 || par r 8 2 == 0),
               chkRel (holds s { req := r, due := cal s + 1 } oneWriter)],
    act := act (stageQuiet r) }

def execSlpSetListen (r : Req) (s : State) : Host.Outcome State Fault Refusal := .next (settle (execOp 0x0430 planSlpSetListen r s))

/-- Starts a tone (09 R360). -/
def playTone (hz ms code : Nat) (s : State) : State :=
  emit { kind := .tone, a := hz, b := ms, c := code } { s with ports := { s.ports with slp := { s.ports.slp with tone := some (hz, ms, code), tonePos := 0 } } }

/-- SLP_TONE (09 R360-R362). -/
def planSlpTone (_ : State) (r : Req) : Plan :=
  { len := r.params.length == 8,
    checks := [chk (decide (100 ≤ par r 0 2) && decide (par r 0 2 ≤ 8000)) 0, chk (decide (10 ≤ par r 2 2) && decide (par r 2 2 ≤ 2000)) 2, chkZero r 6 2],
    act := act (playTone (par r 0 2) (par r 2 2) (par r 4 2)) }

def execSlpTone (r : Req) (s : State) : Host.Outcome State Fault Refusal := .next (settle (execOp 0x0431 planSlpTone r s))

/-- SLP_GET_EVENTS (09 R359, R361): the queued events are returned and removed. -/
def planSlpGetEvents (_ : State) (r : Req) : Plan :=
  { len := r.params.isEmpty,
    act := fun s =>
      let p := s.ports.slp
      { payload := toBE 1 p.queue.length ++ toBE 1 (b2n p.ovf.sat) ++ toBE 2 p.ovf.n
          ++ p.queue.flatMap (fun e => toBE 1 e.code ++ toBE 1 e.detail ++ toBE 6 e.cal),
        st := { s with ports := { s.ports with slp := { p with queue := [] } } } } }

def execSlpGetEvents (r : Req) (s : State) : Host.Outcome State Fault Refusal := .next (settle (execOp 0x0432 planSlpGetEvents r s))

/-! ## Test generators -/

/-- Whether ARG suits SIGNAL (09 R363). -/
def tgArgOk (signal arg : Nat) : Bool :=
  if signal = 1 then decide (1 ≤ arg) && decide (arg < 2 ^ 31) else if signal = 4 then decide (1 ≤ arg) && decide (arg ≤ 16777216) else arg == 0

/-- TG_SET (09 R363, R364, R366). -/
def planTgSet (s : State) (r : Req) : Plan :=
  let ch := par r 3 1
  let sg := par r 2 1
  { len := r.params.length == 16,
    checks := [chk (decide (par r 0 1 < 16)) 0, chk (decide (par r 1 1 < 4)) 1, chk (decide (1 ≤ sg) && decide (sg ≤ 5)) 2,
               chk (decide (1 ≤ ch) && decide (ch ≤ 64)) 3, chk (decide (par r 4 2 < 4096)) 4, chk (par r 8 4 == 0 || tgArgOk 1 (par r 8 4) || tgArgOk 4 (par r 8 4)) 8, chkZero r 12 4,
               chkRel (decide (par r 4 2 + ch ≤ 4096)), chkRel (sg != 5 || par r 6 2 == 0xC000), chkRel (tgArgOk sg (par r 8 4)),
               chkRel (holds s (stagedOf s r) oneWriter)],
    act := noAct }

def execTgSet (r : Req) (s : State) : Host.Outcome State Fault Refusal := .next (settle (execOp 0x0440 planTgSet r s))

/-- TG_GET (09 R366). -/
def planTgGet (_ : State) (r : Req) : Plan :=
  let n := par r 0 1
  { len := r.params.length == 1, checks := [chk (decide (n < 16)) 0],
    act := give fun s =>
      let g := tgetD s.pipe.live.tg n {}
      toBE 1 n ++ toBE 1 g.flags ++ toBE 1 g.signal ++ toBE 1 g.channels ++ toBE 2 g.srcBase ++ toBE 2 g.level ++ toBE 4 g.arg ++ zeroBytes 4 }

def execTgGet (r : Req) (s : State) : Host.Outcome State Fault Refusal := .next (settle (execOp 0x0441 planTgGet r s))

end Sys2Proof.Machine
end

