-- ==== Sys2Proof/Machine/PowerOps.lean ====
section
/-! DEFINITION. The power commands and PWR_VCORE (18 R664-R679). -/

namespace Sys2Proof.Machine

/-- PWR_VCORE (18 R669). -/
def pwrVcore (s : State) : Nat :=
  let p := s.power
  2 ^ 31 * b2n p.slew + 2 ^ 30 * b2n p.noResp + 65536 * p.target + p.setp

/-- PWR_SET_POLICY (18 R668): in force at the next period boundary. -/
def planPwrSetPolicy (_ : State) (r : Req) : Plan :=
  let fx := bit (par r 0 1) 0
  let lo := par r 2 2
  let hi := par r 4 2
  let v := par r 6 2
  { len := r.params.length == 16,
    checks := [chk (decide (par r 0 1 < 2)) 0, chkZero r 1 1, chk (rng 650 800 lo) 2, chk (rng 650 900 hi) 4, chk (rng 50 500 (par r 8 2)) 8,
               chkZero r 10 6, chkRel (decide (lo ≤ hi)), chkRel (if fx then rng lo hi v else v == 0)],
    act := act fun s => { s with power := { s.power with next := some (fx, lo, hi, v, par r 8 2) } } }

def execPwrSetPolicy (r : Req) (s : State) : Host.Outcome State Fault Refusal := .next (settle (execOp 0x0901 planPwrSetPolicy r s))

/-- PWR_GET_POLICY: the block in force, in the layout of R668. -/
def planPwrGetPolicy : State → Req → Plan := readPlan fun s =>
  let p := s.power
  toBE 1 (b2n p.fixed) ++ toBE 1 0 ++ toBE 2 p.vmin ++ toBE 2 p.vmax ++ toBE 2 p.vfix ++ toBE 2 p.margin ++ zeroBytes 6

def execPwrGetPolicy (r : Req) (s : State) : Host.Outcome State Fault Refusal := .next (settle (execOp 0x0902 planPwrGetPolicy r s))

/-- PWR_SET_DORMANT (18 R671): the node goes Dormant at the next tick boundary. -/
def planPwrSetDormant (_ : State) (r : Req) : Plan :=
  { len := r.params.length == 4, checks := [chk (decide (par r 0 1 < 2)) 0, chkZero r 1 3],
    act := act fun s => { s with mode := { s.mode with dormant := some (bit (par r 0 1) 0) } } }

def execPwrSetDormant (r : Req) (s : State) : Host.Outcome State Fault Refusal := .next (settle (execOp 0x0903 planPwrSetDormant r s))

/-- What the regulators and the sensors beside those of the Leas show when they are read: free values, with the highest sensor reading no lower
than that of a Lea (18 R679; log entry 72). -/
def readSensors (s : State) : State :=
  let leas := ((List.range 16).filter (hasLea s)).map (leaTempOf s)
  let (ma, s) := freshNat 16 s
  let (watts, s) := freshNat 16 s
  let (t, s) := freshInt 8 s
  { s with power := { s.power with ma := ma, watts := watts, maxTemp := leas.foldl max t } }

/-- The PWR_GET_STATUS payload (18 R679). -/
def powerStatus (s : State) : List Byte :=
  let p := s.power
  toBE 4 (pwrVcore s) ++ toBE 2 p.ma ++ toBE 2 p.watts ++ toBE 1 p.lastShut ++ toBE 1 p.seq
    ++ (List.range 16).flatMap (fun l => if hasLea s l then toBES 1 (leaTempOf s l) else toBE 1 0x80) ++ toBES 1 p.maxTemp ++ toBE 1 0

/-- PWR_GET_STATUS (18 R679). -/
def planPwrGetStatus (_ : State) (r : Req) : Plan :=
  { len := r.params.isEmpty, act := fun s => let s := readSensors s; { st := s, payload := powerStatus s } }

def execPwrGetStatus (r : Req) (s : State) : Host.Outcome State Fault Refusal := .next (settle (execOp 0x0904 planPwrGetStatus r s))

end Sys2Proof.Machine
end

