-- ==== Sys2Proof/Machine/Avs.lean ====
section
/-! DEFINITION. The power manager's set point: requests over AVSBus and its adjustment from slack (18 R664-R667). -/

namespace Sys2Proof.Machine

/-- Sends a set-point request; the lower of the speeds before and after counts until it is complete (18 R665). -/
def sendAvs (v : Nat) (s : State) : State :=
  let p := s.power
  emit { kind := .avs, a := v }
    { s with power := { p with slew := true, sent := v, low := min (if p.slew then p.low else p.setp) v, askAt := some s.clock.now, pend := none } }

/-- Whether a request may be sent now: at most one in 50 us (18 R665). -/
def avsFree (s : State) : Bool := match s.power.askAt with | some t => !lately t 50000 s.clock.now | none => true

/-- Requests a set point, coalescing requests that come within 50 us into the latest (18 R665). While the regulator has not answered, the
last requested set point is held (R666). -/
def askVcore (v : Nat) (s : State) : State :=
  if s.power.noResp && s.power.slew then s else
  let s := { s with power := { s.power with target := v } }
  if avsFree s then sendAvs v s else { s with power := { s.power with pend := some v } }

/-- Whether any Lea is at or above THERMAL_TARGET. -/
def anyHot (s : State) : Bool :=
  (List.range 16).any fun l => hasLea s l && decide ((s.place.policy.thermTarget : Int) ≤ leaTempOf s l)

/-- Raises the set point, within VCORE_MAX and, while a Lea is hot, not above 0.80 V (18 R664, R667). -/
def raiseVcore (mv : Nat) (s : State) : State :=
  let p := s.power
  let v := min p.vmax (p.target + mv)
  let v := if anyHot s then min v (max p.target 800) else v
  if p.fixed || decide (v ≤ p.target) then s else askVcore v s

/-- Lowers the set point, within VCORE_MIN. -/
def lowerVcore (mv : Nat) (s : State) : State :=
  let p := s.power
  let v := max p.vmin (p.target - mv)
  if p.fixed || decide (p.target ≤ v) then s else askVcore v s

/-- The power manager at the end of a decision period (18 R664, R668): the policy accepted in the period, then the set point. A fixed set point
is not raised above 0.80 V either while a Lea is hot (18 R667). -/
def adjustVcore (s : State) : State :=
  let s := match s.power.next with
    | some (fx, lo, hi, v, m) => { s with power := { s.power with fixed := fx, vmin := lo, vmax := hi, vfix := v, margin := m, next := none } }
    | none => s
  let p := s.power
  let act := (enginesOf s).filter fun e => (engAt s e).pst == 1 && (engAt s e).fig.isSome
  let fx := if anyHot s then min p.vfix (max p.target 800) else p.vfix
  if p.fixed then (if p.target = fx then s else askVcore fx s)
  else if p.target < p.vmin then askVcore p.vmin s
  else if p.vmax < p.target then askVcore p.vmax s
  else if act.any fun e => decide (p10Of s e < s.place.policy.slackTarget) then
    raiseVcore 20 { s with power := { s.power with above := 0 } }
  else if act.all fun e => decide (s.place.policy.slackTarget + p.margin ≤ p10Of s e) then
    if 4 ≤ p.above + 1 then lowerVcore 10 { s with power := { s.power with above := p.above + 1 } }
    else { s with power := { s.power with above := p.above + 1 } }
  else { s with power := { s.power with above := 0 } }

end Sys2Proof.Machine
end

