-- ==== Sys2Proof/Machine/CaptureOps.lean ====
section
/-! DEFINITION. The Capture Store: volume, fill, finding recorded ticks, and the capture commands (12 R476-R510). -/

namespace Sys2Proof.Machine

/-! ## Volume and fill -/

/-- A drive slot. -/
def driveAt (s : State) (d : Nat) : Drive := tgetD s.cap.drives d {}

/-- Changes a drive slot. -/
def modDrive (d : Nat) (f : Drive → Drive) (s : State) : State := { s with cap := { s.cap with drives := tmod s.cap.drives d {} f } }

/-! ## What a member drive holds (12 R477-R480) -/

/-- Writes to a drive's namespace. -/
def nvme (d off : Nat) (bs : List Byte) (s : State) : State := emit { kind := .nvme, a := d, b := off, bytes := bs } s

/-- The superblock of a drive, without its reserved bytes' end and its CRC (12 R478). -/
def superBody (d : Nat) (v : Drive) : List Byte :=
  fit 4092 (toBE 4 0x4C435331 ++ toBE 1 1 ++ toBE 1 d ++ toBE 1 v.volMask ++ toBE 1 (b2n v.volMirr + 2 * b2n v.clean) ++ toBE 8 v.volId
    ++ toBE 4 v.segs ++ toBE 8 v.gen)

/-- Both superblock copies of a drive are written, with the next GENERATION (12 R477, R478). -/
def putSuper (d : Nat) (s : State) : State :=
  let s := modDrive d (fun v => { v with gen := v.gen + 1 }) s
  let b := superBody d (driveAt s d)
  let b := b ++ toBE 4 (crc32c b)
  nvme d ((driveAt s d).bytes - 1048576) b (nvme d 0 b s)

/-- The superblocks of every member present are written. -/
def putSupers (s : State) : State := ((List.range 4).filter fun d => (driveAt s d).state == 2).foldl (fun t d => putSuper d t) s

/-- A segment map entry (12 R479). -/
def mapEntry (g : Seg) : List Byte :=
  let b := toBE 1 g.st ++ toBE 1 (b2n g.prot + 2 * b2n g.copy + 4 * b2n g.packed + 8 * b2n g.byJrn) ++ toBE 1 g.job ++ toBE 1 g.group ++ toBE 4 g.recNo
    ++ toBE 6 g.firstT ++ toBE 6 g.lastT ++ toBE 1 g.rate ++ toBE 1 g.n ++ toBE 1 g.tracks ++ toBE 1 0 ++ toBE 2 g.dstF ++ toBE 1 g.mDrive ++ toBE 1 0
    ++ toBE 4 g.mIndex ++ toBES 10 g.epoch ++ toBE 2 g.runs.length ++ toBE 8 g.seq ++ zeroBytes 8
  b ++ toBE 4 (crc32c b)

/-- The map entry of segment `i` of a drive, and the first byte of the segment (12 R477). -/
def mapOff (i : Nat) : Nat := 0x100000 + 64 * i

def segOff (i : Nat) : Nat := 0x4100000 + 67108864 * i

/-- The header of a segment as far as it is not zero: the map entry, and the run table from byte 256 (12 R480). -/
def segHeader (g : Seg) : List Byte :=
  fit 256 (mapEntry g) ++ g.runs.flatMap fun x => toBE 6 x.1 ++ toBE 4 x.2 ++ zeroBytes 6

/-- The map entry of a place is written as it stands, and its copy in the segment's header; of a place that holds no segment, zeros
(12 R479, R480). -/
def putEntry (p : Nat × Nat) (s : State) : State :=
  match s.cap.segs.find? fun g => g.drive == p.1 && g.index == p.2 with
  | some g => nvme p.1 (segOff p.2) (mapEntry g) (nvme p.1 (mapOff p.2) (mapEntry g) s)
  | none => nvme p.1 (mapOff p.2) (zeroBytes 64) s

/-- The entries of several segments are written. -/
def putEntries (l : List Seg) (s : State) : State := l.foldl (fun t g => putEntry (g.drive, g.index) t) s

/-- The areas of both superblock copies of a drive read zero (12 R477). -/
def zeroSupers (d : Nat) (s : State) : State :=
  emit { kind := .nvme, a := d, b := (driveAt s d).bytes - 1048576, c := 1048576 } (emit { kind := .nvme, a := d, b := 0, c := 1048576 } s)

/-- A zeroed map (12 R504, R508). -/
def zeroMap (d : Nat) (s : State) : State := emit { kind := .nvme, a := d, b := mapOff 0, c := 64 * (driveAt s d).segs } s

/-- Whether the volume is mounted (12 R505). -/
def mounted (s : State) : Bool := decide (3 ≤ s.cap.vol)

/-- Whether the drive of a slot is a member of the mounted volume, failed or not (12 R478, R508). -/
def isMember (s : State) (d : Nat) : Bool := mounted s && bit s.cap.mask d && (driveAt s d).volId == s.cap.volId

/-- The members of the mounted volume. -/
def members (s : State) : List Nat := (List.range 4).filter (isMember s)

/-- Whether every slot that DRIVE_MASK names holds its member, not failed. -/
def allMembers (s : State) : Bool := (bitList s.cap.mask 4).all fun d => (driveAt s d).state == 2

/-- Whether a slot holds a healthy drive (12 R499, R504), of a kind that the slot takes (R476). -/
def healthyDrive (s : State) (d : Nat) : Bool := let v := driveAt s d; (v.state == 2 || v.state == 3) && !v.warn && v.fits

/-- Segments on the members. -/
def segTotal (s : State) : Nat := lsum ((members s).map fun d => (driveAt s d).segs)

/-- Segments in use on a drive. -/
def segsOn (s : State) (d : Nat) : Nat := (s.cap.segs.filter fun g => g.drive == d).length

/-- Segments in use on the members. -/
def segUsed (s : State) : Nat := lsum ((members s).map (segsOn s))

/-- FILL in per mille (12 R495). -/
def capFill (s : State) : Nat := if segTotal s = 0 then 0 else 1000 * segUsed s / segTotal s

/-- The fill alarm (12 R495). -/
def fillAlarm (s : State) : State :=
  let f := capFill s
  if !s.cap.alarm && decide (900 ≤ f) then raise 0x0C03 0 { s with cap := { s.cap with alarm := true } }
  else if s.cap.alarm && decide (f < 880) then { s with cap := { s.cap with alarm := false } }
  else s

/-- Whether a job records that a test names: in the configuration, in that of a sample tick that capture has still to read (12 R484), or with ticks
still to be written (R486). -/
def recording (s : State) (job : Nat → Nat → Bool) : Bool :=
  let in_ := fun (c : Cfg) => c.recs.any fun x => job x.1 x.2.number
  in_ s.pipe.live || (s.pipe.recs.any fun r => decide (cal s ≤ r.k + 4) && in_ r.cfg) || s.cap.groups.any fun g => job g.2.job g.2.number

/-- Whether a job records or a replay runs (12 R504). -/
def capBusy (s : State) : Bool := recording s (fun _ _ => true) || !s.pipe.live.replays.isEmpty

/-- CAP_VOLUME_FORMAT (12 R477, R478, R504). A new volume has no recording and starts its counts over; the drives outside it keep what they hold. -/
def planCapVolumeFormat (s : State) (r : Req) : Plan :=
  let m := par r 0 1
  let mir := bit (par r 1 1) 0
  { len := r.params.length == 2,
    checks := [chk (decide (1 ≤ m) && decide (m < 16) && (bitList m 4).all (healthyDrive s)) 0, chk (decide (par r 1 1 < 2)) 1,
               chkRel (!mir || decide (2 ≤ popcount m 4)), chkSt (!capBusy s) BUSY],
    act := act fun s =>
      let id := s.part.dieId ^^^ cal s
      let put := fun (d : Nat) (v : Drive) =>
        if bit m d then { v with state := 2, volId := id, volMask := m, volMirr := mir, clean := true }
        else if v.state = 2 then { v with state := 3 } else v
      let s := { s with cap := { s.cap with
          drives := tmapK put s.cap.drives, vol := 3, mirr := mir, mask := m, volId := id, alarm := false, full := false,
          jrnDone := false, opened := false, segs := s.cap.segs.filter fun g => !bit m g.drive,
          marks := s.cap.marks.filter fun x => !bit m (x.1 / 2 ^ 32), groups := [], seq := 0, recNo := 0 } }
      putSupers ((bitList m 4).foldl (fun t d => zeroMap d (zeroSupers d t)) s) }

def execCapVolumeFormat (r : Req) (s : State) : Host.Outcome State Fault Refusal := .next (settle (execOp 0x0701 planCapVolumeFormat r s))

/-- CAP_VOLUME_GET (12 R505). -/
def planCapVolumeGet : State → Req → Plan := readPlan fun s =>
  let c := s.cap
  toBE 1 c.vol ++ toBE 1 (b2n (mounted s && c.mirr) + 2 * b2n c.alarm + 4 * b2n c.full + 8 * b2n (c.policy == 1) + 16 * b2n c.jrnDone)
    ++ toBE 1 (if mounted s then c.mask else 0) ++ toBE 1 (b2n c.gaps.sat + 2 * b2n c.overw.sat + 4 * b2n c.redir.sat)
    ++ toBE 8 (if mounted s then c.volId else 0) ++ toBE 4 (segTotal s) ++ toBE 4 (segUsed s) ++ toBE 2 (capFill s) ++ toBE 2 (lmax c.depth)
    ++ toBE 2 c.gaps.n ++ toBE 2 c.overw.n ++ toBE 2 c.redir.n ++ zeroBytes 2

def execCapVolumeGet (r : Req) (s : State) : Host.Outcome State Fault Refusal := .next (settle (execOp 0x0702 planCapVolumeGet r s))

/-- CAP_SET_POLICY (12 R496, R507, R508). -/
def planCapSetPolicy (_ : State) (r : Req) : Plan :=
  { len := r.params.length == 4, checks := [chk (decide (par r 0 1 < 2)) 0, chkZero r 1 3],
    act := act fun s => { s with cap := { s.cap with policy := par r 0 1 } } }

def execCapSetPolicy (r : Req) (s : State) : Host.Outcome State Fault Refusal := .next (settle (execOp 0x0703 planCapSetPolicy r s))

/-- One record of CAP_GET_DRIVES (12 R506). -/
def driveRecord (s : State) (d : Nat) : List Byte :=
  let v := driveAt s d
  toBE 1 d ++ toBE 1 v.state ++ toBE 1 v.link ++ toBE 1 (min 255 v.wear) ++ toBE 4 v.segs ++ toBE 4 (segsOn s d) ++ toBE 2 (tgetD s.place.drvQ d 0)
    ++ toBE 2 v.timeouts.n ++ toBE 2 v.media.n ++ zeroBytes 2 ++ toBE 8 v.written ++ zeroBytes 4

/-- CAP_GET_DRIVES (12 R506). -/
def planCapGetDrives : State → Req → Plan := readPlan fun s => (List.range 4).flatMap (driveRecord s)

def execCapGetDrives (r : Req) (s : State) : Host.Outcome State Fault Refusal := .next (settle (execOp 0x0704 planCapGetDrives r s))

/-- CAP_DRIVE_JOIN (12 R498, R508): also a replacement in the slot of a member that failed. A format is one command, so none runs beside it. -/
def planCapDriveJoin (s : State) (r : Req) : Plan :=
  let d := par r 0 1
  { len := r.params.length == 4,
    checks := [chk (decide (d < 4) && healthyDrive s d && !isMember s d) 0, chkZero r 1 3, chkRel (mounted s)],
    act := act fun s =>
      let c := s.cap
      let m := c.mask ||| 2 ^ d
      let put := fun (i : Nat) (v : Drive) =>
        if i = d then { v with state := 2, volId := c.volId, volMask := m, volMirr := c.mirr, clean := !c.opened }
        else if bit c.mask i && v.state == 2 then { v with volMask := m } else v
      let s := { s with cap := { c with
          mask := m, drives := tmapK put c.drives, segs := c.segs.filter fun g => g.drive != d, marks := c.marks.filter fun x => x.1 / 2 ^ 32 != d } }
      fillAlarm (putSupers (zeroMap d (zeroSupers d { s with cap := { s.cap with vol := if allMembers s then 3 else 4 } }))) }

def execCapDriveJoin (r : Req) (s : State) : Host.Outcome State Fault Refusal := .next (settle (execOp 0x0705 planCapDriveJoin r s))

/-! ## Recordings -/

/-- Readable segments of a recording: those on drives that are members now (12 R498). -/
def segsOf (s : State) (rec : Nat) : List Seg := s.cap.segs.filter fun g => g.recNo == rec && (driveAt s g.drive).state == 2

/-- The segments of a recording on the members, also on those that have failed. -/
def allSegs (s : State) (rec : Nat) : List Seg := s.cap.segs.filter fun g => g.recNo == rec && isMember s g.drive

/-- Whether a recording is known: it has a segment, or it records. -/
def knownRec (s : State) (rec : Nat) : Bool := !(allSegs s rec).isEmpty || recording s fun _ n => n == rec

/-- Tracks of a recording. -/
def recTracks (s : State) (rec : Nat) : Nat := lmax ((allSegs s rec).map fun g => 64 * g.group + g.tracks)

/-- Whether a tick lies in a run. -/
def inRun (t : Nat) (x : Nat × Nat) : Bool := decide (x.1 ≤ t) && decide (t < x.1 + x.2)

/-- The run of a list of segments that holds a tick. -/
def runAt (l : List Seg) (t : Nat) : Option (Seg × (Nat × Nat)) :=
  findSome (fun (g : Seg) => (g.runs.find? (inRun t)).map fun x => (g, x)) l

/-- The first written tick at or after a tick; zero for none (12 R490). -/
def laterTick (l : List Seg) (t : Nat) : Nat :=
  let c := l.flatMap fun g => g.runs.filterMap fun x => if t < x.1 + x.2 then some (max t x.1) else none
  (bestBy (fun (a b : Nat) => decide (a < b)) c).getD 0

/-- Local time in ns of position 0 of a capture tick of a segment (12 R484). -/
def segTime (g : Seg) (c : Nat) : Int := g.epoch + tickNs g.rate g.n c

/-- The capture tick of a segment at a PTP time (12 R484, R490). -/
def segTick (g : Seg) (t : Int) : Option Nat :=
  if t < g.epoch then none
  else
    let c := ((t - g.epoch).toNat * rateHz g.rate) / (g.n * 1000000000)
    if g.firstT ≤ c ∧ c ≤ g.lastT then some c else none

/-- CAP_FIND (12 R490): capture tick, PTP time, and the run's first tick and length (the reply's layout is DESIGN CHOICE, log entry 29). -/
def planCapFind (_ : State) (r : Req) : Plan :=
  let mode := par r 0 1
  { len := r.params.length == 18,
    checks := [chk (decide (mode < 2)) 0, chk (mode == 0 || decide (par r 14 4 < 1000000000)) 8],
    act := fun s =>
      let l := segsOf s (par r 4 4)
      let time : Int := par r 8 6 * 1000000000 + par r 14 4
      let tick := if mode = 0 then some (par r 12 6) else findSome (fun g => segTick g time) l
      let none_ := fun (t : Nat) => ({ st := s, status := NO_DATA, payload := toBE 6 (laterTick l t) } : Res)
      match tick with
      | none =>
        let c := l.flatMap fun g => g.runs.filterMap fun x => if time < segTime g x.1 then some x.1 else none
        { st := s, status := NO_DATA, payload := toBE 6 ((bestBy (fun (a b : Nat) => decide (a < b)) c).getD 0) }
      | some t => match runAt l t with
        | some (g, x) => { st := s, payload := toBE 6 t ++ timeBytes (segTime g t).toNat ++ toBE 6 x.1 ++ toBE 4 x.2 }
        | none => none_ t }

def execCapFind (r : Req) (s : State) : Host.Outcome State Fault Refusal := .next (settle (execOp 0x0730 planCapFind r s))

/-- Native words of `n` tracks from track `t0` of one capture tick of a segment, sample-major. -/
def tickWords (g : Seg) (c t0 n : Nat) : List W32 :=
  let d := tgetD g.data c []
  (List.range g.n).flatMap fun j => (List.range n).map fun i => d.getD (j * g.tracks + t0 + i) 0

/-- CAP_READ (12 R491, R507, R508). -/
def planCapRead (s : State) (r : Req) : Plan :=
  let rec_ := par r 0 4
  let f := par r 4 2
  let n := par r 6 2
  { len := r.params.length == 20,
    checks := [chk (knownRec s rec_) 0, chk (rng 1 64 n) 6, chkZero r 14 2, chk (decide (1 ≤ par r 16 4)) 16,
               chkRel (f / 64 == (f + n - 1) / 64), chkRel (decide (f + n ≤ recTracks s rec_))],
    act := fun s =>
      let l := (segsOf s rec_).filter fun g => g.group == f / 64
      let t := par r 8 6
      match runAt l t with
      | none => { st := s, status := NO_DATA, payload := toBE 6 (laterTick l t) }
      | some (g, x) =>
        let k := min (min (x.1 + x.2 - t) (par r 16 4)) (4092 / (4 * n * g.n))
        { st := s, payload := toBE 4 k ++ (List.range k).flatMap fun i => (tickWords g (t + i) (f % 64) n).flatMap fun w => toBE 4 w.toNat } }

def execCapRead (r : Req) (s : State) : Host.Outcome State Fault Refusal := .next (settle (execOp 0x0731 planCapRead r s))

/-- CAP_PROTECT (12 R497, R507, R508). -/
def planCapProtect (s : State) (r : Req) : Plan :=
  let on := bit (par r 0 1) 0
  let hit := fun (g : Seg) => g.recNo == par r 4 4 && isMember s g.drive && decide (g.firstT ≤ par r 14 6) && decide (par r 8 6 ≤ g.lastT) && g.prot != on
  { len := r.params.length == 20,
    checks := [chk (decide (par r 0 1 < 2)) 0, chkZero r 1 3, chk (knownRec s (par r 4 4)) 4, chkRel (decide (par r 8 6 ≤ par r 14 6))],
    act := fun s =>
      { payload := toBE 4 (s.cap.segs.filter hit).length,
        st := putEntries (s.cap.segs.filter hit)
          { s with cap := { s.cap with segs := s.cap.segs.map fun g => if hit g then { g with prot := on } else g } } } }

def execCapProtect (r : Req) (s : State) : Host.Outcome State Fault Refusal := .next (settle (execOp 0x0732 planCapProtect r s))

/-- Whether a recording is being recorded or replayed (12 R497). -/
def recInUse (s : State) (rec : Nat) : Bool :=
  recording s (fun _ n => n == rec) || s.pipe.live.replays.any fun x => x.2.recording == rec

/-- CAP_DELETE (12 R497, R507). -/
def planCapDelete (s : State) (r : Req) : Plan :=
  let hit := fun (g : Seg) => g.recNo == par r 0 4 && isMember s g.drive && !g.prot
  { len := r.params.length == 4, checks := [chkSt (!recInUse s (par r 0 4)) BUSY],
    act := fun s =>
      { payload := toBE 4 (s.cap.segs.filter hit).length,
        st := fillAlarm (putEntries (s.cap.segs.filter hit) { s with cap := { s.cap with segs := s.cap.segs.filter fun g => !hit g } }) } }

def execCapDelete (r : Req) (s : State) : Host.Outcome State Fault Refusal := .next (settle (execOp 0x0733 planCapDelete r s))

/-! ## Jobs and replays -/

/-- A recording job. -/
def jobAt (s : State) (j : Nat) : Job := tgetD s.cap.jobs j {}

/-- CAP_JOB_SET (12 R482). -/
def planCapJobSet (s : State) (r : Req) : Plan :=
  let j := par r 0 1
  { len := r.params.length == 8,
    checks := [chk (decide (j < 16)) 0, chk (decide (par r 1 1 < 2)) 1, chk (decide (par r 2 2 < 4096)) 2, chk (rng 1 4096 (par r 4 2)) 4, chkZero r 6 2,
               chkRel (decide (par r 2 2 + par r 4 2 ≤ 4096)), chkSt (!thas s.pipe.live.recs j) BUSY],
    act := act fun s => { s with cap := { s.cap with
      jobs := tmod s.cap.jobs j {} fun x => { x with defined := true, flags := par r 1 1, dstF := par r 2 2, tracks := par r 4 2 } } } }

def execCapJobSet (r : Req) (s : State) : Host.Outcome State Fault Refusal := .next (settle (execOp 0x0710 planCapJobSet r s))

/-- CAP_RECORD (12 R483, R484, R508). A job that records now is BUSY whatever is staged. -/
def planCapRecord (s : State) (r : Req) : Plan :=
  let j := par r 0 1
  let g := stagedOf s r
  { len := r.params.length == 4,
    checks := [chk (decide (j < 16) && (jobAt s j).defined) 0, chkZero r 1 3, chkSt (!thas s.pipe.live.recs j && !thas (cfgAt s [] (judgedDue s g)).recs j) BUSY,
               chkSt (mounted s && holds s g fun c => decide (tracksOf c ≤ trackLimit c.rate)) NO_CAPACITY],
    act := noAct }

def execCapRecord (r : Req) (s : State) : Host.Outcome State Fault Refusal := .next (settle (execOp 0x0711 planCapRecord r s))

/-- CAP_STOP (12 R484, R508). -/
def planCapStop (s : State) (r : Req) : Plan :=
  let j := par r 0 1
  { len := r.params.length == 4,
    checks := [chk (thas s.pipe.live.recs j || s.gate.staged.any fun g => g.req.opcode == 0x0711 && par g.req 0 1 == j) 0, chkZero r 1 3],
    act := noAct }

def execCapStop (r : Req) (s : State) : Host.Outcome State Fault Refusal := .next (settle (execOp 0x0712 planCapStop r s))

/-- A job record of CAP_GET_JOBS (12 R509). -/
def jobRecord (s : State) (j : Nat) : List Byte :=
  let x := jobAt s j
  toBE 1 j ++ toBE 1 (if !x.defined then 0 else if thas s.pipe.live.recs j then 2 else 1) ++ toBE 1 x.flags ++ toBE 1 0 ++ toBE 2 x.dstF
    ++ toBE 2 x.tracks ++ toBE 4 x.number ++ toBE 2 x.gaps.n ++ zeroBytes 2

/-- Names a staged request among those of both nodes (13 R529). -/
def reqKey (r : Req) : Nat := 2 * r.acc + b2n (decide (r.src = .pair))

/-- The staged CAP_REPLAY of a replay. -/
def stagedReplay (s : State) (i : Nat) : Option Staged := s.gate.staged.find? fun g => g.req.opcode == 0x0720 && par g.req 0 1 == i

/-- A replay record of CAP_GET_JOBS (12 R510). -/
def replayRecord (s : State) (i : Nat) : List Byte :=
  let run := tgetD s.cap.replays i {}
  let tail := toBE 2 run.gaps.n ++ toBE 2 run.under.n ++ zeroBytes 2
  match tget s.pipe.live.replays i, stagedReplay s i with
  | some c, _ => toBE 1 i ++ toBE 1 run.st ++ toBE 2 c.tracks ++ toBE 4 c.recording ++ toBE 2 c.srcFirst ++ tail
  | none, some g => toBE 1 i ++ toBE 1 1 ++ toBE 2 (par g.req 2 2) ++ toBE 4 (par g.req 4 4) ++ toBE 2 (par g.req 10 2) ++ tail
  | none, none => toBE 1 i ++ toBE 1 0 ++ zeroBytes 8 ++ tail

/-- CAP_GET_JOBS (12 R509). -/
def planCapGetJobs : State → Req → Plan := readPlan fun s => (List.range 16).flatMap (jobRecord s) ++ (List.range 16).flatMap (replayRecord s)

def execCapGetJobs (r : Req) (s : State) : Host.Outcome State Fault Refusal := .next (settle (execOp 0x0713 planCapGetJobs r s))

/-- CAP_REPLAY (12 R492, R493): its read-ahead starts as it is staged. -/
def planCapReplay (s : State) (r : Req) : Plan :=
  let i := par r 0 1
  let rec_ := par r 4 4
  let g := stagedOf s r
  { len := r.params.length == 20,
    checks := [chk (decide (i < 16)) 0, chkZero r 1 1, chk (rng 1 1024 (par r 2 2)) 2, chk (knownRec s rec_) 4, chk (decide (par r 10 2 < 4096)) 10,
               chkZero r 18 2, chkRel (decide (par r 8 2 + par r 2 2 ≤ recTracks s rec_)), chkRel (decide (par r 10 2 + par r 2 2 ≤ 4096)),
               chkRel (holds s g oneWriter), chkRel ((segsOf s rec_).any fun x => x.rate == rate s),
               chkSt (holds s g fun c => decide (replayTracks c ≤ replayLimit c.rate)) NO_CAPACITY],
    act := noAct }

def execCapReplay (r : Req) (s : State) : Host.Outcome State Fault Refusal := .next (settle (execOp 0x0720 planCapReplay r s))

/-- CAP_REPLAY_STOP (12 R494, R508). -/
def planCapReplayStop (s : State) (r : Req) : Plan :=
  let i := par r 0 1
  { len := r.params.length == 4, checks := [chk (thas s.pipe.live.replays i || (stagedReplay s i).isSome) 0, chkZero r 1 3], act := noAct }

def execCapReplayStop (r : Req) (s : State) : Host.Outcome State Fault Refusal := .next (settle (execOp 0x0721 planCapReplayStop r s))

end Sys2Proof.Machine
end

