-- ==== Sys2Proof/Machine/CapRun.lean ====
section
/-! DEFINITION. The Capture Store at work: choosing drives, opening and closing segments, staging, writing and journal marks
(12 R480-R502, 05 R233). -/

namespace Sys2Proof.Machine

/-! ## Drives and segments -/

/-- Whether a drive may take a new segment: present, healthy, a member, with room (12 R496, R499, 05 R233). The top 5 % takes only
redirected segments. -/
def takesSegment (s : State) (redir : Bool) (d : Nat) : Bool :=
  let v := driveAt s d
  isMember s d && v.state == 2 && !v.warn && decide (segsOn s d < v.segs) && (redir || decide (100 * segsOn s d < 95 * v.segs))

/-- The drives for a new segment, best first: smallest average queue depth, then lowest wear (05 R233), then the lowest slot, which the spec
leaves open (DESIGN CHOICE, log entry 67). The drive whose media error the segment leaves comes last (12 R498; DESIGN CHOICE, log entry 60). -/
def drivesFor (s : State) (redir : Bool) (avoid : Option Nat) : List Nat :=
  let q := fun d => tgetD s.place.drvQ d 0
  let le := fun (a b : Nat) => decide (q a < q b) || (q a == q b && decide ((driveAt s a).wear ≤ (driveAt s b).wear))
  let l := sortBy le ((List.range 4).filter (takesSegment s redir))
  l.filter (fun d => avoid != some d) ++ l.filter fun d => avoid == some d

/-- The segment index that a new segment of a drive takes: the lowest free one (DESIGN CHOICE, log entry 67). -/
def freeIndex (s : State) (d : Nat) : Nat :=
  ((List.range (driveAt s d).segs).find? fun i => !(s.cap.segs.any fun g => g.drive == d && g.index == i)).getD 0

/-- Key of a segment's journal mark. -/
def markKey (d i : Nat) : Nat := 2 ^ 32 * d + i

/-- Changes the segment at a place. -/
def modSeg (p : Nat × Nat) (f : Seg → Seg) (s : State) : State :=
  { s with cap := { s.cap with segs := s.cap.segs.map fun g => if g.drive = p.1 ∧ g.index = p.2 then f g else g } }

/-- The segment at a place. -/
def segAt (s : State) (p : Nat × Nat) : Option Seg := s.cap.segs.find? fun g => g.drive == p.1 && g.index == p.2

/-- A track group. -/
def groupAt (s : State) (k : Nat) : Group := tgetD s.cap.groups k {}

/-- Changes a track group. -/
def modGroup (k : Nat) (f : Group → Group) (s : State) : State := { s with cap := { s.cap with groups := tupd s.cap.groups k f } }

/-- Bytes of one capture tick of a group (12 R480, R481). -/
def tickBytes (g : Group) : Nat := g.n * g.tracks * (if g.packed then 3 else 4)

/-- Bytes that a segment holds after its header (12 R480). -/
def segBytes : Nat := 67108864 - 65536

/-- Entries of a segment's run table once it holds the ticks of a list also (12 R480). -/
def runsWith (x : Seg) (l : List Nat) : Nat :=
  let ends := x.runs.getLast?.map fun r => r.1 + r.2
  (l.foldl (fun (a : Nat × Option Nat) c => (if a.2 = some c then a.1 else a.1 + 1, some (c + 1))) (x.runs.length, ends)).1

/-- Whether a segment takes one more tick `c`, with `k` earlier ticks on their way to it (12 R480). -/
def segFits (g : Group) (x : Seg) (k c : Nat) : Bool :=
  decide ((x.data.length + k + 1) * tickBytes g ≤ segBytes) && decide (runsWith x ((g.staged.take k).map (·.1) ++ [c]) ≤ 4080)

/-- A segment closes at its last durable tick (12 R486). One that holds nothing is freed. -/
def closeSeg (p : Nat × Nat) (s : State) : State :=
  let s := modSeg p (fun g => { g with st := 2 }) s
  let s := match segAt s p with | some g => nvme p.1 (segOff p.2) (segHeader g) s | none => s
  let s := { s with cap := { s.cap with segs := s.cap.segs.filter fun g => !(g.drive == p.1 && g.index == p.2 && g.data.isEmpty),
                                        marks := tdel s.cap.marks (markKey p.1 p.2) } }
  fillAlarm (putEntry p s)

/-- The segments of a group close. -/
def closeGroup (k : Nat) (s : State) : State :=
  let g := groupAt s k
  let s := match g.seg with | some p => closeSeg p s | none => s
  let s := match g.mseg with | some p => closeSeg p s | none => s
  modGroup k (fun g => { g with seg := none, mseg := none }) s

/-- Whether a replay reads a recording. -/
def replayed (s : State) (rec : Nat) : Bool := s.pipe.live.replays.any fun x => x.2.recording == rec

/-- The overwrite policy frees the oldest unprotected closed segment, with its other copy: the places freed (12 R496). -/
def freeOldest (s : State) : Option (List (Nat × Nat) × State) :=
  let l := s.cap.segs.filter fun g => g.st == 2 && !g.prot && !replayed s g.recNo && (driveAt s g.drive).state == 2
  match bestBy (fun (a b : Seg) => decide (a.seq < b.seq)) l with
  | none => none
  | some g =>
    let gone := s.cap.segs.filter fun x => (x.drive == g.drive && x.index == g.index) || (x.drive == g.mDrive && x.index == g.mIndex)
    some ((gone.filter fun x => (driveAt s x.drive).state == 2).map fun x => (x.drive, x.index),
      { s with cap := { s.cap with overw := add16 gone.length s.cap.overw, segs := s.cap.segs.filter fun x => !gone.contains x } })

/-- CLEAN is cleared in every superblock when the first segment opens after a mount (12 R501). -/
def noteOpen (s : State) : State :=
  if s.cap.opened then s
  else putSupers { s with cap := { s.cap with
      opened := true,
      drives := tmap (fun (v : Drive) => if v.state = 2 then { v with clean := false } else v) s.cap.drives } }

/-- A new segment entry of a group on a drive. -/
def newSeg (g : Group) (d i : Nat) (other : Option (Nat × Nat)) (copy : Bool) (first seq : Nat) : Seg :=
  { drive := d, index := i, copy := copy, packed := g.packed, job := g.job, group := g.grp, recNo := g.number, firstT := first, lastT := first,
    rate := g.rate, n := g.n, tracks := g.tracks, dstF := g.dstF, mDrive := (other.map (·.1)).getD 0xFF, mIndex := (other.map (·.2)).getD 0,
    epoch := g.epoch, seq := seq }

/-- New segments: their map entries and the copies of these in their headers are written (12 R479, R480). -/
def addSegs (l : List Seg) (s : State) : State :=
  let s := { s with cap := { s.cap with seq := s.cap.seq + l.length, segs := s.cap.segs ++ l } }
  putEntries l (l.foldl (fun t g => nvme g.drive (segOff g.index) (segHeader g) t) s)

/-- Opens a segment, or a pair in a mirrored volume, at chosen places for a group whose first tick is `first`. -/
def openOn (k first : Nat) (ps : List (Nat × Nat)) (s : State) : State :=
  let g := groupAt s k
  let s := noteOpen s
  match ps with
  | p :: r =>
    let q := s.cap.seq
    match (if s.cap.mirr then r.head? else none) with
    | some b =>
      fillAlarm (modGroup k (fun g => { g with seg := some p, mseg := some b })
        (addSegs [newSeg g p.1 p.2 (some b) false first q, newSeg g b.1 b.2 (some p) true first (q + 1)] s))
    | none =>
      let s := if s.cap.mirr then { s with cap := { s.cap with vol := 4 } } else s
      fillAlarm (modGroup k (fun g => { g with seg := some p, mseg := none }) (addSegs [newSeg g p.1 p.2 none false first q] s))
  | [] => s

/-- Ticks of a group that are not recorded count in both GAP_TICKS (12 R505, R509). -/
def countGaps (k n : Nat) (s : State) : State :=
  { s with cap := { s.cap with gaps := add16 n s.cap.gaps, jobs := tupd s.cap.jobs (groupAt s k).job fun j => { j with gaps := add16 n j.gaps } } }

/-- A group that has nothing left to write closes and, when it has stopped, ends. -/
def endIfDone (k : Nat) (s : State) : State :=
  let g := groupAt s k
  if thas s.cap.groups k && g.final.isSome && g.staged.isEmpty then
    let s := closeGroup k s
    { s with cap := { s.cap with groups := tdel s.cap.groups k } }
  else s

/-- The full-volume policy under Stop: the group stops, its staged ticks count as gaps, FULL is set and a Degraded fault raised (12 R496). -/
def stopFull (k : Nat) (s : State) : State :=
  let s := countGaps k (groupAt s k).staged.length s
  let s := modGroup k (fun g => { g with stopped := true, staged := [], since := [], sent := 0, acks := [] }) s
  endIfDone k (raise 0x0C04 0 { s with cap := { s.cap with full := true } })

/-- Opens the next segment of a group, by the drives that qualify or by the full-volume policy (12 R486, R496, R498). -/
def openSeg (k first : Nat) (s : State) : State :=
  let redir := (groupAt s k).redir
  let avoid := (groupAt s k).avoid
  let open_ := fun (ps : List (Nat × Nat)) (s : State) =>
    let s := if redir then { s with cap := { s.cap with redir := inc16 s.cap.redir } } else s
    modGroup k (fun g => { g with redir := false, avoid := none }) (openOn k first ps s)
  match drivesFor s redir avoid with
  | d :: r => open_ ((d :: r).map fun d => (d, freeIndex s d)) s
  | [] =>
    if s.cap.policy = 1 then match freeOldest s with
      | some (places, t) => open_ places t
      | none => stopFull k s
    else stopFull k s

/-! ## Staging -/

/-- Stores a sample as its track keeps it: the native word, or 24 bits (12 R481). -/
def trackWord (packed : Bool) (x : W32) : W32 := if packed then w32 (sig24 x.toInt) else x
where
  sig24 (v : Int) : Int := clampI (-(2 ^ 23 - 1)) (2 ^ 23 - 1) v

/-- The words of one capture tick of a group, sample-major (12 R480). -/
def groupWords (r : TickRec) (g : Group) : List W32 :=
  (List.range g.n).flatMap fun j => (List.range g.tracks).map fun t => trackWord g.packed (smp (blkOf r.dst (g.dstF + t)) j)

/-- Audio that a group holds staged, and that of one tick, in units of 1/28224000 s, of which every sample period is a multiple (12 R487). -/
def tickUnits (g : Group) : Nat := g.n * (28224000 / rateHz g.rate)

def stagedUnits (g : Group) : Nat := g.staged.length * tickUnits g

/-- The audio staged of one track group, with what it held before its rate or recording changed and has still to write (12 R487, R489). -/
def heldUnits (s : State) (job grp : Nat) : Nat :=
  lsum ((s.cap.groups.filter fun g => g.2.job == job && g.2.grp == grp).map fun g => stagedUnits g.2)

/-- A tick that is not staged counts as a gap and raises a Degraded fault at most once per second (12 R487). -/
def gapTick (k : Nat) (s : State) : State :=
  let s := countGaps k 1 s
  let due := match s.cap.gapAt with | some t => !lately t 1000000000 s.clock.now | none => true
  if due then raise 0x0C01 0 { s with cap := { s.cap with gapAt := some s.clock.now } } else s

/-- A group stages the DST block of its tick under capture tick `c` (12 R484, R487). A stopped group, also one that this tick stops, only counts
the gap (R496). -/
def stageTickOf (k c : Nat) (r : TickRec) (s : State) : State :=
  let g := groupAt s k
  if g.stopped then countGaps k 1 s
  else if 2822400 < heldUnits s g.job g.grp + tickUnits g then gapTick k s
  else
    let s := if g.seg.isNone then openSeg k c s else s
    if (groupAt s k).stopped then countGaps k 1 s
    else modGroup k (fun g => { g with staged := g.staged ++ [(c, groupWords r g)], since := g.since ++ [s.clock.now] }) s

/-- A group records no further tick: it leaves its place and keeps what it still has to write (12 R484, R489). -/
def retire (k last : Nat) (s : State) : State :=
  match tget s.cap.groups k with
  | none => s
  | some g =>
    let q := (tfree s.cap.groups 1024 100000).getD 101024
    endIfDone q { s with cap := { s.cap with groups := tset (tdel s.cap.groups k) q { g with final := some last } } }

/-- Every group in its place retires (12 R489). -/
def retireAll (last : Nat) (s : State) : State := ((s.cap.groups.map (·.1)).filter (· < 1024)).foldl (fun t k => retire k last t) s

/-- The groups that a configuration records of a sample tick, each of 64 tracks and the last of the remainder, with their keys (12 R482, 15 R601). -/
def groupsOf (k : Nat) (c : Cfg) : List (Nat × Group) :=
  (c.recs.filter fun x => decide (x.2.first ≤ k)).flatMap fun x =>
    let j := x.2
    (List.range ((j.tracks + 63) / 64)).map fun g =>
      (64 * x.1 + g, { job := x.1, grp := g, number := j.number, dstF := j.dstF + 64 * g, tracks := min 64 (j.tracks - 64 * g), packed := bit j.flags 0,
                       n := c.n, rate := c.rate })

/-- Capture in the output stage of sample tick `r.k`: groups that no longer record retire, new ones start, and each stages its tick
(12 R484, R486, R487). In the shut-down sequence recording has ended (18 R672). -/
def captureStage (r : TickRec) (s : State) : State :=
  if s.gate.frozen then s else
  let c := r.k + 4
  let want := groupsOf r.k r.cfg
  let gone := (s.cap.groups.filter fun g => decide (g.1 < 1024) && !(want.any fun w => w.1 == g.1 && w.2.number == g.2.number)).map (·.1)
  let s := gone.foldl (fun t k => retire k (c - 1) t) s
  let s := want.foldl (fun t w =>
    if thas t.cap.groups w.1 then t
    else { t with cap := { t.cap with groups := tset t.cap.groups w.1 { w.2 with epoch := t.clock.epoch } } }) s
  let s := want.foldl (fun t w => stageTickOf w.1 c r t) s
  let depth := lmax (s.cap.groups.map fun g => (heldUnits s g.2.job g.2.grp + 28223) / 28224)
  { s with cap := { s.cap with depth := (depth :: s.cap.depth).take 64 } }

/-! ## Writing -/

/-- Bytes of a tick as a segment holds them (12 R480, R481). -/
def tickData (g : Group) (ws : List W32) : List Byte := ws.flatMap fun w => if g.packed then toBE 3 (w.toNat % 2 ^ 24) else toBE 4 w.toNat

/-- Where the next tick of a segment goes on its drive, with `sent` ticks on their way: the data is one run after another (12 R480). -/
def dataOff (s : State) (p : Nat × Nat) (len sent : Nat) : Nat :=
  segOff p.2 + 65536 + (((segAt s p).map fun x => x.data.length).getD 0 + sent) * len

/-- An audio write to a drive's namespace, with FUA (12 R476). -/
def nvmeFua (d off : Nat) (bs : List Byte) (s : State) : State := emit { kind := .nvmeFua, a := d, b := off, bytes := bs } s

/-- Sends the staged ticks of a group that have been staged for the time given in ms, as far as its segment takes them; with zero, all of them at
once. The count bounds the ticks sent and the segments opened (12 R486). -/
def sendTicks (k ms : Nat) : Nat → State → State
  | 0, s => s
  | fuel + 1, s =>
    let g := groupAt s k
    match g.staged[g.sent]? with
    | none => s
    | some (c, ws) =>
      if ms ≠ 0 ∧ s.clock.now < g.since.getD g.sent 0 + ms * 1000000 then s
      else
        let fits := match g.seg with | some p => (match segAt s p with | some x => segFits g x g.sent c | none => false) | none => false
        if fits then
          let out := fun (p : Option (Nat × Nat)) (t : State) => match p with
            | some p => nvmeFua p.1 (dataOff t p (tickBytes g) g.sent) (tickData g ws) t
            | none => t
          sendTicks k ms fuel (modGroup k (fun g => { g with sent := g.sent + 1 }) (out g.mseg (out g.seg s)))
        else if g.sent ≠ 0 then s
        else
          let s := openSeg k c (closeGroup k s)
          if (groupAt s k).seg.isNone then s else sendTicks k ms fuel s

/-- Appends a durable tick to a segment, with its run and its journal mark, and advances LAST_TICK (12 R480, R486). -/
def durable (p : Nat × Nat) (c : Nat) (ws : List W32) (s : State) : State :=
  let s := modSeg p (fun x =>
    let runs := match x.runs.getLast? with
      | some r => if r.1 + r.2 = c then x.runs.dropLast ++ [(r.1, r.2 + 1)] else x.runs ++ [(c, 1)]
      | none => [(c, 1)]
    { x with runs := runs, data := tset x.data c ws, lastT := c, firstT := if x.data.isEmpty then c else x.firstT }) s
  putEntry p { s with cap := { s.cap with marks := tset s.cap.marks (markKey p.1 p.2) c } }

/-- The places that a group writes. -/
def placesOf (g : Group) : List (Nat × Nat) := g.seg.toList ++ g.mseg.toList

/-- The oldest ticks of a group of which every copy is complete are durable: their marks are written and their staged copies freed (12 R486,
R488). The count bounds the ticks. -/
def takeDone (k : Nat) : Nat → State → State
  | 0, s => endIfDone k s
  | fuel + 1, s =>
    let g := groupAt s k
    let places := placesOf g
    match g.staged with
    | [] => endIfDone k s
    | (c, ws) :: rest =>
      if g.sent = 0 ∨ places.isEmpty ∨ !(places.all fun p => g.acks.contains p.1) then endIfDone k s
      else
        takeDone k fuel (modGroup k (fun g => { g with staged := rest, since := g.since.tail, sent := g.sent - 1,
                                                       acks := places.foldl (fun l p => l.erase p.1) g.acks })
          (places.foldl (fun t p => durable p c ws t) s))

/-- A drive completes its oldest outstanding write of a group (12 R486, R488). -/
def writeDone (k d : Nat) (s : State) : State :=
  let g := groupAt s k
  if g.sent ≤ g.acks.count d ∨ !((placesOf g).any fun p => p.1 == d) then s
  else takeDone k g.sent (modGroup k (fun g => { g with acks := g.acks ++ [d] }) s)

/-! ## Failure, flush and mount -/

/-- Whether a place lies on a drive. -/
def onDrive (d : Nat) (p : Option (Nat × Nat)) : Bool := match p with | some p => p.1 == d | none => false

/-- A group with an open segment on a drive closes it at its last durable tick; a mirrored group keeps the other copy, which alone decides what is
durable from then on; any other rewrites its unmarked ticks into a new segment (12 R498). -/
def leaveGroup (d k : Nat) (s : State) : State :=
  let g := groupAt s k
  let shut := fun (p : Option (Nat × Nat)) (t : State) => match p with | some p => closeSeg p t | none => t
  let keep := fun (p : Option (Nat × Nat)) (t : State) =>
    takeDone k g.sent (modGroup k (fun g => { g with seg := p, mseg := none, acks := g.acks.filter (· != d), avoid := some d }) t)
  if onDrive d g.seg then
    let s := shut g.seg s
    if g.mseg.isSome then keep g.mseg s
    else
      let s := modGroup k (fun g => { g with seg := none, sent := 0, acks := [], redir := true, avoid := some d }) s
      match (groupAt s k).staged with
      | x :: _ => openSeg k x.1 s
      | [] => endIfDone k s
  else if onDrive d g.mseg then keep g.seg (shut g.mseg s)
  else s

/-- Every group leaves a drive. -/
def leaveDrive (d : Nat) (s : State) : State := (s.cap.groups.map (·.1)).foldl (fun t k => leaveGroup d k t) s

/-- A drive fails (12 R498). A volume that has lost a member is Degraded, and failed when none is left. -/
def driveFail (d : Nat) (s : State) : State :=
  let v := driveAt s d
  if v.state = 0 ∨ v.state = 4 then s
  else
    let member := v.state == 2
    let s := modDrive d (fun v => { v with state := 4 }) s
    let s := raise 0x0C05 d s
    if !mounted s then { s with cap := { s.cap with vol := preMount s.cap.drives } }
    else if member then leaveDrive d { s with cap := { s.cap with vol := 4 } }
    else s

/-- Writes every staged tick durably at once and closes every open segment: the shut-down sequence and a Warm reset (12, before R500,
R502). Each round sends a tick, into a new segment where one is needed, and completes one. -/
def flushAll (s : State) : State :=
  let one := fun (t : State) (k : Nat) =>
    let n := (groupAt t k).staged.length
    let t := (List.range n).foldl (fun t _ =>
      let t := sendTicks k 0 2 t
      (placesOf (groupAt t k)).foldl (fun t p => writeDone k p.1 t) t) t
    closeGroup k t
  let s := (s.cap.groups.map (·.1)).foldl one s
  { s with cap := { s.cap with groups := [] } }

/-- The capture journal is replayed: every segment that the members hold open is set to its last mark and closed with FLAGS bit 3 (12 R501). -/
def replayJournal (s : State) : State :=
  let was := s.cap.segs.filter fun g => g.st == 1 && (driveAt s g.drive).state == 2
  was.foldl (fun t g =>
    let p := (g.drive, g.index)
    closeSeg p (modSeg p (fun x => { x with byJrn := true, lastT := tgetD t.cap.marks (markKey p.1 p.2) x.lastT }) t))
    { s with cap := { s.cap with jrnDone := true } }

/-- Mounts the volume, replaying the journal where a superblock is not CLEAN (12 R478, R501). Recording numbers and SEQUENCE go on from the members'
maps (R479, R484). Staged audio kept through a Warm reset is written first (R502); a group leaves a drive that the volume has lost meanwhile. -/
def mountVolume (s : State) : State :=
  match volumeIn s.cap.drives with
  | none => fillAlarm { s with cap := { s.cap with
      vol := 0, groups := [],
      drives := tmap (fun (v : Drive) => if v.state = 1 then { v with state := 3 } else v) s.cap.drives } }
  | some (id, mask, mirr) =>
    let drives := tmapK (fun d (v : Drive) =>
      if v.state = 1 ∨ v.state = 3 then { v with state := if belongs s.cap.drives id mask d then 2 else 3 } else v) s.cap.drives
    let here := (List.range 4).filter fun d => (tgetD drives d {}).state == 2
    let clean := here.all fun d => (tgetD drives d {}).clean
    let own := s.cap.segs.filter fun g => here.contains g.drive
    let was := fun (n : Nat) => if id = s.cap.volId then n else 0
    let s := { s with cap := { s.cap with
        drives := drives, volId := id, mask := mask, mirr := mirr, vol := if here.length = popcount mask 4 then 3 else 4, opened := false,
        jrnDone := false, seq := max (was s.cap.seq) (lmax (own.map fun g => g.seq + 1)), recNo := max (was s.cap.recNo) (lmax (own.map (·.recNo))) } }
    let s := ((List.range 4).filter fun d => !here.contains d).foldl (fun t d => leaveDrive d t) s
    let s := flushAll s
    fillAlarm (if clean then s else replayJournal s)

/-! ## Replay -/

/-- The recorded word of a track at a sample position of a recording, if it is written at rate `rate` (12 R493, R494). -/
def recordedAt (l : List Seg) (rate track pos : Nat) : Option W32 :=
  findSome (fun (g : Seg) =>
    let c := pos / g.n
    let t := track - 64 * g.group
    if g.rate = rate ∧ 64 * g.group ≤ track ∧ t < g.tracks then
      (tget g.data c).map fun ws => ws.getD (pos % g.n * g.tracks + t) 0
    else none) l

/-- Recorded tick size of the segment that holds the start of a replay; of the recording's first segment where none does. -/
def recordedN (s : State) (x : ReplayCfg) : Nat :=
  let l := (segsOf s x.recording).filter fun g => g.rate == rate s
  match l.find? fun g => decide (g.firstT ≤ x.start) && decide (x.start ≤ g.lastT) with
  | some g => g.n
  | none => (l.head?.map (·.n)).getD 1

/-- A replay presents its next recorded positions (12 R493, R494). It has Ended past the last tick of a recording that is recorded no more, on
whichever member that tick lies. `late`: the read-ahead does not hold the tick. -/
def replayTick (i k : Nat) (late : Bool) (x : ReplayCfg) (s : State) : Tab Blk × State :=
  let l := segsOf s x.recording
  let n := tickN s
  let p := x.start * recordedN s x + (k - x.bound) * n
  let ended := !recording s (fun _ r => r == x.recording) && (allSegs s x.recording).all fun g => decide ((g.lastT + 1) * g.n ≤ p)
  let mod := fun (f : ReplayRun → ReplayRun) (t : State) => { t with cap := { t.cap with replays := tmod t.cap.replays i {} f } }
  let s := mod (fun r => { r with st := if ended then 3 else 2 }) s
  if ended then ([], s)
  else if late then
    let s := mod (fun r => { r with under := inc16 r.under }) s
    let due := match s.cap.underAt with | some t => !lately t 1000000000 s.clock.now | none => true
    ([], if due then raise 0x0C02 i { s with cap := { s.cap with underAt := some s.clock.now } } else s)
  else
    let w := fun t j => recordedAt l (rate s) (x.firstTrack + t) (p + j)
    let gap := (List.range x.tracks).any fun t => (List.range n).any fun j => (w t j).isNone
    let blks := (List.range x.tracks).foldl (fun (a : Tab Blk) t => putBlk a (x.srcFirst + t) (mkBlk n fun j => (w t j).getD 0)) []
    (blks, if gap then mod (fun r => { r with gaps := inc16 r.gaps }) s else s)

end Sys2Proof.Machine
end

