-- ==== Sys2Proof/Machine/PairOps.lean ====
section
/-! DEFINITION. The Pairing class (15 R580-R605) and how a resynchronisation begins on either node (15 R600, R601). -/

namespace Sys2Proof.Machine

/-- Changes the pairing state. -/
def modPair (f : Pair → Pair) (s : State) : State := { s with pair := f s.pair }

/-- Enters a pair state; REASON is kept for Unsynced only (15 R581, R593). -/
def setPair (st reason : Nat) (s : State) : State := modPair (fun p => { p with state := st, reason := if st = 4 then reason else 0 }) s

/-- The Shadow starts to join: Joining, step 1, and a Resync request (15 R600, R601). -/
def startJoin (s : State) : State :=
  sendPair 6 [] (modPair (fun p =>
    { p with state := 2, reason := 0, step := 1, loaded := 0, joined := 0, toJoin := 0, checks := 0, paused := false, recd := [], behind := none }) s)

/-- The Active serves a resynchronisation: it chooses the snapshot boundary S and sends its tables. The spec gives the contents of
Resync data and not its layout; the body here is the step and S (15 R601 step 1; log entry 28). -/
def serveJoin (s : State) : State :=
  let snap := cal s + 1
  sendPair 7 (toBE 1 1 ++ toBE 6 snap) (modPair (fun p => { p with step := 1, snap := snap, joined := 0, serve := s.eng.chains.map (·.1), toJoin := s.eng.chains.length }) s)

/-! ## The operations -/

/-- The PAIR_CONFIG block (15 R580). -/
def pairCfgOf (r : Req) : PairCfg :=
  { flags := par r 0 1, rank := par r 1 1, partner := par r 2 2, pathA := par r 4 1, pathB := par r 5 1, rate := par r 6 2 }

/-- PAIR_CONFIG (15 R580): in force at the next Cold, System or Warm reset. -/
def planPairConfig (_ : State) (r : Req) : Plan :=
  { len := r.params.length == 16,
    checks := [chk (decide (par r 0 1 < 2)) 0, chk (decide (par r 1 1 < 2)) 1, chk (isNode (par r 2 2)) 2, chk (decide (par r 4 1 < 4)) 4,
               chk (decide (par r 5 1 < 4)) 5, chk (rng 10 1000 (par r 6 2)) 6, chkZero r 8 8, chkRel (par r 4 1 != par r 5 1)],
    act := act (modPair fun p => { p with next := some (pairCfgOf r) }) }

def execPairConfig (r : Req) (s : State) : Host.Outcome State Fault Refusal := .next (settle (execOp 0x0A01 planPairConfig r s))

/-- A key as CRED_SET carries it: under Local Trust as it stands, else unwrapped under the issuing credential's key (14 R560). -/
def wrappedKey (s : State) (r : Req) (off : Nat) : Option (List Byte) :=
  if r.trust then some ((r.params.drop off).take 32) else Config.aesUnwrap (keyOf s r.role r.slot) ((r.params.drop off).take 40)

/-- Length of such a key field. -/
def wrappedLen (r : Req) : Nat := if r.trust then 32 else 40

/-- PAIR_SET_KEY (15 R586, 14 R560). -/
def planPairSetKey (s : State) (r : Req) : Plan :=
  let k := wrappedKey s r 0
  { len := r.params.length == wrappedLen r, checks := [chk k.isSome 0],
    act := act (modPair fun p => { p with key := fit 32 (k.getD []) }) }

def execPairSetKey (r : Req) (s : State) : Host.Outcome State Fault Refusal := .next (settle (execOp 0x0A02 planPairSetKey r s))

/-- The PAIR_GET_STATUS payload (15 R604): the contents are the spec's, the layout this model's (DESIGN CHOICE, log entry 28). -/
def pairStatus (s : State) : List Byte :=
  let p := s.pair
  let cnt := fun (c : Sat) => toBE 2 c.n ++ toBE 1 (b2n c.sat)
  toBE 1 p.state ++ toBE 1 (b2n p.pathUpA + 2 * b2n p.pathUpB) ++ fit 24 p.vigil ++ cnt p.lateRel ++ cnt p.reject ++ cnt p.takes ++ toBE 1 0

/-- PAIR_GET_STATUS (15 R604). -/
def planPairGetStatus : State → Req → Plan := readPlan pairStatus

def execPairGetStatus (r : Req) (s : State) : Host.Outcome State Fault Refusal := .next (settle (execOp 0x0A03 planPairGetStatus r s))

/-- PAIR_RELINQUISH (15 R594, R604): BUSY without a Ready Shadow. -/
def planPairRelinquish (s : State) (r : Req) : Plan :=
  { len := r.params.isEmpty, checks := [chkSt (canRelinquish s) BUSY], act := act (relinquish 0) }

def execPairRelinquish (r : Req) (s : State) : Host.Outcome State Fault Refusal := .next (settle (execOp 0x0A04 planPairRelinquish r s))

/-- PAIR_RESYNC (15 R600, R602): a Shadow starts to join, an Active to serve; a node in neither state has nothing to resynchronise
(DESIGN CHOICE, log entry 30). -/
def planPairResync (s : State) (r : Req) : Plan :=
  { len := r.params.isEmpty, checks := [chkSt (rng 1 4 s.pair.state) BUSY],
    act := act fun s => if s.pair.state = 1 then serveJoin s else startJoin (modPair (fun p => { p with failed := 0 }) s) }

def execPairResync (r : Req) (s : State) : Host.Outcome State Fault Refusal := .next (settle (execOp 0x0A05 planPairResync r s))

end Sys2Proof.Machine
end

