-- ==== Sys2Proof/Machine/Commit.lean ====
section
/-! DEFINITION. Binding at a tick boundary: what each staged set does beside the configuration, in order of acceptance, and its reply
(01 R21-R24, 02 R69-R76, 13 R531). -/

namespace Sys2Proof.Machine

/-- Local time of the start of tick `k`. -/
def tickStart (s : State) (k : Nat) : Nat := (s.clock.epoch + tickNs (rate s) (tickN s) k).toNat

/-! ## Timebase changes -/

/-- What every timebase change does from its first tick on (02 R75, 03 R102, 05 R214, 06 R264, 09 R367, 12 R489): slots read zero before
it, outputs send nothing gathered before, write marks and the fixed blocks start over, ramps complete, noise is seeded, migrations are
abandoned (also one of Stage B whose twin run would fall after the change; DEDUCED, log entry 42), segments close. Sward sets bound at `t` itself stay for their pass. -/
def newTimebase (t first : Nat) (s : State) : State :=
  let s := retireAll (t - 1) (abortIf 6 (fun _ => true) s)
  let s := dropFrames s
  { s with
    pipe := { s.pipe with recs := [], first := first, before := cfgsBefore t first s,
                          live := { s.pipe.live with tg := tmap (fun (g : TgCfg) => { g with seedAt := first }) s.pipe.live.tg } },
    sward := finishRampsBefore t s.sward,
    fixed := restartFixed first s.fixed,
    lines := { s.lines with tab := tmap (fun (l : Line) => { l with mark := first }) s.lines.tab } }

/-- SYS_SET_TIMEBASE at boundary `t`: EPOCH is re-based (11 R456). A request that changes neither value does nothing.
The window budget of 04 R155 was held as the command was accepted and is not held again (DESIGN CHOICE, log entry 40). -/
def bindTimebase (t : Nat) (r : Req) (s : State) : State :=
  let rt := par r 0 1
  let n := par r 1 1
  if rt = rate s ∧ n = tickN s then s
  else
    let b := s.clock.epoch + tickNs (rate s) (tickN s) t
    let e := b - tickNs rt n t
    let s := newTimebase t t s
    if e = s.clock.epoch then s else setHist 0x40 { s with clock := { s.clock with epoch := e } }

/-- The first tick whose start falls at or after a local time (11 R454, R457). -/
def firstAt (s : State) (epoch : Int) (now : Int) : Nat :=
  let den : Int := tickN s * 1000000000
  (-((-((now - epoch) * rateHz (rate s))) / den)).toNat

/-- The clock goes on at a first tick `f`: the Calendar reads `f` where `f` starts now, else `f - 1` until it does (11 R457). -/
def goOnAt (now : Nat) (f : Nat) (s : State) : State :=
  let s := { s with clock := { s.clock with now := now } }
  { s with pipe := { s.pipe with cal := if tickStart s f ≤ now then f else f - 1 } }

/-- TIME_STEP at boundary `t` (11 R453): the Calendar follows a forward step; a backward step re-bases EPOCH. -/
def bindStep (t : Nat) (r : Req) (s : State) : State :=
  let d := parS r 0 10
  let now := (s.clock.now : Int) + d
  let moved := fun (t : Nat) => ((t : Int) + d).toNat
  let k := s.clock
  let s := { s with
    clock := { k with unset := false, hoFrom := k.hoFrom.map moved, within := k.within.map moved, means := k.means.map fun x => (moved x.1, x.2) },
    cap := { s.cap with groups := tmap (fun (g : Group) => { g with since := g.since.map moved }) s.cap.groups } }
  if 0 ≤ d then
    let f := firstAt s s.clock.epoch now
    goOnAt now.toNat f (newTimebase t f s)
  else
    let s := setHist 0x40 { s with clock := { s.clock with epoch := s.clock.epoch + d, now := now.toNat } }
    newTimebase t t s

/-- TIME_SET_EPOCH at boundary `t`, with its first tick `f` (11 R457). -/
def bindEpoch (t f : Nat) (r : Req) (s : State) : State :=
  let e := parS r 0 10
  let s := newTimebase t f s
  if e = s.clock.epoch then s else goOnAt s.clock.now f (setHist 0x40 { s with clock := { s.clock with epoch := e } })

/-! ## What a set does beside the configuration -/

/-- The mode transition of SYS_SET_MODE at boundary `t` (01 R36). A Refused node stays so (15 R577). To Run-Shadow a Relinquish leads; it needs a Ready partner (15 R594;
log entry 23). From Recovery, Factory Test starts the data plane, since its audio is as in Commissioning (01 R32; DEDUCED, log entry 33). -/
def bindMode (t m : Nat) (s : State) : State :=
  if m = 6 then
    let s := setMode 6 s
    let s := if paired s && s.pair.state != 5 then setPair 1 0 s else s
    { s with pair := { s.pair with actOut := true } }
  else if m = 7 then relinquish 0 s
  else
    let s := if m = 4 && s.mode.mode = 3 && !s.pipe.running then
        startPlane t { s with clock := { s.clock with estab := true } } else s
    setPair 0 0 (setMode m s)

/-- CHAIN_UNLOAD at boundary `t` (04 R181, R188, 05 R214): a chain that has not run by then is freed at once. -/
def bindUnload (t h : Nat) (s : State) : State :=
  let c := chainD s h
  let fresh := match c.first with | some f => decide (t ≤ f) | none => true
  if c.prev == 1 || (c.prev == 2 && fresh) then freeChain h s
  else
    let s := abortIf 5 (fun m => m.handle == h && (m.phase == 0 || decide (t ≤ m.commit + 1))) s
    modChain h (fun c => { c with stop := some t }) s

/-- The bytes of a big-endian parameter word as the engine keeps it (04 R125, R176). -/
def leWord (v : Nat) : List Byte := toLE 4 v

/-- State bytes of CHAIN_WRITE_STATE: 32-bit words, each big-endian in the packet (04 R186). -/
def swapWords : Nat → List Byte → List Byte
  | 0, _ => []
  | n + 1, bs => (bs.take 4).reverse ++ swapWords n (bs.drop 4)

/-- State of a serial port after SP_CONFIG (09 R336). -/
def spStart (c : SpCfg) : Nat := if bits c.flags 1 0 = 0 then 0 else if bit c.flags 2 then 1 else 2

/-- A link port's table is changed (10 R371, R418, R423): a new speed or FEC trains it again. -/
def bindLink (r : Req) (s : State) : State :=
  let p := par r 0 1
  let o := linkCfg s p
  let n := linkOf r
  if o.speed = n.speed ∧ o.fec = n.fec then s
  else portTo p (if n.speed = 0 then 0 else 1) s

/-- What a set bound at `t` does beside `bindCfg`, before it. A flow entry set again keeps the blocks that it holds, so a new depth presents stamps
already received (10 R392), unless it has other channels. -/
def bindFx (t : Nat) (g : Staged) (s : State) : State :=
  let r := g.req
  match r.opcode with
  | 0x0103 => bindMode t (par r 0 1) s
  | 0x0104 => bindTimebase t r s
  | 0x0201 => { s with sward := { s.sward with bound := tmod s.sward.bound t [] (· ++ swRecs r) } }
  | 0x0202 => { s with sward := { s.sward with bound := tmod s.sward.bound t [] (· ++ swRecs r) } }
  | 0x0303 => modChain (par r 0 2) (fun c => { c with st := if c.st = 6 then 6 else 3, prev := if c.st = 6 then 2 else c.prev, first := some t }) s
  | 0x0304 => bindUnload t (par r 0 2) s
  | 0x0305 =>
    let ws := (List.range (par r 2 2)).map fun i => ((chainD s (par r 0 2)).desc.paramOff + 4 * par r (4 + 8 * i) 2, leWord (par r (8 + 8 * i) 4))
    modChain (par r 0 2) (fun c => { c with params := c.params ++ [(t, ws)] }) s
  | 0x0306 =>
    let ws := (List.range (par r 2 2)).map fun i => (par r (4 + 8 * i) 2, par r (8 + 8 * i) 4)
    modChain (par r 0 2) (fun c => { c with delays := c.delays ++ [(t, ws)] }) s
  | 0x030B =>
    let d := r.params.drop 8
    modChain (par r 0 2) (fun c => { c with params := c.params ++ [(t, [(par r 4 4, swapWords (d.length / 4) d)])] }) s
  | 0x0401 =>
    let o := tgetD s.pipe.live.sp (par r 0 1) {}
    let n := spOf r
    let was := bits o.flags 1 0 != 0
    if bits n.flags 1 0 = 0 then modSp (par r 0 1) (fun p => { p with state := 0, unmute := false, rate := 0, tail := p.tail || (was && spLive p) }) s
    else if was && spSame o n then s
    else modSp (par r 0 1) (fun p => { p with state := spStart n, unmute := false, rate := 0, tail := false }) s
  | 0x0410 =>
    let o := tgetD s.pipe.live.ae (par r 0 1) {}
    let n := aeOf r
    if bit o.flags 0 == bit n.flags 0 && bit o.flags 2 == bit n.flags 2 then s
    else modAe (par r 0 1) (fun p => { p with state := if bit n.flags 0 then 1 else 0, unmute := false, lock := false, rate := if bit n.flags 0 then p.rate else 0 }) s
  | 0x0440 =>
    let own := fun (k : Nat) => k / 64 == par r 0 1
    { s with fixed := { s.fixed with lfsr := s.fixed.lfsr.filter fun x => !own x.1, pink := s.fixed.pink.filter fun x => !own x.1 } }
  | 0x0502 => bindLink r s
  | 0x0506 =>
    let k := flowKey (par r 0 2) (par r 4 2)
    match tget s.pipe.live.flowIn k with
    | some o => if o.ch = par r 6 1 then s else { s with links := { s.links with flows := tset s.links.flows k {} } }
    | none => { s with links := { s.links with flows := tset s.links.flows k {} } }
  | 0x0507 => { s with links := { s.links with flows := tdel s.links.flows (flowKey (par r 0 2) (par r 2 2)) } }
  | 0x0511 =>
    let s := igmp true (aoipOf false r) (igmp false (tgetD s.pipe.live.aoRx (par r 0 1) {}) s)
    { s with links := { s.links with aoRx := tset s.links.aoRx (par r 0 1) {} } }
  | 0x0641 => bindStep t r s
  | 0x0642 => bindEpoch t (epochFirst s (parS r 0 10) t).toNat r s
  | 0x0711 =>
    let n := s.cap.recNo + 1
    { s with cap := { s.cap with recNo := n, jobs := tupd s.cap.jobs (par r 0 1) fun j => { j with number := n } } }
  | 0x0720 => { s with cap := { s.cap with replays := tmod s.cap.replays (par r 0 1) {} fun x => { st := 2, filled := x.filled.erase (reqKey r) } } }
  | 0x0721 => { s with cap := { s.cap with replays := tupd s.cap.replays (par r 0 1) fun x => { filled := x.filled } } }
  | 0x0880 => { s with fixed := { s.fixed with meters := tset s.fixed.meters (par r 0 2) {} } }
  | _ => s

/-- Whether a set names a handle that has been freed since, or lost its Sward records (log entry 24). -/
def void (g : Staged) : Bool := g.note == [1] && (g.req.opcode / 16 == 0x30 || g.req.opcode == 0x0201 || g.req.opcode == 0x0202)

/-- Whether a set that is due must wait: a chain whose image is not in place (05 R208), a replay whose read-ahead is not filled (12 R493). -/
def waits (s : State) (g : Staged) : Bool :=
  if void g then false
  else if g.req.opcode = 0x0303 then s.place.migr.any fun m => m.handle == par g.req 0 2 && m.phase == 3
  else if g.req.opcode = 0x0720 then !(tgetD s.cap.replays (par g.req 0 1) {}).filled.contains (reqKey g.req)
  else false

/-- The boundary at which a set takes effect when it is bound at boundary `t`: a chain whose image came after its own boundary, but before the
start of its first stage run, is bound at that boundary (05 R208, 02 R62). -/
def bindTick (t : Nat) (g : Staged) (s : State) : Nat :=
  let d := if (chainD s (par g.req 0 2)).desc.stage = 1 then 1 else 3
  if g.req.opcode = 0x0303 ∧ g.met = true ∧ g.due < t ∧ t ≤ g.due + d then g.due else t

/-- The sets whose boundary has come: a late one takes this boundary as its own (01 R23). -/
def meetSets (t : Nat) (s : State) : State :=
  let meet := fun (g : Staged) => if g.alm.isNone && decide (g.due ≤ t) && !g.met then { g with due := t, met := true } else g
  { s with gate := { s.gate with staged := s.gate.staged.map meet } }

/-- The status that a bound set receives (01 R23, 05 R208, 12 R493). -/
def boundStatus (t : Nat) (g : Staged) : Nat :=
  let waited := g.req.opcode == 0x0303 || g.req.opcode == 0x0720
  if (g.want ≠ 0 ∧ g.want < t) ∨ (waited ∧ g.due < t) then APPLIED_LATE else OK

/-- Binds one set at boundary `t` and replies to it (01 R21, 02 R69, 13 R531). A mode change that the node's mode at the boundary does not
reach any more changes nothing (01 R36) and is answered MODE_DENIED (DESIGN CHOICE, log entry 23); a CAP_RECORD of a job that records by then, or
that then exceeds the limit on tracks, starts nothing (12 R483, R508; DESIGN CHOICE, log entry 60). -/
def bindSet (t : Nat) (g : Staged) (s : State) : State :=
  let s := { s with gate := { s.gate with staged := s.gate.staged.erase g } }
  let t := bindTick t g s
  let say := fun (status err applied : Nat) (pl : List Byte) (s : State) =>
    if g.quiet then s else reply g.req g.key (isRead g.req.opcode) status err applied g.mirr (g.forced && decide (status < 0x100)) pl s
  if void g then say (boundStatus t g) 0 t [] s
  else if g.req.opcode = 0x0103 ∧ !modeReach s (par g.req 0 1) then say MODE_DENIED 0 0 [] s
  else if g.req.opcode = 0x0103 ∧ par g.req 0 1 = 7 ∧ !canRelinquish s then say BUSY 0 0 [] s
  else if g.req.opcode = 0x0642 ∧ epochFirst s (parS g.req 0 10) t < t then say BAD_PARAM 0xFFFF 0 [] s
  else if g.req.opcode = 0x0711 ∧ thas s.pipe.live.recs (par g.req 0 1) then say BUSY 0 0 [] s
  else if g.req.opcode = 0x0711 ∧ trackLimit (rate s) < tracksOf (bindCfg s t g.note g.req s.pipe.live) then say NO_CAPACITY 0 0 [] s
  else
    let f := if g.req.opcode = 0x0642 then (epochFirst s (parS g.req 0 10) t).toNat else t
    let s := bindFx t g s
    let s := { s with pipe := { s.pipe with live := bindCfg s t g.note g.req s.pipe.live } }
    let pl := if g.req.opcode = 0x0711 then toBE 4 s.cap.recNo else g.payload
    say (boundStatus t g) 0 f pl (setForced g.forced s)

/-- The first TIME_SET_EPOCH of the sets due at boundary `t` that changes the count from there on (11 R457). -/
def nextEpoch (t : Nat) (s : State) : Option Staged :=
  bestBy (fun (a b : Staged) => decide (a.req.acc < b.req.acc))
    (s.gate.staged.filter fun g => g.req.opcode == 0x0642 && g.alm.isNone && decide (g.due ≤ t) && decide ((t : Int) ≤ epochFirst s (parS g.req 0 10) t))

/-- The next set that is due at a boundary, by acceptance (01 R22); the sets of an Almanac entry that fires come after those of a tick and of the
entries below it (11 R469; the first is DESIGN CHOICE, log entry 58). -/
def nextDue (t : Nat) (s : State) : Option Staged :=
  bestBy (fun (a b : Staged) => decide (a.rank < b.rank) || (a.rank == b.rank && decide (a.req.acc < b.req.acc)))
    (s.gate.staged.filter fun g => g.alm.isNone && decide (g.due ≤ t) && !waits s g)

/-- Binds every set that is due, one after another. The count bounds the sets. -/
def bindAll (t : Nat) : Nat → State → State
  | 0, s => s
  | n + 1, s => match nextDue t s with
    | none => s
    | some g => bindAll t n (bindSet t g s)

/-- The Commit Gate binds what is due at boundary `t`. Sward records bound with a timebase change take a ramp length of 1 (03 R102). -/
def bindDue (t : Nat) (s : State) : State :=
  let change := s.gate.first == some t || s.gate.staged.any fun g => g.alm.isNone && decide (g.due ≤ t) &&
    ((g.req.opcode == 0x0104 && (par g.req 0 1 != rate s || par g.req 1 1 != tickN s)) || g.req.opcode == 0x0641)
  let s := bindAll t s.gate.staged.length (meetSets t s)
  if change then
    { s with sward := { s.sward with bound := tmapK (fun k (l : List SwRec) => if k = t then l.map fun x => { x with len := 1 } else l) s.sward.bound } }
  else s

/-- The Commit Gate at boundary `t`: nothing after the last boundary that binds sets in a shut-down sequence (18 R672), nor while a Plane reset is under way (01 R24). A TIME_SET_EPOCH comes before
the other sets of its boundary, which wait for its first tick F where that is another (11 R457; DESIGN CHOICE, log entry 74). -/
def commit (t : Nat) (s : State) : State :=
  if (s.gate.frozen && decide (s.gate.lastT < t)) || s.boot.planeR then s
  else match nextEpoch t s with
    | none => bindDue t s
    | some g =>
      let f := (epochFirst s (parS g.req 0 10) t).toNat
      let u := bindSet t g { s with gate := { s.gate with first := some f } }
      if cal u = t ∧ tickStart u t = u.clock.now then bindDue t u else u

end Sys2Proof.Machine
end

