-- ==== Sys2Proof/Machine/Pass.lean ====
section
/-! DEFINITION. The Sward pass, the patches of Stage A and Stage B, chain deadlines and the fixed blocks of one tick (02 R62-R81, 03
R88-R102, 06 R240-R261). -/

namespace Sys2Proof.Machine

/-! ## The Sward -/

/-- Every node of a column takes its target and the column goes idle (03 R92). -/
def finishCol (j : Nat) (w : Sward) : Sward :=
  { w with nodes := tmapK (fun k (n : Node) => if k / 4096 = j then { n with cur := n.tgt } else n) w.nodes,
           ramps := tupd w.ramps j fun x => { x with on := false, pos := 0 } }

/-- Whether a column's ramp has had its last sample tick. -/
def rampDone (x : Ramp) : Bool := x.on && decide (x.len ≤ x.pos)

/-- Every column whose ramp has had its last sample tick goes idle. -/
def finishDone (w : Sward) : Sward := (w.ramps.filter fun x => rampDone x.2).foldl (fun w x => finishCol x.1 w) w

/-- The columns for which records write a target code (03 R93). -/
def codeCols (rs : List SwRec) : List Nat :=
  let l := rs.filter fun r => r.code.isSome
  (List.range 4096).filter fun j => l.any fun r => decide (r.c0 ≤ j) && decide (j ≤ r.c1)

/-- The ramp length of a column in a set: that of the last accepted record that writes a code there (03 R99). -/
def colLen (rs : List SwRec) (j : Nat) : Nat :=
  match (rs.reverse.find? fun r => r.code.isSome && decide (r.c0 ≤ j) && decide (j ≤ r.c1)) with
  | some r => r.len
  | none => 1

/-- A set meets its Sward pass (03 R93): present codes, then targets and polarity, then the ramp contexts. -/
def applySet (rs : List SwRec) (w : Sward) : Sward :=
  let cols := codeCols rs
  let nodes := tmapK (fun k (n : Node) => if cols.contains (k / 4096) then { n with cur := liveCode (rampAt w (k / 4096)) n } else n) w.nodes
  { w with nodes := setNodes nodes rs,
           ramps := cols.foldl (fun t j => tset t j { on := true, pos := 0, len := colLen rs j }) w.ramps }

/-- The sets bound at sample ticks up to `k` meet their pass. -/
def applySets (k : Nat) (w : Sward) : Sward :=
  let due := w.bound.filter fun b => decide (b.1 ≤ k)
  due.foldl (fun w b => applySet b.2 w) { w with bound := w.bound.filter fun b => decide (k < b.1) }

/-- Every running ramp takes one step (03 R92). -/
def stepRamps (w : Sward) : Sward := { w with ramps := tmap (fun (x : Ramp) => if x.on then { x with pos := x.pos + 1 } else x) w.ramps }

/-- Adds a node's terms to its column's sums. -/
def addTerms : List Int → List Int → List Int
  | a :: l, b :: m => (a + b) :: addTerms l m
  | _, _ => []

/-- The sums of every column that a row feeds, by column (03 R90). -/
def columnSums (w : Sward) (mia : Tab Blk) (n cols rows : Nat) : Tab (List Int) :=
  w.nodes.foldl (fun t e =>
    let j := e.1 / 4096
    let i := e.1 % 4096
    let b := blkOf mia i
    let code := liveCode (rampAt w j) e.2
    if b.isEmpty ∨ code = 0 ∨ cols ≤ j ∨ rows ≤ i then t
    else
      let terms := (List.range n).map fun p => nodeTerm (smp b p).toInt code e.2.pol
      tset t j (addTerms (tgetD t j (List.replicate n 0)) terms)) []

/-- The fill records of the sets that meet their pass at sample tick `k`. -/
def fillsAt (k : Nat) (w : Sward) : List SwRec := ((w.bound.filter fun b => decide (b.1 ≤ k)).flatMap (·.2)).filter (·.fill)

/-- Rows that a tile visits in a pass (03 R96): every row where a ramp of its band starts or ends, else those that add something and those
that a fill record of the set covers. -/
def rowsVisited (w : Sward) (fills : List SwRec) (mia : Tab Blk) (rows lo hi : Nat) : Nat :=
  let edge := w.ramps.any fun x => decide (lo ≤ x.1) && decide (x.1 < hi) && x.2.on && (x.2.pos == 1 || x.2.pos == x.2.len)
  if edge then rows
  else
    let adds := ((w.nodes.filter fun e =>
      decide (lo ≤ e.1 / 4096) && decide (e.1 / 4096 < hi) && thas mia (e.1 % 4096) && liveCode (rampAt w (e.1 / 4096)) e.2 != 0).map
        fun e => e.1 % 4096).eraseDups
    let mine := fills.filter fun r => decide (r.c0 < hi) && decide (lo ≤ r.c1)
    let filled := if mine.isEmpty then [] else (List.range rows).filter fun i => mine.any fun r => decide (r.r0 ≤ i) && decide (i ≤ r.r1)
    filled.length + (adds.filter fun i => decide (i < rows) && !filled.contains i).length

/-- Whether a band may gate: every node mute and idle, no ramp, and no bound record for it (03 R97). -/
def mayGate (w : Sward) (lo hi : Nat) : Bool :=
  let inB := fun j => decide (lo ≤ j) && decide (j < hi)
  (w.nodes.all fun e => !inB (e.1 / 4096) || (e.2.cur == 0 && e.2.tgt == 0))
    && (w.ramps.all fun x => !inB x.1 || !x.2.on)
    && w.bound.all fun b => b.2.all fun r => decide (r.c1 < lo) || decide (hi ≤ r.c0)

/-- A bound set that makes a node of a gated tile's band non-mute wakes the tile (03 R97). -/
def wakeTiles (bw tiles : Nat) (w : Sward) : Sward :=
  let hit := fun t => w.bound.any fun b => b.2.any fun r => r.code.getD 0 != 0 && decide (r.c0 < (t + 1) * bw) && decide (t * bw ≤ r.c1)
  { w with
    tiles := ((List.range tiles).filter fun t => (tgetD w.tiles t {}).state == 0 && hit t).foldl
      (fun m t => tset m t { tgetD m t {} with state := 1 }) w.tiles }

/-- Tile states and row counts after a pass. A tile that is waking makes no pass, and neither does one that stays gated; ROWS_LAST then keeps
the count of the last pass made (03 R109; DEDUCED, log entry 65). A bound record takes a tile out of Gated also where it leaves the band mute, since the
third condition of 03 R97 fails (DEDUCED, log entry 65). -/
def tilesAfter (w : Sward) (fills : List SwRec) (mia : Tab Blk) (rows bw tiles : Nat) : Tab Tile :=
  (List.range tiles).foldl (fun m t =>
    let lo := t * bw
    let hi := lo + bw
    let was := tgetD w.tiles t {}
    let gate := mayGate w lo hi
    if was.state = 1 ∨ (was.state = 0 ∧ gate) then m
    else tset m t { state := if gate then 0 else 2, rowsLast := rowsVisited w fills mia rows lo hi }) w.tiles

/-- Tiles that have been waking through a tick are active (03 R97). -/
def wakenTiles (w : Sward) : Sward := { w with tiles := tmap (fun (t : Tile) => if t.state = 1 then { t with state := 2 } else t) w.tiles }

/-- The Sward pass of sample tick `k` (03 R90-R97). -/
def swardPass (k : Nat) (s : State) : State :=
  let r := recD s k
  let n := tickN s
  let cols := outCount s (rate s)
  let rows := rowCount (rate s)
  let fills := fillsAt k s.sward
  let w := stepRamps (applySets k (finishDone s.sward))
  let sums := columnSums w r.mia n cols rows
  let mo := sums.foldl (fun t e => putBlk t e.1 (e.2.map sat)) ([] : Tab Blk)
  let clips := sums.foldl (fun t e => tadd t e.1 (e.2.filter fun v => sat32 v != v).length) w.clips
  let w := { w with clips := clips, tiles := tilesAfter w fills r.mia rows (bandWidth (rate s)) (tileCount s.part.variant) }
  modRec k (fun r => { r with mo := mo }) { s with sward := w }

/-! ## Patches -/

/-- The patches of Stage A: direct ones from SRC, and returns of the MIX-OUT written one sample tick earlier (02 R56, R66). -/
def patchA (k : Nat) (s : State) : State :=
  let r := recD s k
  let prev := if k = 0 then [] else (recD s (k - 1)).mo
  let mi := r.cfg.mapMi.foldl (fun t e =>
    if e.2.kind = 1 then putBlk t e.1 (blkOf r.src e.2.source)
    else if e.2.kind = 3 then putBlk t e.1 (blkOf prev e.2.source) else t) ([] : Tab Blk)
  modRec k (fun r => { r with miPre := mi }) s

/-- The patches of Stage B from MIX-OUT (02 R56). -/
def patchB (k : Nat) (s : State) : State :=
  let r := recD s k
  let d := r.cfg.mapDst.foldl (fun t e => if e.2.kind = 1 then putBlk t e.1 (blkOf r.mo e.2.source) else t) ([] : Tab Blk)
  modRec k (fun r => { r with dst := d }) s

/-! ## Dynamics -/

/-- A channel's running state at the start of a sample tick: a DYN_CONFIG change that restarts the channel clears it, enabled or not, but keeps
the largest reduction (06 R250, R263). -/
def dynFrom (show_ : Tab (DynCfg × DynPar)) (x : Nat × DynCfg) (runs : Tab DynRun) : Tab DynRun :=
  if dynRestarts (tgetD show_ x.1 ({}, {})).1 x.2 then tset runs (dynKey x.1 x.2) { maxRed := (tgetD runs (dynKey x.1 x.2) {}).maxRed } else runs

/-- A channel's running state after a block: the largest reduction stands at the channel's own key (06 R263). -/
def dynPut (ch : Nat) (c : DynCfg) (d : DynRun) (runs : Tab DynRun) : Tab DynRun :=
  let t := tset runs (dynKey ch c) { d with maxRed := (tgetD runs (dynKey ch c) {}).maxRed }
  tset t ch { tgetD t ch {} with maxRed := max (tgetD t ch {}).maxRed d.maxRed }

/-- The dynamics of one stage on its slots: `det` gives the sidechain block of a channel. Answers the new blocks and running states. -/
def runDynamics (c : Cfg) (space n : Nat) (det : DynCfg → Blk) (show_ : Tab (DynCfg × DynPar)) (blks : Tab Blk) (runs : Tab DynRun) :
    Tab Blk × Tab DynRun :=
  let fs := rateHz c.rate
  let on := (dynOn c).filter fun x => x.2.insSpace == space
  let par_ := fun ch => tgetD c.dynPar ch {}
  let own := on.map fun x =>
    let b := if bit x.2.flags 1 then det x.2 else blkOf blks x.2.insSlot
    (x.1, x.2, (List.range n).map fun j => wantedGain (par_ x.1) (smp b j))
  let linked := fun (x : Nat × DynCfg × List Int) =>
    if x.2.1.link = 0 then x.2.2
    else (List.range n).map fun j =>
      (own.filter fun y => y.2.1.link == x.2.1.link).foldl (fun m y => max m (y.2.2.getD j 0)) (x.2.2.getD j 0)
  own.foldl (fun (a : Tab Blk × Tab DynRun) x =>
    let y := dynBlock (par_ x.1) x.2.1.look fs (linked x) (mkBlk n (smp (blkOf blks x.2.1.insSlot))) (tgetD a.2 (dynKey x.1 x.2.1) {})
    (putBlk a.1 x.2.1.insSlot y.2, dynPut x.1 x.2.1 y.1 a.2)) (blks, (c.dyn.filter fun x => x.2.insSpace == space).foldl (fun t x => dynFrom show_ x t) runs)

/-- The blocks of every channel as a stage ran them (06 R263). -/
def shownBy (c : Cfg) : Tab (DynCfg × DynPar) :=
  let a := c.dyn.foldl (fun t x => tset t x.1 (x.2, tgetD c.dynPar x.1 {})) ([] : Tab (DynCfg × DynPar))
  c.dynPar.foldl (fun t x => tset t x.1 (tgetD c.dyn x.1 {}, x.2)) a

/-! ## Write-back of Stage A -/

/-- MIX-IN after align delay (02 R68). -/
def alignMi (s : State) (k : Nat) (c : Cfg) (mi : Tab Blk) : Tab Blk :=
  (c.mapMi.filter fun e => e.2.align != 0).foldl (fun t e =>
    putBlk t e.1 (if k < e.2.align then [] else blkOf (recD s (k - e.2.align)).mi e.1)) mi

/-- Slots of a space whose block is not quiet take the tick as their last not-quiet one (06 R259). -/
def noteLoud (q k : Nat) (blks : Tab Blk) (t : Tab Nat) : Tab Nat :=
  blks.foldl (fun t e => if quietBlk q e.2 then t else tset t e.1 (k + 1)) t

/-- The fixed blocks of Stage A on sample tick `k`: dynamics, align delay, silence detectors (06 R240, R241, R258). -/
def fixedA (k : Nat) (s : State) : State :=
  let r := recD s k
  let n := tickN s
  let det := fun (d : DynCfg) => if d.scSpace = 0 then blkOf r.src d.scSlot else blkOf r.miPre d.scSlot
  let y := runDynamics r.cfg 1 n det s.fixed.showMi r.miPre s.fixed.dyn
  let mia := alignMi s k r.cfg y.1
  let s := modRec k (fun r => { r with mi := y.1, mia := mia }) s
  { s with fixed := { s.fixed with dyn := y.2, showMi := shownBy r.cfg, loudMi := noteLoud (quietLevel s) k mia s.fixed.loudMi, silMi := k + 1 } }

/-! ## Write-back of Stage B -/

/-- One tick of every enabled operator meter (06 R251-R253). -/
def runMeters (r : TickRec) (s : State) : State :=
  let n := tickN s
  let len := rateHz (rate s) / 100
  let on := s.pipe.live.meters.filter fun m => bit m.2.flags 0
  let run := fun (t : Tab MeterRun) (m : Nat × OpMeterCfg) =>
    let b := slotOf r m.2.space m.2.slot
    tset t m.1 ((List.range n).foldl (fun x j => meterSample m.2 len (smp b j) x) (tgetD t m.1 {}))
  { s with fixed := { s.fixed with meters := on.foldl run s.fixed.meters } }

/-- The fixed blocks of Stage B on sample tick `k`: dynamics, then silence detectors and operator meters (06 R240, R251, R258). -/
def fixedB (k : Nat) (s : State) : State :=
  let r := recD s k
  let y := runDynamics r.cfg 3 (tickN s) (fun d => slotOf r d.scSpace d.scSlot) s.fixed.showDst r.dst s.fixed.dyn
  let s := modRec k (fun r => { r with dst := y.1 }) s
  let f := { s.fixed with dyn := y.2, showDst := shownBy r.cfg, loudDst := noteLoud (quietLevel s) k y.1 s.fixed.loudDst, silDst := k + 1 }
  runMeters { r with dst := y.1 } { s with fixed := f }

/-- A tick completes: what METER_OP_READ shows of the operator meters (06 R257). -/
def noteMeters (s : State) : State :=
  { s with fixed := { s.fixed with
      seenRate := rate s, seen := s.pipe.live.meters.foldl (fun t m => tset t m.1 (m.2, tgetD s.fixed.meters m.1 {})) ([] : Tab (OpMeterCfg × MeterRun)) } }

/-- Events of the fixed blocks that a tick brought about and no command has carried out yet: coarse blocks that ended and slow paths
that are ready (log entry 9). -/
def settleMeters (s : State) : State :=
  { s with fixed := { s.fixed with meters := tmapK (fun i m => slowReady (tgetD s.pipe.live.meters i {}) (coarseEnd m)) s.fixed.meters } }

/-! ## Chains -/

/-- A parked chain's tick: zeros on its outputs and lines, with due parameters and taps in force (04 R178). -/
def parkedTick (h k : Nat) (s : State) : State :=
  let s := zeroLines (chainD s h) k (modChain h (fun c => applyTaps k (applyParams k c)) s)
  modChain h (fun c => { c with parkTicks := min 0xFFFFFFFF (c.parkTicks + 1) }) s

/-- A chain parks (04 R177). One that migrates keeps its state code. -/
def park (h : Nat) (s : State) : State :=
  modChain h (fun c => { c with parked := true, st := if c.st = 3 then 4 else c.st }) s

/-- Whether a chain is to park: enough quiet sample ticks (04 R177). -/
def parkDue (s : State) (c : Chain) : Bool :=
  parkable c && !c.parked && (c.st == 3 || c.st == 5 || c.st == 6) && decide (parkTicks s c ≤ c.quiet)

/-- Every chain that is to park and has not. -/
def settleParks (s : State) : State :=
  ((s.eng.chains.filter fun c => parkDue s c.2).map (·.1)).foldl (fun t h => park h t) s

/-- A parked chain whose input is loud resumes in this tick (04 R178). -/
def resume (h : Nat) (s : State) : State :=
  modChain h (fun c => { c with parked := false, quiet := 0, st := if c.st = 4 then 3 else c.st }) s


/-- Whether a migration's twin run falls in the tick in progress: its commit tick has come, and the chain runs and is not parked (05 R211,
R217). -/
def twinDue (s : State) (m : Migr) : Bool :=
  let c := chainD s m.handle
  match stageTick s c.desc.stage with
  | some k => m.phase != 0 && decide (m.commit ≤ k) && runsAt c k && !c.skip && !(c.parked && inputsQuiet s c)
  | none => false

/-- The destination's copy as its twin run begins (05 R211, R213, R227): what the final copy brings, the words and delays bound for the tick,
and a swapped block from the same Heath bank. -/
def prepTwin (m : Migr) (s : State) : State :=
  let c := chainD s m.handle
  let put := fun (t : Chain) =>
    let t := if c.swap.isSome then { t with blk := c.blk, poison := c.poison } else if m.phase = 1 then copyLines c.cum c t else t
    { t with params := c.params, delays := c.delays, taps := c.taps }
  setMigr { m with mine := none, other := none, bad := false } (modChain (twinOf m.handle) put s)

/-- Whether the movers of an engine write an offset of its local store in a tick: its windows, taken to stand from the start of each half, or its
swap buffers (04 R154, R172; log entry 13). -/
def moverUses (s : State) (e off : Nat) : Bool :=
  let l := (chainsOn s e).map (chainD s)
  let a := swapStart s e
  decide (0x38000 ≤ off) && decide ((off - 0x38000) % 0x4000 < lsum (l.map fun c => winBytes s c.desc))
    || decide (a ≤ off) && decide (off < a + 2 * swapSize s e)

/-- The movers use an engine's window area and swap buffers: what fabric writes put there is gone (04 R154, R172). -/
def useWindows (e : Nat) (s : State) : State :=
  modEng e (fun g => { g with touched := true, store := g.store.filter fun x => !moverUses s e x.1 }) s

/-- An engine begins its tick: the run list for this tick, and its first chain (04 R168, R178, R180). A run that counts as failed for the engine's
being Out of service (05 R220) is one of a chain that is not parked, whatever the engine: parking depends on the samples alone (04 R179). -/
def engineTick (e : Nat) (s : State) : State :=
  let s := modEng e (fun g => { g with used := 0, missTick := 0, cur := 0, stalled := none }) s
  let pick := fun (a : List Nat × State) (h : Nat) =>
    let t := a.2
    let c := chainD t h
    match stageTick t c.desc.stage with
    | none => a
    | some k =>
      if !runsAt c k then a
      else if c.parked && inputsQuiet t c then (a.1, parkedTick h k t)
      else
        let t := if c.parked then resume h t else t
        if c.skip || (engAt t e).pst == 3 then (a.1, failedTick e h t) else (a.1 ++ [h], t)
  let x := (chainsOn s e).foldl pick ([], s)
  let l := x.1 ++ (((moves s).filter fun m => m.dst == e && thas s.eng.twins m.handle && twinDue s m).map fun m => twinOf m.handle)
  if l.isEmpty then x.2 else nextChain e (modEng e (fun g => { g with todo := l }) x.2)

/-- The engines that hold chains, and those on which a twin run is due. -/
def busyEngines (s : State) : List Nat :=
  let l := (s.eng.runList.filter fun l => !l.2.isEmpty).map (·.1)
  l ++ ((((moves s).filter fun m => twinDue s m).map (·.dst)).filter fun e => !l.contains e)

/-- Every engine begins its tick. Twin runs that are due start from the state of the source (05 R211, R213). The window half that the engines
work from is filled by the movers (04 R154). -/
def startEngines (s : State) : State :=
  let s := ((moves s).filter fun m => twinDue s m).foldl (fun t m => prepTwin m t) s
  (busyEngines s).foldl (fun t e => engineTick e (useWindows e t)) s

/-- The unloaded chains whose last stage run has ended are freed (04 R181). -/
def freeUnloaded (s : State) : State :=
  let over_ := fun (c : Chain) => match c.stop with
    | some t => decide (t + (if c.desc.stage = 1 then 1 else 3) ≤ cal s)
    | none => false
  ((s.eng.chains.filter fun c => over_ c.2).map (·.1)).foldl (fun t h => freeChain h t) s

/-- The chains of an engine that have not executed TEND miss (02 R78, R79); its slack is noted (05 R190). -/
def missEngine (e : Nat) (s : State) : State :=
  let g := engAt s e
  let l := (if g.cur = 0 then [] else [g.cur]) ++ g.todo
  let s := l.foldl (fun t h => missTick e h t) s
  let s := (l.filter fun h => !isTwin h).foldl (fun t _ => raiseVcore 40 t) s
  let s := modEng e (fun g => { g with cur := 0, todo := [], loops := [], journal := [], outWin := [], lineWin := [], stalled := none, swapWait := false }) s
  noteSlack e s

/-- The migrations at a deadline (05 R211 step 4, R214, R217): the compare of every twin run of the tick; where the chain is parked, the twin run
moves to the next sample tick, and with it the final copy; a chain that stays parked at the tick first meant for its twin run and 64 ticks after
it, PARKED; one whose unload is bound at or before the twin run so moved, UNLOADED. -/
def settleMoves (s : State) : State :=
  let idle := fun (m : Migr) (k : Nat) =>
    let c := chainD s m.handle
    (m.phase == 1 || m.phase == 2) && decide (m.commit ≤ k) && runsAt c k && c.parked
  let count := fun (m : Migr) => match stageTick s (chainD s m.handle).desc.stage with
    | some k => if idle m k then
        { m with parked := m.parked + 1, commit := k + 1, phase := if (chainD s m.handle).swap.isSome then m.phase else 1 } else m
    | none => m
  let ends := fun (m : Migr) => match (chainD s m.handle).stop with | some t => decide (t ≤ m.commit + 1) | none => false
  let runs := ((moves s).filter fun m => m.failed || twinDue s m).map (·.handle)
  let s := { s with place := { s.place with migr := s.place.migr.map count } }
  let s := runs.foldl (fun t h => match migrOf t h with | some m => judgeRun m t | none => t) s
  abortIf 5 ends (abortIf 11 (fun m => decide (65 ≤ m.parked)) s)

/-! ## Fixed blocks that catch up (15 R601 step 2) -/

/-- A joining Shadow records what goes into its fixed blocks in sample tick `k`, from S until they have reached the live tick. -/
def recordTick (b : Bool) (k : Nat) (s : State) : State :=
  let p := s.pair
  if s.mode.mode = 7 ∧ p.state = 2 ∧ p.snap ≤ k ∧ (p.loaded = 1 ∨ p.behind.isSome) then
    { s with pair := { p with recd := p.recd ++ [(b, recD s k)] } }
  else s

/-- One recorded tick of one stage runs through the blocks that catch up; noise generators take their step with Stage A. -/
def catchTick (s : State) (f : Fixed) (x : Bool × TickRec) : Fixed :=
  let t := { s with pipe := { s.pipe with recs := x.2 :: s.pipe.recs.filter fun r => r.k != x.2.k } }
  if x.1 then (fixedB x.2.k { t with fixed := f }).fixed
  else (fixedA x.2.k { t with fixed := (runTestGens x.2.cfg x.2.k [] f).2 }).fixed

/-- Up to eight recorded ticks of both stages; once none is left, the blocks have reached the live tick and replace the Shadow's. Its operator
meters stay its own. The model runs as many ticks as the rule lets (DESIGN CHOICE, log entry 28). -/
def catchUp (s : State) : State :=
  match s.pair.behind with
  | none => s
  | some f =>
    let f := (s.pair.recd.take 16).foldl (catchTick s) f
    let rest := s.pair.recd.drop 16
    if rest.isEmpty then
      let g := (runTestGens s.pipe.live (cal s) [] f).2
      { s with pair := { s.pair with recd := [], behind := none },
               fixed := { g with meters := s.fixed.meters, seen := s.fixed.seen, seenRate := s.fixed.seenRate } }
    else { s with pair := { s.pair with recd := rest, behind := some f } }

/-- The sample tick that the fixed blocks of a stage work on in a tick: from the first tick of the data plane on, with zeros in every slot of the
sample ticks before it (02 R75, 06 R264, 17 R642). -/
def fixedTick (s : State) (d : Nat) : Option Nat := if s.pipe.first ≤ cal s ∧ d ≤ cal s then some (cal s - d) else none

/-- The chain deadline and the write-back reserve of the tick in progress (02 R77-R79, 06 R240). -/
def deadline (s : State) : State :=
  if !s.pipe.running || !s.pipe.mid then s
  else
    let awake := (enginesOf s).filter fun e => (engAt s e).pst != 0 && ((engAt s e).pst != 3 || (engAt s e).cur != 0 || !(engAt s e).todo.isEmpty)
    let s := settleMoves (awake.foldl (fun t e => missEngine e t) s)
    let s := (enginesOf s).foldl (fun t e => goFallow e t) s
    let s := match fixedTick s 1 with | some k => fixedA k (recordTick false k s) | none => s
    let s := match fixedTick s 3 with | some k => fixedB k (recordTick true k s) | none => s
    let s := catchUp s
    { s with pipe := { s.pipe with mid := false } }

end Sys2Proof.Machine
end

