-- ==== Sys2Proof/Machine/Present.lean ====
section
/-! DEFINITION. The input stage of a tick: what serial and AES3 ports, flows, audio-over-IP receivers, replays and test generators write
to SRC (02 R52, R62, 09 R327-R339, 10 R391, R392, R410, 12 R494). -/

namespace Sys2Proof.Machine

/-- An input word of a length as a sample (02 R52). -/
def inWord (word : Nat) (x : W32) : W32 :=
  if word = 16 then w32 (signed 16 x.toNat * 256)
  else if word = 24 then w32 (signed 24 x.toNat)
  else w32 (x.toInt / 256)

/-- A sample as an output word of a length (02 R52). -/
def outWord (word : Nat) (x : W32) : W32 :=
  let v := clampI (-(2 ^ 23 - 1)) (2 ^ 23 - 1) x.toInt
  if word = 16 then BitVec.ofNat 32 (wrap 24 v / 256)
  else if word = 24 then BitVec.ofNat 32 (wrap 24 v)
  else w32 (v * 256)

/-- Ports that have relocked unmute at a tick boundary (09 R332, R338). -/
def unmutePorts (s : State) : State :=
  let sp := tmapK (fun i (p : SpSt) =>
    if p.unmute then { p with unmute := false, state := if bit (tgetD s.pipe.live.sp i {}).flags 3 then 4 else 3 } else p) s.ports.sp
  let ae := tmapK (fun i (p : AeSt) =>
    if p.unmute then { p with unmute := false, state := if bit (tgetD s.pipe.live.ae i {}).flags 2 then 3 else 2 } else p) s.ports.ae
  { s with ports := { s.ports with sp := sp, ae := ae } }

/-- Whether an AES3 receiver passes audio (09 R342). -/
def aeLive (s : State) (port : Nat) : Bool := (aeSt s port).state == 2 || (aeSt s port).state == 3

/-- What an AES3 receiver presents in a tick: each frame one frame after it came in, or behind the ASRC the converted words (02 R65). -/
def aeShown (s : State) (x : TickIn) (port ch : Nat) : Blk :=
  let b := (blkOf x.ae (2 * port + ch)).map (inWord 24)
  if (aeSt s port).state = 3 then b else (if ch = 0 then (aeSt s port).in0 else (aeSt s port).in1) :: b

/-- Each receiver keeps the last frame of the tick for the next one (02 R65). -/
def aeKeep (n : Nat) (x : TickIn) (s : State) : State :=
  let last := fun (i ch : Nat) => inWord 24 (smp (blkOf x.ae (2 * i + ch)) (n - 1))
  { s with ports := { s.ports with ae := tmapK (fun i (p : AeSt) =>
      if p.state = 2 then { p with in0 := last i 0, in1 := last i 1 } else { p with in0 := 0, in1 := 0 }) s.ports.ae } }

/-- SRC blocks of the local ports. -/
def srcPorts (c : Cfg) (x : TickIn) (s : State) : Tab Blk :=
  let sp := (c.sp.filter fun p => bit p.2.flags 0 && spLive (spSt s p.1)).foldl (fun t p =>
    (List.range p.2.ch).foldl (fun t ch =>
      putBlk t (p.2.srcBase + ch) (mkBlk c.n fun j => inWord p.2.word (smp (blkOf x.sp (32 * p.1 + ch)) j))) t) ([] : Tab Blk)
  let ae := (c.ae.filter fun p => bit p.2.flags 0 && aeLive s p.1).foldl (fun t p =>
    (List.range 2).foldl (fun t ch =>
      putBlk t (p.2.srcBase + ch) (mkBlk c.n (smp (aeShown s x p.1 ch)))) t) sp
  if bit c.slp.flags 1 then putBlk ae c.slp.mic (mkBlk c.n fun j => inWord 24 (smp x.mic j)) else ae

/-! ## Flows -/

/-- The block that a flow holds for a channel of a stamp. -/
def heldBlk (f : FlowRx) (stamp ch : Nat) : Option Blk :=
  findSome (fun (b : Nat × Nat × List Blk) =>
    if b.1 = stamp ∧ b.2.1 ≤ ch ∧ ch < b.2.1 + b.2.2.length then b.2.2[ch - b.2.1]? else none) f.blocks

/-- One channel of a flow at a sample tick: its block, its last sample, and its run of missing ticks (10 R391). -/
def presentCh (f : FlowRx) (x : FlowIn) (n stamp ch : Nat) (have_ : Bool) : Blk × W32 × Nat :=
  let last := f.lastS.getD ch 0
  match (if have_ then heldBlk f stamp ch else none) with
  | some b => (mkBlk n (smp b), smp b (n - 1), 0)
  | none =>
    let m := f.missing.getD ch 0 + 1
    if f.state = 0 ∨ x.conceal < m then (mkBlk n fun _ => 0, last, m) else (mkBlk n fun _ => last, last, m)

/-- A flow presents the block stamped `k - D`, or conceals it (10 R387, R391, R392). -/
def presentFlow (k : Nat) (c : Cfg) (key : Nat) (x : FlowIn) (src : Tab Blk) (s : State) : Tab Blk × State :=
  let f := tgetD s.links.flows key {}
  let stamp := k - x.depth
  let l := (List.range x.ch).map fun ch => presentCh f x c.n stamp ch (decide (x.depth ≤ k))
  let got := l.any fun y => y.2.2 == 0
  let miss := l.any fun y => y.2.2 != 0
  let zero := l.any fun y => decide (x.conceal < y.2.2)
  let st := if f.state = 0 ∧ !got then 0 else if zero then 3 else if miss then 2 else 1
  let f := { f with lastS := l.map fun y => y.2.1, missing := l.map fun y => y.2.2, state := st,
                    blocks := f.blocks.filter fun b => decide (k < b.1 + 49),
                    pres := add16 ((f.blocks.filter fun b => b.1 == stamp).length) f.pres,
                    conc := if st = 2 then inc16 f.conc else f.conc, zero := if st = 3 then inc16 f.zero else f.zero }
  let src := ((List.range x.ch).zip l).foldl (fun t y => putBlk t (x.srcBase + y.1) y.2.1) src
  (src, { s with links := { s.links with flows := tset s.links.flows key f } })

/-! ## Audio over IP -/

/-- One position of a receiver: the words it holds there, or concealment with the channels' last presented samples `last` (10 R391, R410). -/
def aoPos (x : Aoip) (a : AoSt) (last : List W32) (have_ : Option (List W32)) (missing : Nat) : List W32 :=
  match have_ with
  | some b => b
  | none => (List.range x.ch).map fun i => if x.opt < missing ∨ !a.got then 0 else last.getD i 0

/-- The positions of a tick from its first on, each with the samples that its packet brought; the second result is what was presented last. -/
def aoRows (x : Aoip) (a : AoSt) (missing : Nat) : List (Option (List W32)) → List W32 → List (List W32) × List W32
  | [], last => ([], last)
  | h :: r, last =>
    let y := aoRows x a missing r (h.getD last)
    (aoPos x a last h missing :: y.1, y.2)

/-- A receiver presents the samples whose media time falls in the tick; where a packet covers it in part, the missing positions repeat what the
channel presented last (10 R391, R410). -/
def presentAo (k : Nat) (c : Cfg) (i : Nat) (x : Aoip) (src : Tab Blk) (s : State) : Tab Blk × State :=
  let a := tgetD s.links.aoRx i {}
  let held := (List.range c.n).map fun j => (tget a.buf (k * c.n + j)).map fun b => (List.range x.ch).map (smp b)
  let m := if held.any Option.isNone then a.conc + 1 else 0
  let rows := aoRows x a m held a.lastS
  let src := (List.range x.ch).foldl (fun t ch => putBlk t (x.base + ch) (rows.1.map fun r => r.getD ch 0)) src
  let a := { a with conc := m, lastS := rows.2, buf := a.buf.filter fun b => decide ((k + 1) * c.n ≤ b.1) }
  (src, { s with links := { s.links with aoRx := tset s.links.aoRx i a } })

/-! ## The input stage -/

/-- SRC of sample tick `k` (02 R62), all but what the links bring in during the tick. -/
def inputStage (k : Nat) (x : TickIn) (s : State) : Tab Blk × State :=
  let c := s.pipe.live
  let src := srcPorts c x s
  let (src, s) := c.replays.foldl (fun (a : Tab Blk × State) r =>
    let y := replayTick r.1 k (x.late.contains r.1) r.2 a.2
    (tmerge a.1 y.1, y.2)) (src, s)
  let (src, f) := runTestGens c k src s.fixed
  (src, aeKeep c.n x { s with fixed := f })

/-- At the end of a tick, what flows and audio-over-IP receivers present in its sample tick (10 R387, R391, R410). -/
def finishInput (s : State) : State :=
  match recAt s (cal s) with
  | none => s
  | some r =>
    let (src, s) := r.cfg.flowIn.foldl (fun (a : Tab Blk × State) f => presentFlow r.k r.cfg f.1 f.2 a.1 a.2) (r.src, s)
    let (src, s) := (r.cfg.aoRx.filter fun x => bit x.2.flags 0).foldl (fun (a : Tab Blk × State) x => presentAo r.k r.cfg x.1 x.2 a.1 a.2) (src, s)
    modRec r.k (fun q => { q with src := src }) s

/-- A new sample tick enters the Slot Exchange with the configuration bound to it (02 R69); twenty are kept. -/
def beginTick (k : Nat) (x : TickIn) (s : State) : State :=
  let (src, s) := inputStage k x s
  let r : TickRec := { k := k, cfg := s.pipe.live, src := src }
  { s with pipe := { s.pipe with recs := (r :: s.pipe.recs).take 20 } }

end Sys2Proof.Machine
end

