-- ==== Sys2Proof/Machine/Outputs.lean ====
section
/-! DEFINITION. The output stage of a tick: serial, AES3 and SLP outputs, the Drive Modulator, Sogus frames, audio-over-IP senders, the
Sealed Meter tap and the DST check (02 R62, 09 R327-R356, 10 R380-R385, R409, 15 R590, 19 R682). -/

namespace Sys2Proof.Machine

/-- What the outputs read of a DST slot: zeros while SYS_MUTE_ALL is in force for the sample tick (13 R551). -/
def outBlkOf (r : TickRec) (slot : Nat) : Blk := if r.cfg.mute then [] else blkOf r.dst slot

/-! ## Local ports -/

/-- Bits 6 and 7 of byte 0, and byte 4 bits 3 to 6, of professional channel status: the sampling frequency of a rate code (PRESUMED, AES3: log
entry 68). -/
def aeRateBits : Nat → Nat × Nat
  | 0 => (1, 0) | 1 => (2, 0) | 2 => (0, 10) | 3 => (0, 2) | 4 => (0, 11) | _ => (0, 3)

/-- The professional channel status of a transmitter (09 R340): no emphasis, the sampling frequency, words of 24 bits at most with all used, the
reference grade of TX_REF, and the CRCC (PRESUMED, AES3: log entry 68). -/
def aeStatus (rate txRef : Nat) : List Byte :=
  let f := aeRateBits rate
  let b := toBE 1 (1 + 4 + 64 * f.1) ++ toBE 1 0 ++ toBE 1 (4 + 8 * 5) ++ toBE 1 0
    ++ toBE 1 ((if txRef = 1 then 2 else if txRef = 2 then 1 else 0) + 8 * f.2) ++ zeroBytes 18
  b ++ toBE 1 (crcc b)

/-- The words that leave serial and AES3 outputs (09 R327, R328, R330, R340). An AES3 transmitter sends each word one frame later (02 R65), with its
channel status, and validity and user bits of zero. -/
def outPorts (r : TickRec) (s : State) : State :=
  let c := r.cfg
  let sp := (c.sp.filter fun p => bit p.2.flags 1 && (spLive (spSt s p.1) || (spSt s p.1).tail)).foldl (fun t p =>
    (List.range p.2.ch).foldl (fun t ch =>
      tset t (32 * p.1 + ch) (mkBlk c.n fun j => outWord p.2.word (smp (outBlkOf r (p.2.dstBase + ch)) j))) t) ([] : Tab Blk)
  let tx := c.ae.filter fun p => bit p.2.flags 1
  let word := fun (p : Nat × AeCfg) (ch j : Nat) => outWord 24 (smp (outBlkOf r (p.2.dstBase + ch)) j)
  let ae := tx.foldl (fun t p => (List.range 2).foldl (fun t ch =>
    tset t (2 * p.1 + ch) (mkBlk c.n fun j => if j = 0 then (if ch = 0 then (aeSt s p.1).out0 else (aeSt s p.1).out1) else word p ch (j - 1))) t) ([] : Tab Blk)
  let s := tx.foldl (fun t p => modAe p.1 (fun a => { a with out0 := word p 0 (c.n - 1), out1 := word p 1 (c.n - 1), sent := aeStatus c.rate p.2.txRef, vu := 0 }) t)
    { s with ports := { s.ports with ae := tmap (fun (a : AeSt) => { a with out0 := 0, out1 := 0, sent := [] }) s.ports.ae } }
  { s with pipe := { s.pipe with outSp := sp, outAe := ae } }

/-- Whether a tone sounds (09 R360): in Run-Shadow the SLP sends zeros (R356). -/
def toning (s : State) : Bool := (s.ports.slp.tone.any fun t => t.1 != 0) && decide (2 ≤ s.mode.mode) && decide (s.mode.mode ≤ 6)

/-- The words of a tone on SLP_SDO (09 R360): the spec gives no arithmetic for the sine, so every word is free (log entry 5). -/
def outTone (s : State) : State :=
  let (l, s) := freshInts 24 (tickN s) s
  let (r, s) := freshInts 24 (tickN s) s
  let w := fun (v : Int) => BitVec.ofNat 32 (wrap 24 v)
  { s with pipe := { s.pipe with outSlp := [(0, l.map w), (1, r.map w)] },
           ports := { s.ports with slp := { s.ports.slp with tonePos := s.ports.slp.tonePos + tickN s } } }

/-- SLP_SDO in a tick without the data plane: in Bring-up and Recovery it carries only the tone generator (09 R356), and zeros under SYS_MUTE_ALL
(13 R551). -/
def toneTick (s : State) : State :=
  if 3 < s.mode.mode ∨ s.pipe.held = true then s
  else if toning s && !s.boot.planeR && !s.pipe.live.mute then outTone s else { s with pipe := { s.pipe with outSlp := [] } }

/-- The listen outputs (09 R356): muted while a tone plays (R360), zero in Run-Shadow. -/
def outListen (r : TickRec) (s : State) : State :=
  if toning s && !r.cfg.mute then outTone s else
  let x := s.pipe.live.slp
  let on := bit x.flags 0 && !r.cfg.mute && !toning s && decide (4 ≤ s.mode.mode) && decide (s.mode.mode ≤ 6)
  let ch := fun (v : Nat) => mkBlk r.cfg.n fun j =>
    if x.gain = 0 then 0 else outWord 24 (sat (coefMul (smp (slotOf r (v / 16384) (v % 4096)) j).toInt (linOf x.gain)))
  { s with pipe := { s.pipe with outSlp := if on then [(0, ch x.left), (1, ch x.right)] else [] } }

/-! ## Drive Modulator -/

/-- The run state of a channel as a tick begins (09 R349-R354): off while a condition holds it; muting, then idle, on silence; else soft
start, then running. -/
def drvNext (s : State) (x : DrvCfg) (d : DrvCh) : Nat :=
  let v := s.ports.drv
  if v.clkErr && d.run == 4 && !v.fault then 4
  else if v.fault || v.clkErr || d.trip || s.mode.mode == 7 then 0
  else if bit x.flags 3 && isSilent s 3 x.dst then (if d.run = 2 ∨ d.run = 3 then 4 else 1)
  else if d.run = 2 ∨ d.run = 3 then 3 else 2

/-- The largest modulation index, 0.95 in 1/(20 x 2^23) (09 R344). -/
def indexMax : Int := 19 * 2 ^ 23

/-- The modulation index of a sample (09 R344): saturated to 2^23, limited to 0.95, inverted where bit 2 of FLAGS says so. -/
def indexOf (x : DrvCfg) (v : W32) : Int :=
  clampI (-indexMax) indexMax (20 * clampI (-(2 ^ 23)) (2 ^ 23) v.toInt) * (if bit x.flags 2 then -1 else 1)

/-- The duties of PWMA and PWMB at a modulation index (09 R344). -/
def dutyOf (m : Int) : Nat × Nat := ((20 * 2 ^ 23 + m).toNat, (20 * 2 ^ 23 - m).toNat)

/-- The indices that a channel sends in a tick (09 R343, R344, R350, R352): the samples taken a tick before, zero while it starts, the ramp to zero
while it mutes, of which the spec gives no shape (a free value, log entry 5), and none with the gates off. -/
def sendIndex (run n : Nat) (taken : List Int) (s : State) : List Int × State :=
  if run = 3 then ((List.range n).map fun j => taken.getD j 0, s)
  else if run = 2 then (List.replicate n 0, s)
  else if run = 4 then let x := freshInts 29 n s; (x.1.map (clampI (-indexMax) indexMax), x.2)
  else ([], s)

/-- The index of a channel ramps to zero from now on (09 R350, R352). -/
def beginRamp (c : Nat) (s : State) : State :=
  let x := sendIndex 4 (tickN s) [] s
  modDrv c (fun d => { d with run := 4, index := x.1, pwm := x.1.map dutyOf }) x.2

/-- One channel's tick (09 R344, R345, R349): every saturated sample is counted, and the 2 Hz filter takes the feedback while it works, else the
saturated samples. The spec gives no arithmetic for the decimator and the loop: their outputs are free values (log entry 5). -/
def drvTick (r : TickRec) (c : Nat) (x : DrvCfg) (s : State) : State :=
  let d := drvCh s c
  let b := mkBlk r.cfg.n (smp (outBlkOf r x.dst))
  let clips := (b.filter fun v => decide (2 ^ 23 < mag v)).length
  let run := drvNext s x d
  let (idx, s) := sendIndex run r.cfg.n d.taken s
  let loop := bit x.flags 1 && !d.fbLost && run == 3
  let (fbs, s) := if loop then freshInts 24 r.cfg.n s else ([], s)
  let fb := fbs.getLast?.getD 0
  let dc := (if loop then fbs else b.map fun v => clampI (-(2 ^ 23)) (2 ^ 23) v.toInt).foldl (Config.lowPass2Hz (rateHz r.cfg.rate)) d.dc
  let (corr, s) := if loop then freshInt 24 s else (0, s)
  modDrv c (fun d => { d with run := run, clips := add16 clips d.clips, taken := b.map (indexOf x), index := idx, pwm := idx.map dutyOf, dc := dc,
                              dcOver := if 167772 < dc.natAbs then d.dcOver + tickLen s else 0, fb := fb, corr := corr }) s

/-- A channel in the output stage: a disabled one has its gates off and soft-starts when it is enabled again (09 R352, R368). -/
def drvStep (r : TickRec) (s : State) (x : Nat × DrvCfg) : State :=
  if bit x.2.flags 0 then drvTick r x.1 x.2 s else modDrv x.1 (fun d => { drvOff d with dcOver := 0 }) s

/-- The switching frequency of a code in kHz (09 R346). -/
def freqKHz (code : Nat) : Nat := ([300, 320, 340, 360, 380, 400, 425, 450] : List Nat).getD code 300

/-- The score of an entry: the smallest distance between a harmonic in the band and a station (09 R347). -/
def freqScore (stations : List Nat) (code : Nat) : Nat :=
  let f := freqKHz code
  let hs := ((List.range 6).map fun h => (h + 2) * f).filter fun v => decide (520 ≤ v) && decide (v ≤ 1710)
  let ds := hs.flatMap fun v => stations.map fun w => if v ≤ w then w - v else v - w
  ds.foldl min 100000

/-- The code that a DRV_SET_FREQ block chooses (09 R347): with stations to avoid, the one whose harmonics from 520 to 1710 kHz keep farthest
from every station. -/
def freqCode (x : DrvFreq) : Nat :=
  if x.mode = 1 ∧ !x.stations.isEmpty then
    (bestBy (fun a b => decide (freqScore x.stations b < freqScore x.stations a)) (List.range 8)).getD 0
  else x.index

/-- The Drive Modulator's part of the output stage; a frequency change waits for each channel's carrier period boundary (09 R348). -/
def outDrive (r : TickRec) (s : State) : State :=
  if !hasDrv s then s
  else
    let s := r.cfg.drv.foldl (drvStep r) s
    let want := freqCode r.cfg.drvFreq
    { s with ports := { s.ports with drv := { s.ports.drv with cfg := r.cfg.drv, pendCode := if want = s.ports.drv.code then none else some want } } }

/-- A waiting frequency change takes effect (09 R348). -/
def takeFreq (s : State) : State :=
  match s.ports.drv.pendCode with
  | some v => { s with ports := { s.ports with drv := { s.ports.drv with code := v, pendCode := none } } }
  | none => s

/-! ## Sogus frames -/

/-- Channels in one fragment (10 R380). -/
def fragLen (n : Nat) : Nat := 1476 / (4 * n)

/-- The flow blocks of a flow: header and samples, sample-major (10 R379, R380). -/
def flowBlocks (r : TickRec) (id : Nat) (f : FlowOut) : List (List Byte) :=
  let n := r.cfg.n
  let w := min 64 (fragLen n)
  (List.range ((f.ch + w - 1) / w)).map fun i =>
    let first := i * w
    let cnt := min w (f.ch - first)
    toBE 2 id ++ toBE 1 first ++ toBE 1 cnt ++ toBE 1 n ++ toBE 1 f.ch ++ toBE 2 0
      ++ (List.range n).flatMap fun j => (List.range cnt).flatMap fun ch => toBE 4 (smp (outBlkOf r (f.dstBase + first + ch)) j).toNat

/-- The destination addresses to which a flow leaves by a port (10 R382, R383, R400, R402). -/
def flowDests (s : State) (p : Nat) (f : FlowOut) : List (List Byte) :=
  if f.kind = 2 then (if (groupPorts s f.target).contains p then [macGroup f.target] else [])
  else ((f.copies.zip f.ports).filter fun c => (ringPorts s c.2).contains p).map fun c => macNode c.1

/-- Places a fragment in the current frame for its destination, or starts a new one (10 R380 step 3). -/
def packFrag (dest frag : List Byte) (fs : List (List Byte × Nat × List Byte)) : List (List Byte × Nat × List Byte) :=
  match fs.reverse.findIdx? fun f => f.1 == dest with
  | some i =>
    let k := fs.length - 1 - i
    match fs[k]? with
    | some f =>
      if 16 + f.2.2.length + frag.length ≤ 1500 ∧ f.2.1 < 15 then fs.set k (dest, f.2.1 + 1, f.2.2 ++ frag) else fs ++ [(dest, 1, frag)]
    | none => fs ++ [(dest, 1, frag)]
  | none => fs ++ [(dest, 1, frag)]

/-- The frames of a tick that a port sends (10 R380): destination, blocks and payload. -/
def portFrames (r : TickRec) (p : Nat) (s : State) : List (List Byte × Nat × List Byte) :=
  r.cfg.flowOut.foldl (fun fs f =>
    let bs := flowBlocks r f.1 f.2
    (flowDests s p f.2).foldl (fun fs d => bs.foldl (fun fs b => packFrag d b fs) fs) fs) []

/-- Every port sends its frames (10 R380, R384, R385). -/
def outFlows (r : TickRec) (s : State) : State :=
  (List.range 4).foldl (fun t p => (portFrames r p t).foldl (fun t f => sendFrame p 1 f.2.1 f.1 (fun _ => f.2.2) t) t) s

/-! ## Audio over IP -/

/-- A sample as a sender carries it: 16 or 24 bits (10 R407, 02 R52). -/
def aoWord (l24 : Bool) (x : W32) : List Byte := if l24 then toBE 3 (outWord 24 x).toNat else toBE 2 (outWord 16 x).toNat

/-- The media clock at sample position `p`: samples since the PTP epoch, modulo 2^32 (10 R409). -/
def mediaClock (s : State) (p : Nat) : Nat := ((s.clock.epoch * rateHz (rate s) / 1000000000 + p) % 2 ^ 32).toNat

/-- One tick of a sender: it gathers samples and sends a packet, RTP in UDP on IPv4, once it holds a packet time (10 R407-R409, R426). A new entry is first used
for its own sample tick (02 R69), and starts over. -/
def aoSend (r : TickRec) (i : Nat) (x : Aoip) (s : State) : State :=
  let n := r.cfg.n
  let p0 := (r.k + 4) * n
  let was := tgetD s.links.aoTx i {}
  let a := if was.bound = x.bound then was else { bound := x.bound }
  let old := if p0 % x.ptime = 0 then [] else a.buf
  let buf := (List.range n).foldl (fun t j => tset t (p0 + j) ((List.range x.ch).map fun ch => smp (outBlkOf r (x.base + ch)) j)) old
  if x.ptime ≤ buf.length && linkUp s x.port then
    let ts := mediaClock s ((buf.head?.map (·.1)).getD p0)
    let body := buf.flatMap fun e => e.2.flatMap (aoWord (bit x.flags 1))
    let pkt := toBE 1 0x80 ++ toBE 1 x.pt ++ toBE 2 a.seq ++ toBE 4 ts ++ toBE 4 x.src ++ body
    let a := { a with buf := [], seq := (a.seq + 1) % 65536, count := inc32 a.count }
    egress x.port { kind := .rtp, a := i, b := ts, c := x.port, bytes := ipv4 x.last x.opt 17 (linkCfg s x.port).ip x.addr (udpOf x.udp pkt) } { s with links := { s.links with aoTx := tset s.links.aoTx i a } }
  else { s with links := { s.links with aoTx := tset s.links.aoTx i { a with buf := if x.ptime ≤ buf.length then [] else buf } } }

/-- Every enabled sender. -/
def outAoip (r : TickRec) (s : State) : State :=
  (r.cfg.aoTx.filter fun x => bit x.2.flags 0).foldl (fun t x => aoSend r x.1 x.2 t) s

/-! ## The Sealed Meter tap -/

/-- The tap delivers a tick's block with the PTP time of the tick and the servo state (19 R682, R695, R698). -/
def tapDeliver (r : TickRec) (s : State) : State :=
  if !hasMeter s || !s.meter.vmet then s
  else
    let full := (List.range 16).any fun p => pointOn s.meter.points p &&
      (let v := (tgetD s.meter.points p {}).slot
       (slotOf r (v / 16384) (v % 4096)).any fun x => mag x == 2 ^ 31 - 1)
    let blk := fun v => slotOf r (v / 16384) (v % 4096)
    modMeter (fun m =>
      { meterTick r.cfg.rate r.cfg.n blk m with
        got := true, tick := some s.clock.now, overl := m.overl || full, locked := m.locked && s.clock.state == 2 && !s.clock.unset }) s

/-- A tick without the data plane is lost to the tap (19 R683). -/
def tapLost (s : State) : State :=
  if !hasMeter s || !s.meter.vmet then s else modMeter (fun m => { m with lost := true, lostPts := 0xFFFF, locked := false }) s

/-! ## The DST check -/

/-- Enters Unsynced with the Degraded fault of a mismatch (15 R590, R593). A takeover that was to come at the next boundary does not (R596). -/
def unsynced (reason : Nat) (s : State) : State :=
  raise 0x0F02 reason (modPair (fun p => { p with takeAt := none, takeNow := false }) (setPair 4 reason s))

/-- Compares the partner's check with this node's for the same sample tick (15 R590); in a resynchronisation matches in a row count. -/
def compareCheck (s : State) : State :=
  match s.pair.check, s.pair.pCheck with
  | some a, some b =>
    if a.1 ≠ b.1 ∨ s.mode.mode ≠ 7 then s
    else
      let ok := a.2 == b.2
      let s := modPair (fun p => { p with pCheck := none, chkTick := a.1, chkOk := ok, checks := if ok then p.checks + 1 else 0 }) s
      if ok ∨ s.pair.state ≠ 3 then s else unsynced 3 s
  | _, _ => s

/-- The CRC-32C of all DST slots of a sample tick, in slot and position order, as big-endian words (15 R590). -/
def dstCrc (r : TickRec) : Nat :=
  let word := fun (c : BitVec 32) (x : W32) => crcRun c (toBE 4 x.toNat)
  let sum := (List.range 4096).foldl (fun c i => let b := blkOf r.dst i; (List.range r.cfg.n).foldl (fun c j => word c (smp b j)) c) 0xFFFFFFFF#32
  (sum ^^^ 0xFFFFFFFF#32).toNat

/-- Forms the DST check of a sample tick whose number is a multiple of 1024, once (15 R590). -/
def dstCheck (r : TickRec) (s : State) : State :=
  let done := match s.pair.check with | some c => c.1 == r.k | none => false
  if paired s && r.k % 1024 == 0 && !done then compareCheck (modPair (fun p => { p with check := some (r.k, dstCrc r), chkNew := true }) s) else s

/-! ## The output stage -/

/-- The outputs and the tap of a tick that comes before the samples of the data plane's first sample tick leave: zeros (02 R75), with the
configuration of the sample tick four before (02 R69). -/
def outputZeros (k : Nat) (s : State) : State :=
  let r : TickRec := { k := k, cfg := { cfgOf s k with rate := rate s, n := tickN s } }
  outDrive r (outListen r (tapDeliver r (outAoip r (outFlows r (outPorts r s)))))


/-- Everything that reads DST of sample tick `k` (02 R62). -/
def outputStage (k : Nat) (s : State) : State :=
  let r := recD s k
  let s := outDrive r (outListen r (outPorts r s))
  let s := dstCheck r (tapDeliver r (outAoip r (outFlows r s)))
  if hasCap s then captureStage r s else s

end Sys2Proof.Machine
end

