-- ==== Sys2Proof/Machine/Transport.lean ====
section
/-! DEFINITION. The arrival of GCP requests: the checks of 13 R520 up to the queues, the version-1 subset, the reply cache, the mailbox
rings, UDP reassembly, and the relay of replies (13 R511-R529, R541-R549, R554-R556, 14 R563, R570). -/

namespace Sys2Proof.Machine

/-! ## Reading a request -/

/-- The request that a packet holds; a packet too short to hold bytes 2 to 5 has OPCODE and TAG zero (13 R511, R519). -/
def parseReq (src : Src) (ret : Nat × Nat) (p : List Byte) : Req :=
  let short := decide (p.length < 6)
  { src := src, ret := ret, ver := byteAt p 0, flags := byteAt p 1, opcode := if short then 0 else be p 2 2,
    tag := if short then 0 else be p 4 2, seq := be p 8 4, role := byteAt p 12, slot := byteAt p 13, applyAt := be p 16 8,
    crc := be p (p.length - 4) 4, params := (p.drop 24).take (be p 6 2) }

/-- Step 1 (13 R512). -/
def lengthOk (src : Src) (p : List Byte) : Bool :=
  p.length == 44 + be p 6 2 && decide (44 ≤ p.length) && decide (be p 6 2 ≤ if src = .link then 1440 else 4096)

/-- Step 3 (13 R520, R554): no request comes on a transport from the pair path, so bit 2 of FLAGS is clear. -/
def fieldsOk (p : List Byte) : Bool :=
  let v := byteAt p 0
  (v == 1 || v == 2) && (byteAt p 1 &&& 0xF5) == 0 && be p 14 2 == 0 && decide (byteAt p 12 ≤ if v = 1 then 1 else 2) && decide (byteAt p 13 ≤ 7)

/-- The AUTH field. -/
def authField (p : List Byte) : List Byte := (p.drop (24 + be p 6 2)).take 16

/-- Step 4 by a key (13 R513). -/
def authOk (s : State) (r : Req) (p : List Byte) : Bool :=
  let k := keyOf s r.role r.slot
  !k.isEmpty && auth16 k (p.take (24 + be p 6 2)) == authField p

/-- Step 5 (13 R521). -/
def seqOk (s : State) (r : Req) : Bool :=
  let d := (r.seq + 2 ^ 32 - tgetD s.sec.lastSeq (credIx r.role r.slot) 0) % 2 ^ 32
  decide (1 ≤ d) && decide (d ≤ 2 ^ 31 - 1)

/-- The opcodes of version 1 (13 R555). -/
def v1Ops : List Nat :=
  [0x0101, 0x0105, 0x0201, 0x0202, 0x0204, 0x0206, 0x0401, 0x0402, 0x0601, 0x0602, 0x0604, 0x0605]

/-- Step 6 (13 R515, R520, R554). -/
def opcodeOk (r : Req) : Bool :=
  (opInfo r.opcode).isSome
    && if r.ver = 1 then v1Ops.contains r.opcode && (r.flags &&& 0x0E) == 0 && r.applyAt == 0
       else bit r.flags 1 == isStaged r.opcode && (isStaged r.opcode || r.applyAt == 0)

/-- Step 7 (13 R520): the operation's lowest role, which is maker for Factory Test (13 R550, 14 R557). -/
def roleOk (r : Req) : Bool :=
  (!(r.opcode == 0x0103 && par r 0 1 == 4) || r.role == 2) &&
  (match opInfo r.opcode with | some x => decide (x.1 ≤ r.role) | none => false) && (!bit r.flags 3 || decide (1 ≤ r.role))

/-- The classes that Recovery accepts (01 R32). -/
def recoveryClass (op : Nat) : Bool := [0x01, 0x09, 0x0B, 0x0C, 0x0D].contains (op / 256)

/-- Step 8: the status of an operation that the present mode or the life-cycle state does not allow (01 R32, R33, 13 R520, 14 R570). -/
def modeStatus (s : State) (r : Req) : Option Nat :=
  let m := s.mode.mode
  if m = 2 then (if isBringUpRead r.opcode then none else some BUSY)
  else if m = 7 ∧ !(isRead r.opcode || isNodeLocal r.opcode) then some NOT_ACTIVE
  else if m = 3 ∧ !recoveryClass r.opcode then some MODE_DENIED
  else if s.sec.lc = 0 ∧ !(r.opcode == 0x0101 || r.opcode / 256 == 0x0D) then some MODE_DENIED
  else if interrupting s r && guardedMode s && !bit r.flags 3 then some MODE_DENIED
  else none

/-- Depth of each queue (13 R527). -/
def queueCap (q : Nat) : Nat := if q < 2 then 256 else if q = 2 then 128 else 64

/-- Requests in a queue. -/
def queueLen (s : State) (q : Nat) : Nat :=
  match q with | 0 => s.cp.p0.length | 1 => s.cp.p1.length | 2 => s.cp.p2.length | _ => s.cp.p3.length

/-- A request enters its queue (13 R527) and takes its place in the audit log (14 R566). -/
def putInQueue (r : Req) (s : State) : State :=
  let (r, s) := noteRequest r (isRead r.opcode) s
  let c := s.cp
  let c := match queueOf r with
    | 0 => { c with p0 := c.p0 ++ [r], hw0 := max c.hw0 (c.p0.length + 1) }
    | 1 => { c with p1 := c.p1 ++ [r], hw1 := max c.hw1 (c.p1.length + 1) }
    | 2 => { c with p2 := c.p2 ++ [r], hw2 := max c.hw2 (c.p2.length + 1) }
    | _ => { c with p3 := c.p3 ++ [r], hw3 := max c.hw3 (c.p3.length + 1) }
  { s with cp := c }

/-- Step 11: the request enters its queue and receives its acceptance number (13 R527, R529). -/
def enqueue (r : Req) (s : State) : State :=
  let n := s.cp.acc + 1
  putInQueue { r with acc := n } { s with cp := { s.cp with acc := n } }

/-! ## Refusals -/

/-- A reply to a packet that was not authenticated (13 R518): no payload and sixteen zero bytes of AUTH. -/
def bareReply (r : Req) (status : Nat) (s : State) : State := sendOn r.src r.ret (replyPacket r [] status 0 0 0 []) s

/-- The transport of a source, of which AL0 and AL1 are one (13 R522, R526). -/
def transOf : Src → Nat
  | .pcie => 0 | .mg => 1 | .link => 2 | _ => 3

/-- Counts a BAD_AUTH reply; more than 16 within 1 s on one transport raise a Note, at most once per 1 s (13 R526). -/
def countAuth (src : Src) (s : State) : State :=
  let k := transOf src
  let now := s.clock.now
  let l := (now :: tgetD s.cp.authAt k []).filter fun t => lately t 1000000000 now
  let quiet := match tget s.cp.authNote k with | some t => lately t 1000000000 now | none => false
  let s := { s with cp := { s.cp with badAuth := tinc s.cp.badAuth k, authAll := inc16 s.cp.authAll, authAt := tset s.cp.authAt k (l.take 17) } }
  if decide (16 < l.length) && !quiet then
    raise 0x0D02 k { s with cp := { s.cp with authNote := tset s.cp.authNote k now } }
  else s

/-- Sends a cached reply again with the Repeat flag; its AUTH and CRC cover the changed FLAGS (13 R517, R518, R523). A BAD_PACKET keeps its
sixteen zero bytes. -/
def repeatReply (r : Req) (c : Cached) (s : State) : State :=
  let body := c.reply.take (c.reply.length - 20)
  let h := body.take 1 ++ [(body.getD 1 0) ||| 0x10#8] ++ body.drop 2
  let a := if r.trust || be c.reply 8 2 == BAD_PACKET then zeroBytes 16 else auth16 (keyOf s r.role r.slot) (toBE 4 r.seq ++ h)
  let b := h ++ a
  sendOn r.src r.ret (b ++ toBE 4 (crc32c b)) s

/-- The reply of a request that fails one of steps 6 to 10 (13 R518, R520): a BAD_PACKET carries no AUTH. -/
def refuse (r : Req) (status : Nat) (s : State) : State :=
  reply r (if status = BAD_PACKET then [] else replyKey s r) (isRead r.opcode) status 0 0 false false [] s

/-! ## The checks -/

/-- Steps 5 to 11 for an authenticated request. -/
def accept (r : Req) (s : State) : State :=
  let k := credIx r.role r.slot
  if !seqOk s r then
    match s.cp.cache.reverse.find? fun c => c.role == r.role && c.slot == r.slot && c.seq == r.seq && c.crc == r.crc with
    | some c => repeatReply r c s
    | none =>
      let s := { s with cp := { s.cp with stale := tinc s.cp.stale (transOf r.src), staleAll := inc16 s.cp.staleAll } }
      sendKept r (replyPacket r (replyKey s r) STALE_SEQUENCE 0 0 0 []) s
  else
    let s := { s with sec := { s.sec with lastSeq := tset s.sec.lastSeq k r.seq } }
    if !opcodeOk r then refuse r BAD_PACKET s
    else if !roleOk r then refuse r ROLE_DENIED s
    else match modeStatus s r with
      | some st => refuse r st s
      | none =>
        if absentUnit s r then refuse r UNIT_ABSENT s
        else if decide (queueCap (queueOf r) ≤ queueLen s (queueOf r)) then
          refuse r QUEUE_FULL { s with cp := { s.cp with qFull := inc16 s.cp.qFull } }
        else enqueue r s

/-- Whether the Command Processor takes requests: the core runs, and in Bring-up it has been started (01 R32). -/
def cpListens (s : State) : Bool :=
  decide (2 ≤ s.mode.mode) && !s.boot.halted && (s.mode.mode != 2 || s.cp.started)

/-- A whole packet arrives on one of the four transports (13 R520). A node without a node ID takes none on a link (10 R374). -/
def rxRequest (src : Src) (ret : Nat × Nat) (p : List Byte) (s : State) : State :=
  if !cpListens s || src == .pair || (src == .link && s.links.node == 0) then s
  else
    let r := parseReq src ret p
    if !lengthOk src p then bareReply r BAD_PACKET s
    else if crc32c (p.take (p.length - 4)) != r.crc then
      bareReply r BAD_CRC { s with cp := { s.cp with badCrc := tinc s.cp.badCrc (transOf src) } }
    else if !fieldsOk p then bareReply r BAD_PACKET s
    else if locallyTrusted s src r.role r.slot (authField p) then accept { r with trust := true } s
    else if authOk s r p then accept r s
    else bareReply r BAD_AUTH (countAuth src s)

/-! ## The mailbox rings (13 R541-R543) -/

/-- The packet in a request's buffer, LEN bytes of it (13 R542). -/
def packetOf (d : List Byte × Option (List Byte)) : Option (List Byte) := d.2.map (·.take (le d.1 8 4))

/-- Fetches announced request descriptors; none while 256 replies wait for a buffer, or while the Command Processor does not listen.
The count bounds the descriptors taken. -/
def fetchReqs : Nat → State → State
  | 0, s => s
  | n + 1, s =>
    if !cpListens s || !s.win.reqEn || decide (256 ≤ s.win.waiting.length) then s
    else match s.win.fetched with
      | [] => s
      | d :: ds =>
        let w := s.win
        let s := emit { kind := .ringRead, a := descAddr w.reqBase w.reqSize w.reqCons, b := le d.1 0 8, c := le d.1 8 4 }
          { s with win := { w with fetched := ds, reqCons := (w.reqCons + 1) % 65536 } }
        fetchReqs n (match packetOf d with
          | some p => rxRequest .pcie (0, 0) p s
          | none => ringErr s)

/-- Fetches every announced descriptor that may be fetched now. -/
def fetchAll (s : State) : State := fetchReqs s.win.fetched.length s

/-- A doorbell write to WIN_REQ_PROD (13 R541); `mem` gives the 16 bytes of each descriptor it announces, in order, and what the host's memory holds
in its buffer, `none` where it cannot be read (13 R542; log entry 6). -/
def reqDoorbell (v : Nat) (mem : List (List Byte × Option (List Byte))) (s : State) : State :=
  let w := s.win
  let v := v % 65536
  let lead := (v + 65536 - w.reqCons) % 65536
  if 2 ^ w.reqSize < lead then ringErr s
  else if !w.reqEn then { s with win := { w with reqProd := v } }
  else fetchAll { s with win := { w with reqProd := v, fetched := (w.fetched ++ mem ++ List.replicate lead ([], none)).take lead } }

/-- A posted reply buffer as its descriptor gives it: BUF_ADDR, LEN, and whether host memory takes a write there (13 R542). -/
def postedOf (d : List Byte × Bool) : Nat × Nat × Bool := (le d.1 0 8, le d.1 8 4, d.2)

/-- A write to WIN_RPL_PROD posts reply buffers (13 R541, R543); `bufs` gives the 16 bytes of each descriptor and whether its buffer can be
written (log entry 6). -/
def rplDoorbell (v : Nat) (bufs : List (List Byte × Bool)) (s : State) : State :=
  let w := s.win
  let v := v % 65536
  let lead := (v + 65536 - w.rplDone) % 65536
  if 2 ^ w.rplSize < lead then ringErr s
  else if !w.rplEn then { s with win := { w with rplProd := v } }
  else
    let s := { s with win := { w with rplProd := v, posted := (w.posted ++ bufs.map postedOf).take lead } }
    fetchAll (drainReplies s.win.posted.length s)

/-! ## UDP (13 R546) -/

/-- The transport of port 0 MG, 1 AL0 and 2 AL1. -/
def udpSrc (port : Nat) : Src := if port = 0 then .mg else if port = 1 then .al0 else .al1

/-- Whether a port is enabled and has an address (10 R425). -/
def udpOn (s : State) (port : Nat) : Bool :=
  if port = 0 then bit s.links.mg.flags 0
  else decide (port ≤ 2) && bit (if port = 1 then s.links.al0 else s.links.al1).flags 0 && (if port = 1 then s.links.al0 else s.links.al1).ip != 0

/-- The payload of a reassembly whose fragments meet without a gap from byte 0 to its last. -/
def joinFrags : List (Nat × List Byte) → List Byte → Option (List Byte)
  | [], a => some a
  | (o, b) :: r, a => if o = a.length then joinFrags r (a ++ b) else none

/-- The datagram that a reassembly holds once its last fragment and all before it are there. -/
def whole (x : Reasm) : Option (List Byte) :=
  match x.last with
  | none => none
  | some n => match joinFrags (sortBy (fun (a b : Nat × List Byte) => decide (a.1 ≤ b.1)) x.got) [] with
    | some p => if p.length = n then some p else none
    | none => none

/-- The PTP multicast addresses, over Ethernet and over UDP on IPv4 (10 R412; PRESUMED, IEEE 1588-2019: log entry 69). -/
def ptpMacs : List Nat := [0x011B19000000, 0x0180C200000E, 0x01005E000181, 0x01005E00006B]

/-- Whether port 0 MG, 1 AL0 or 2 AL1 takes a frame sent to the MAC address `dest`: its own or broadcast, and MG also the PTP multicast
addresses (10 R412, R416). -/
def udpTaken (s : State) (port dest : Nat) : Bool :=
  dest == 0xFFFFFFFFFFFF || (port == 0 && ptpMacs.contains dest)
    || dest == (if port = 0 then s.links.mg.mac else if port = 1 then s.links.al0.mac else s.links.al1.mac)

/-- Whether a reassembly is that of a port, a source address and an identification. -/
def isReasm (port ip ident : Nat) (x : Reasm) : Bool := decide (x.port = udpSrc port) && x.ident == ip * 65536 + ident

/-- A UDP datagram or fragment to port 41720: `off` is its place in the payload, `more` that further fragments follow. A ninth reassembly on
a port and a payload above 4140 bytes are discarded. `dest` is the MAC address that the frame is sent to. -/
def udpIn (port dest ip sport ident off : Nat) (more : Bool) (b : List Byte) (s : State) : State :=
  let s := if 0 < port ∧ mgRuns s ∧ udpOn s port ∧ udpTaken s port dest then modAl (port - 1) (fun a => { a with recv := inc16 a.recv }) s else s
  if !cpListens s || !udpOn s port || !udpTaken s port dest then s
  else if off = 0 ∧ !more then (if b.length ≤ 4140 then rxRequest (udpSrc port) (ip, sport) b s else s)
  else
    let rest := s.cp.reasm.filter fun x => !isReasm port ip ident x
    let old := s.cp.reasm.find? (isReasm port ip ident)
    if old.isNone && decide (8 ≤ (s.cp.reasm.filter fun x => decide (x.port = udpSrc port)).length) then s
    else
      let x := old.getD { port := udpSrc port, ident := ip * 65536 + ident }
      let x := { x with got := if x.got.any fun g => g.1 == off then x.got else x.got ++ [(off, b)],
                        last := if more then x.last else some (off + b.length) }
      if 4140 < off + b.length then { s with cp := { s.cp with reasm := rest } }
      else match whole x with
        | some p => rxRequest (udpSrc port) (ip, sport) p { s with cp := { s.cp with reasm := rest } }
        | none => { s with cp := { s.cp with reasm := rest ++ [x] } }

/-! ## Relayed requests (13 R547-R549) -/

/-- The inner reply of a relayed request: it answers the oldest relay to that node whose inner request has its OPCODE and TAG. Where it is longer
than a reply on the link control channel may carry, a relay asked for there answers BAD_PARAM (13 R516, R547; DEDUCED, log entry 39). -/
def relayIn (node : Nat) (p : List Byte) (s : State) : State :=
  match s.cp.relays.find? fun w => w.node == node && be w.req.params 6 2 == be p 2 2 && be w.req.params 8 2 == be p 4 2 with
  | none => s
  | some w =>
    let s := { s with cp := { s.cp with relays := s.cp.relays.filter fun x => x.req.acc != w.req.acc } }
    if w.req.src = .link ∧ 1440 < p.length then finish w.req BAD_PARAM 0xFFFF 0 false false [] s
    else finish w.req OK 0 0 false false p s

/-- A relay that no inner reply answered within 200 ms. -/
def relayLate (acc : Nat) (s : State) : State :=
  match s.cp.relays.find? fun w => w.req.acc == acc with
  | none => s
  | some w => finish w.req BUSY 0 0 false false [] { s with cp := { s.cp with relays := s.cp.relays.filter fun x => x.req.acc != acc } }

/-! ## The commands -/

/-- GCP_REQUEST_RECEIVED (13 R520). -/
def execGcpRequestReceived (src : Src) (ret : Nat × Nat) (bytes : List Byte) (s : State) : Host.Outcome State Fault Refusal :=
  .next (settle (rxRequest src ret bytes s))

/-- WIN_REQ_PROD_WRITE (13 R541). -/
def execWinReqProdWrite (v : Nat) (mem : List (List Byte × Option (List Byte))) (s : State) : Host.Outcome State Fault Refusal :=
  .next (settle (if 2 ≤ s.mode.mode ∧ !s.boot.halted then reqDoorbell v mem s else s))

/-- WIN_RPL_PROD_WRITE (13 R543). -/
def execWinRplProdWrite (v : Nat) (bufs : List (List Byte × Bool)) (s : State) : Host.Outcome State Fault Refusal :=
  .next (settle (if 2 ≤ s.mode.mode ∧ !s.boot.halted then rplDoorbell v bufs s else s))

/-- UDP_DATAGRAM (13 R546); `source`: the IP address and the port it comes from. -/
def execUdpDatagram (port dest : Nat) (source : Nat × Nat) (ident off : Nat) (more : Bool) (bytes : List Byte) (s : State) : Host.Outcome State Fault Refusal :=
  .next (settle (udpIn port dest source.1 source.2 ident off more bytes s))

/-- REASSEMBLY_TIMEOUT (13 R546). -/
def execReassemblyTimeout (port ip ident : Nat) (s : State) : Host.Outcome State Fault Refusal :=
  .next (settle { s with cp := { s.cp with reasm := s.cp.reasm.filter fun x => !isReasm port ip ident x } })

/-- RELAY_REPLY (13 R548). -/
def execRelayReply (node : Nat) (bytes : List Byte) (s : State) : Host.Outcome State Fault Refusal :=
  .next (settle (if cpListens s then relayIn node bytes s else s))

/-- RELAY_TIMEOUT (13 R548): the relay with an acceptance number. -/
def execRelayTimeout (acc : Nat) (s : State) : Host.Outcome State Fault Refusal :=
  .next (settle (if cpListens s then relayLate acc s else s))

end Sys2Proof.Machine
end

