-- ==== Sys2Proof/Machine/LinksRun.lean ====
section
/-! DEFINITION. Events of the link ports, flows, directory, rings, audio over IP, MG and the Array Links (10 R371-R416). -/

namespace Sys2Proof.Machine

/-! ## Frames that arrive

A row of a received frame carries the frame up to its FCS, and the FCS received. -/

/-- Whether the FCS received is that of the frame (10 R375). -/
def fcsGood (f : List Byte) (fcs : Nat) : Bool := fcs == fcsOf f

/-- The node that a frame is addressed to (10 R372). -/
def destNode (f : List Byte) : Option Nat := if be f 0 4 = 0x024C5500 then some (be f 4 2) else none

/-- The group that a frame is addressed to (10 R372). -/
def destGroup (f : List Byte) : Option Nat := if be f 0 4 = 0x034C5501 then some (be f 4 2) else none

/-- Whether a frame is a Sogus frame: tagged, with the EtherType in force (10 R375). -/
def isSogus (s : State) (f : List Byte) : Bool := be f 12 2 == 0x8100 && be f 16 2 == s.links.ether

/-- TYPE of a frame, and whether VERSION and TYPE are those a node consumes (10 R376-R378). -/
def frameType (f : List Byte) : Nat := byteAt f 18 % 16

def knownType (f : List Byte) : Bool := byteAt f 18 / 16 == 1 && rng 1 5 (frameType f)

def frameHop (f : List Byte) : Nat := be f 20 2 % 4096

def frameSource (f : List Byte) : Nat := be f 28 2

def framePayload (f : List Byte) : List Byte := f.drop 34

/-- Counts a frame received on a port that is up (10 R395 step 1, R423). The frames with a bad FCS of the last second are kept for the CRC-rate
monitor (10 R405). -/
def countFrame (p : Nat) (good : Bool) (s : State) : State :=
  let now := s.clock.now
  modLink p (fun l => { l with received := inc32 l.received, badFcs := if good then l.badFcs else inc16 l.badFcs,
                               badAt := if good then l.badAt else now :: l.badAt.filter fun t => lately t 1000000000 now }) s

/-- A frame of the node's own, or at the hop limit, goes no further (10 R395 steps 2 and 3). -/
def ownFrame (s : State) (f : List Byte) : Bool := isSogus s f && s.links.node != 0 && frameSource f == s.links.node

def hopEnd (s : State) (f : List Byte) : Bool := isSogus s f && frameHop f == 4095

/-- Whether this node consumes a frame: addressed to it, or to a group whose LOCAL bit is set, of a listed TYPE, and whole
(10 R374, R378, R395 steps 1, 4 and 6). -/
def forUs (s : State) (good : Bool) (f : List Byte) : Bool :=
  good && s.links.node != 0 && isSogus s f && knownType f && !ownFrame s f && !hopEnd s f
    && (destNode f == some s.links.node
        || match destGroup f with
           | some g => (match tget s.links.groups g with | some e => e.isLocal | none => false)
           | none => false)

/-- TYPE of a frame for its rank at an egress port; 16 for one that is no Sogus frame of a listed TYPE. -/
def copyType (s : State) (f : List Byte) : Nat := if isSogus s f && knownType f then frameType f else 16

/-- The copy of a frame that leaves by a port: HOP one higher, its FCS inverted where the received one was bad (10 R395). -/
def sendCopy (f : List Byte) (good : Bool) (p : Nat) (s : State) : State :=
  if !linkUp s p then s
  else
    let g := if isSogus s f then f.take 20 ++ toBE 2 (be f 20 2 + 1) ++ f.drop 22 else f
    modLink p (fun l => { l with cutShort := if good then l.cutShort else inc16 l.cutShort })
      (egress p { kind := .sogus, a := copyType s f, b := p, c := b2n (!good), bytes := withFcs good g } s)

/-- Whether a unicast frame that arrived on port `p` may leave by port `q`: by its directory port whichever that is (10 R395 step 5), but not back
into a Protected ring by the ring port it came from, where the other one takes it too (10 R402; DEDUCED, log entry 52). -/
def unicastOut (s : State) (p q : Nat) : Bool := q != p || decide ((ringPorts s p).length < 2)

/-- Forwards a frame that arrived on port `p` (10 R378, R395, R402). -/
def forward (p : Nat) (f : List Byte) (good : Bool) (s : State) : State :=
  if ownFrame s f then s
  else if hopEnd s f then modLink p (fun l => { l with hopLimit := inc16 l.hopLimit }) s
  else
    let s := if isSogus s f && !knownType f then modLink p (fun l => { l with unknown := inc16 l.unknown }) s else s
    match destNode f with
    | some n =>
      if s.links.node ≠ 0 ∧ n = s.links.node then s
      else if !thas s.links.dir n then modLink p (fun l => { l with noEntry := inc16 l.noEntry }) s
      else ((routeTo s n).filter (unicastOut s p)).foldl (fun t q => sendCopy f good q t) s
    | none =>
      match destGroup f with
      | some g => ((groupPorts s g).filter (· != p)).foldl (fun t q => sendCopy f good q t) s
      | none => s

/-- A frame on a port that is up: counted and forwarded, then consumed where it is for this node and of the TYPE that `use` takes. -/
def frameIn (p ty : Nat) (f : List Byte) (good : Bool) (use : State → State) (s : State) : State :=
  if !linkUp s p then s
  else
    let mine := forUs s good f && frameType f == ty
    let s := forward p f good (countFrame p good s)
    if mine then use s else s

/-- FRAME_FORWARD (10 R378, R393-R397): a frame that this node does not consume. -/
def execFrameForward (port : Nat) (frame : List Byte) (fcs : Nat) (s : State) : Host.Outcome State Fault Refusal :=
  .next (settle (frameIn port 0 frame (fcsGood frame fcs) id s))

/-! ## Audio frames -/

/-- The flow blocks of an audio payload (10 R379): FLOW, FIRST, COUNT, SAMPLES, TOTAL, and the samples; `data` is short where the payload
ends early. -/
structure RxBlock where
  flow    : Nat
  first   : Nat
  count   : Nat
  samples : Nat
  total   : Nat
  data    : List Byte
  deriving DecidableEq, Repr

def rxBlocks : Nat → List Byte → List RxBlock
  | 0, _ => []
  | n + 1, b =>
    if b.length < 8 then []
    else
      let len := 4 * byteAt b 4 * byteAt b 3
      { flow := be b 0 2 % 4096, first := byteAt b 2, count := byteAt b 3, samples := byteAt b 4, total := byteAt b 5, data := (b.drop 8).take len }
        :: rxBlocks n (b.drop (8 + len))

/-- The channels of a block, from its sample-major words (10 R379). -/
def blockChannels (x : RxBlock) : List Blk :=
  (List.range x.count).map fun c => (List.range x.samples).map fun j => BitVec.ofNat 32 (be x.data (4 * (j * x.count + c)) 4)

/-- Whether a block suits its entry and the local tick size (10 R390). -/
def blockOk (x : FlowIn) (n : Nat) (b : RxBlock) : Bool :=
  b.total == x.ch && b.samples == n && decide (1 ≤ b.count) && decide (b.first + b.count ≤ b.total) && b.data.length == 4 * b.samples * b.count

/-- The margin of a block that has arrived `ns` after the start of the current tick before its deadline, 2 us before the end of tick s + D
(10 R387, R420). -/
def blockMargin (s : State) (x : FlowIn) (stamp ns : Nat) : Int :=
  (tickNs (rate s) (tickN s) (stamp + x.depth + 1) : Int) - tickNs (rate s) (tickN s) (cal s) - 2000 - ns

/-- A malformed block: counted, with a Degraded fault at most once per 1000 ms per flow (10 R390). -/
def malformed (key : Nat) (f : FlowRx) (s : State) : State :=
  let now := s.clock.now
  let quiet := match f.malfAt with | some t => lately t 1000000000 now | none => false
  let f := { f with malf := inc16 f.malf, malfAt := if quiet then f.malfAt else some now }
  let s := { s with links := { s.links with flows := tset s.links.flows key f } }
  if quiet then s else raise 0x0A03 key s

/-- One block arrives for an inbound flow entry (10 R387-R390, R392). -/
def takeBlock (stamp ns : Nat) (stby : Bool) (b : RxBlock) (key : Nat) (x : FlowIn) (s : State) : State :=
  let f := tgetD s.links.flows key {}
  let put := fun (f : FlowRx) => { s with links := { s.links with flows := tset s.links.flows key f } }
  if stby then put { f with stby := inc16 f.stby }
  else if !blockOk x (tickN s) b then malformed key f s
  else if cal s + 1 < stamp then raise 0x0A02 key (put { f with early := inc16 f.early })
  else
    let m := blockMargin s x stamp ns
    let f := { f with arrMax := some (match f.arrMax with | some o => min o m | none => m) }
    if m < 0 then put { f with late := inc16 f.late }
    else if f.blocks.any fun h => h.1 == stamp && h.2.1 == b.first then put { f with dup := inc16 f.dup }
    else put { f with blocks := f.blocks ++ [(stamp, b.first, blockChannels b)] }

/-- The inbound entries that a block of a flow of `source` is for (10 R389). -/
def entriesFor (s : State) (source flow : Nat) : Tab FlowIn :=
  s.pipe.live.flowIn.filter fun e => e.2.flow == flow && (e.2.source == source || (e.2.partner != 0 && e.2.partner == source))

/-- An audio frame that this node consumes (10 R387-R390); while the data plane is stopped it has no use. -/
def audioIn (f : List Byte) (ns : Nat) (s : State) : State :=
  if !s.pipe.running then s
  else
    (rxBlocks (byteAt f 32) (framePayload f)).foldl (fun t b =>
      (entriesFor t (frameSource f) b.flow).foldl (fun t e => takeBlock (be f 22 6) ns (bit (byteAt f 19) 0) b e.1 e.2 t) t) s

/-- AUDIO_FRAME (10 R387); `ns`: its last bit arrives that long after the start of the current tick. -/
def execAudioFrame (port : Nat) (frame : List Byte) (fcs ns : Nat) (s : State) : Host.Outcome State Fault Refusal :=
  .next (settle (frameIn port 1 frame (fcsGood frame fcs) (audioIn frame ns) s))

/-! ## Control frames -/

/-- A GCP packet in a Control frame (13 R547): a reply answers a relay, a request is checked like any other. -/
def controlIn (f : List Byte) (s : State) : State :=
  let p := framePayload f
  if !cpListens s then s
  else if bit (byteAt p 1) 0 then relayIn (frameSource f) p s
  else rxRequest .link (frameSource f, 0) p s

/-- CONTROL_FRAME (13 R547): only a frame addressed to this one node is consumed. -/
def execControlFrame (port : Nat) (frame : List Byte) (fcs : Nat) (s : State) : Host.Outcome State Fault Refusal :=
  .next (settle (frameIn port 2 frame (fcsGood frame fcs)
    (fun t => if destNode frame == some t.links.node then controlIn frame t else t) s))

/-! ## The directory -/

/-- What a node records of an Announce: the arrival port with HOP + 1 (10 R399, R406). A pinned entry keeps its ports. -/
def recordAnn (p : Nat) (f : List Byte) (s : State) : State :=
  let v := frameSource f
  if s.links.node = 0 ∨ !isNode v then s
  else if !thas s.links.dir v && decide (4096 ≤ s.links.dir.length) then modLink p (fun l => { l with annDrop := inc16 l.annDrop }) s
  else
    let e := tgetD s.links.dir v {}
    let e := { e with learnt := true, die := be (framePayload f) 0 8, ports := tset e.ports p (frameHop f + 1) }
    { s with links := { s.links with dir := tset s.links.dir v (if e.pinned then e else dirRoutes e) } }

/-- An Announce that arrives on a port (10 R373, R395, R399): flooded once per SOURCE and SEQ, and recorded. Of each SOURCE the last 16 SEQ are
remembered (DESIGN CHOICE, log entry 69). -/
def announceIn (p : Nat) (f : List Byte) (good : Bool) (s : State) : State :=
  let v := frameSource f
  let seq := be f 30 2
  if ownFrame s f then (if good && be (framePayload f) 0 8 != s.part.dieId then raise 0x0A01 v s else s)
  else if hopEnd s f then modLink p (fun l => { l with hopLimit := inc16 l.hopLimit }) s
  else
    let old := tgetD s.links.seen v []
    let s := if old.contains seq then s
      else ((upPorts s).filter (· != p)).foldl (fun t q => sendCopy f good q t)
        (if good then { s with links := { s.links with seen := tset s.links.seen v ((seq :: old).take 16) } } else s)
    if good then recordAnn p f s else s

/-- Whether a frame is a Sogus frame of VERSION 0x1 and a TYPE (10 R378). -/
def isType (s : State) (f : List Byte) (ty : Nat) : Bool := isSogus s f && knownType f && frameType f == ty

/-- ANNOUNCE_FRAME (10 R399). A frame of another VERSION or TYPE is forwarded like any other (10 R378). -/
def execAnnounceFrame (port : Nat) (frame : List Byte) (fcs : Nat) (s : State) : Host.Outcome State Fault Refusal :=
  let good := fcsGood frame fcs
  .next (settle (
    if !isType s frame 4 then frameIn port 0 frame good id s
    else if linkUp s port then announceIn port frame good (countFrame port good s) else s))

/-- ANNOUNCE_TIMER (10 R374, R399): an Announce out of every port that is up, each with the port's own SEQ (10 R376). -/
def execAnnounceTimer (s : State) : Host.Outcome State Fault Refusal :=
  .next (settle (sendPorts (upPorts s) 4 0 (macGroup 0xFFFF) (fun _ => toBE 8 s.part.dieId) s))

/-- DIRECTORY_ENTRY_EXPIRY (10 R399): an entry that is not pinned goes; a pinned one keeps its ports. -/
def execDirectoryEntryExpiry (node : Nat) (s : State) : Host.Outcome State Fault Refusal :=
  .next (settle (match tget s.links.dir node with
    | some e =>
      { s with links := { s.links with
        dir := if e.pinned then tset s.links.dir node { e with learnt := false, ports := [] } else tdel s.links.dir node } }
    | none => s))

/-! ## Rings (10 R401-R404)

The spec gives the three messages and not their coding: here the payload's first byte is 1 for hello, 2 for fault and 3 for restore, sent to
group 0xFFFF (DESIGN CHOICE, log entry 28). -/

/-- Sends a ring message out of a port. -/
def sendRing (code p : Nat) (s : State) : State := sendFrame p 5 0 (macGroup 0xFFFF) (fun _ => toBE 1 code) s

/-- The ring of a port and its other port. -/
def ringSide (s : State) (p : Nat) : Option (Nat × Nat) :=
  match ringOf s p with
  | some (i, r) => some (i, if r.portA = p then r.portB else r.portA)
  | none => none

/-- A ring and both its ports enter Protected or return to Normal. -/
def setRingProt (i : Nat) (prot : Bool) (s : State) : State :=
  let r := tgetD s.links.rings i {}
  let s := { s with links := { s.links with rings := tset s.links.rings i { r with prot := prot } } }
  modLink r.portA (fun l => { l with ringProt := prot }) (modLink r.portB (fun l => { l with ringProt := prot }) s)

/-- A fault or restore message: forwarded out of the ring's other port, and obeyed. A frame of another VERSION or TYPE is forwarded like any other
(10 R378). -/
def ringIn (prot : Bool) (p : Nat) (f : List Byte) (good : Bool) (s : State) : State :=
  if !isType s f 5 then frameIn p 0 f good id s
  else if !linkUp s p then s
  else
    let s := countFrame p good s
    if ownFrame s f then s
    else if hopEnd s f then modLink p (fun l => { l with hopLimit := inc16 l.hopLimit }) s
    else match ringSide s p with
      | none => s
      | some (i, q) =>
        let s := sendCopy f good q s
        if good && s.links.node != 0 then setRingProt i prot s else s

/-- A ring segment is lost at one of this node's ports: Ring fault out of the surviving port, and Protected (10 R402). -/
def segmentLoss (p : Nat) (s : State) : State :=
  match ringSide s p with
  | none => s
  | some (i, q) =>
    if (linkSt s p).lost then s else setRingProt i true (sendRing 2 q (modLink p (fun l => { l with lost := true }) s))

/-- RING_HELLO (10 R401): a hello keeps its segment alive and changes nothing else; it is never forwarded. -/
def execRingHello (port : Nat) (frame : List Byte) (fcs : Nat) (s : State) : Host.Outcome State Fault Refusal :=
  let good := fcsGood frame fcs
  .next (settle (if !isType s frame 5 then frameIn port 0 frame good id s else if linkUp s port then countFrame port good s else s))

/-- RING_FAULT (10 R402). -/
def execRingFault (port : Nat) (frame : List Byte) (fcs : Nat) (s : State) : Host.Outcome State Fault Refusal :=
  .next (settle (ringIn true port frame (fcsGood frame fcs) s))

/-- RING_RESTORE (10 R404). -/
def execRingRestore (port : Nat) (frame : List Byte) (fcs : Nat) (s : State) : Host.Outcome State Fault Refusal :=
  .next (settle (ringIn false port frame (fcsGood frame fcs) s))

/-- RING_HELLO_TIMER (10 R401). -/
def execRingHelloTimer (port : Nat) (s : State) : Host.Outcome State Fault Refusal :=
  .next (settle (if (ringOf s port).isSome && linkUp s port then sendRing 1 port s else s))

/-- SEGMENT_LOSS (10 R401, R402). -/
def execSegmentLoss (port : Nat) (s : State) : Host.Outcome State Fault Refusal := .next (settle (segmentLoss port s))

/-- WTR_EXPIRY (10 R404) of the segment at a port: Ring restore out of both ring ports, and Normal. -/
def execWtrExpiry (port : Nat) (s : State) : Host.Outcome State Fault Refusal :=
  .next (settle (match ringSide s port with
    | none => s
    | some (i, q) =>
      if (linkSt s port).lost && linkUp s port then
        setRingProt i false (sendRing 3 q (sendRing 3 port (modLink port (fun l => { l with lost := false }) s)))
      else s))

/-! ## Link ports -/

/-- LINK_TRAINED (10 R371); in Dormant every port stays down (10 R427). The clock recovered from the port has edges again (11 R435), and its receivers join their groups (10 R407). -/
def execLinkTrained (port : Nat) (s : State) : Host.Outcome State Fault Refusal :=
  .next (settle (if decide (2 ≤ s.mode.mode) && ((linkSt s port).state == 1 || (linkSt s port).state == 3) then
    joinAll port (edgesBack (9 + port) (modLink port (fun l => { l with state := 2 }) s)) else s))

/-- LINK_DOWN (10 R385, R401): the clock recovered from the port has no more edges (11 R435), one that the CRC-rate monitor took down among them. -/
def execLinkDown (port : Nat) (s : State) : Host.Outcome State Fault Refusal :=
  .next (settle (if linkUp s port || (linkSt s port).state == 4 then segmentLoss port (edgesStop (9 + port) 0 (portTo port 3 s)) else s))

/-- Whether a port has received more than CRC_LIMIT frames with a bad FCS within 1 s (10 R405). -/
def crcOver (s : State) (p : Nat) : Bool :=
  decide (s.links.crcLim < ((linkSt s p).badAt.filter fun t => lately t 1000000000 s.clock.now).length)

/-- CRC_RATE_TRIP (10 R405): the port goes down, and its count starts over. -/
def execCrcRateTrip (port : Nat) (s : State) : Host.Outcome State Fault Refusal :=
  .next (settle (if linkUp s port && crcOver s port then
    raise 0x0A04 port (segmentLoss port (modLink port (fun l => { l with badAt := [] }) (portTo port 4 s))) else s))

/-- CRC_RATE_RECOVERY (10 R405). -/
def execCrcRateRecovery (port : Nat) (s : State) : Host.Outcome State Fault Refusal :=
  .next (settle (if (linkSt s port).state == 4 then joinAll port (modLink port (fun l => { l with state := 2 }) s) else s))

/-! ## Audio over IP (10 R407, R410) -/

/-- A packet's 32-bit media clock count, extended to the count nearest to the present time. -/
def mediaNear (s : State) (ts : Nat) : Int :=
  let m0 : Int := s.clock.now * rateHz (rate s) / 1000000000
  m0 + signed 32 (wrap 32 (ts - m0))

/-- The sample position, counted from EPOCH, at which a media time is presented: that of t + LINK_OFFSET (10 R410). -/
def mediaPos (s : State) (x : Aoip) (m : Int) : Int :=
  (m * 1000000000 + ((x.last * 1000 : Nat) - s.clock.epoch) * rateHz (rate s)) / 1000000000

/-- A word of a packet as a sample (02 R52, 10 R407). -/
def aoSample (l24 : Bool) (b : List Byte) (i : Nat) : W32 :=
  if l24 then inWord 24 (BitVec.ofNat 32 (be b (3 * i) 3)) else inWord 16 (BitVec.ofNat 32 (be b (2 * i) 2))

/-- An RTP packet for a receiver: counted, checked for its order, and buffered unless it comes too late (10 R410, R426). -/
def aoPacket (i : Nat) (x : Aoip) (p : List Byte) (s : State) : State :=
  let a := tgetD s.links.aoRx i {}
  let seq := be p 2 2
  let d := (seq + 65536 - a.seq) % 65536
  let old := a.got && decide (32768 ≤ d)
  let a := { a with count := inc32 a.count, got := true, lost := if a.got && !old then add16 d a.lost else a.lost,
                    oos := if old then inc16 a.oos else a.oos, seq := if old then a.seq else (seq + 1) % 65536 }
  let pos := mediaPos s x (mediaNear s (be p 4 4))
  let body := p.drop (12 + 4 * (byteAt p 0 % 16))
  let w := if bit x.flags 1 then 3 else 2
  let a :=
    if pos < cal s * tickN s then { a with late := inc16 a.late }
    else
      let rows := (List.range (body.length / (w * x.ch))).map fun j => (List.range x.ch).map fun c => aoSample (w == 3) body (j * x.ch + c)
      { a with buf := tputs a.buf pos.toNat rows }
  { s with links := { s.links with aoRx := tset s.links.aoRx i a } }

/-- Whether a packet is for a receiver (10 R426). -/
def aoMatch (port dest source udp : Nat) (p : List Byte) (x : Aoip) : Bool :=
  bit x.flags 0 && x.port == port && x.addr == dest && x.udp == udp && x.pt == byteAt p 1 % 128 && (x.src == 0 || x.src == source)

/-- AOIP_PACKET (10 R410, R423): an RTP packet in UDP on a link port. -/
def execAoipPacket (port dest source udp : Nat) (rtp : List Byte) (s : State) : Host.Outcome State Fault Refusal :=
  .next (settle (
    if !linkUp s port then s
    else if s.pipe.running && decide (12 ≤ rtp.length) then
      (s.pipe.live.aoRx.filter fun x => aoMatch port dest source udp rtp x.2).foldl (fun t x => aoPacket x.1 x.2 rtp t) (countFrame port true s)
    else countFrame port true s))

/-! ## MG and the Array Links -/

/-- MAC and IPv4 address of port 0-3 K0-K3, 4 MG, 5 AL0 and 6 AL1, where the port is in use and has an address. -/
def portAddr (s : State) (p : Nat) : Option (List Byte × Nat) :=
  let x : Bool × List Byte × Nat :=
    if p < 4 then (linkUp s p && s.links.node != 0, macNode s.links.node, (linkCfg s p).ip)
    else if p = 4 then (udpOn s 0, toBE 6 s.links.mg.mac, s.links.mg.ip)
    else if p = 5 then (udpOn s 1, toBE 6 s.links.al0.mac, s.links.al0.ip)
    else (p == 6 && udpOn s 2, toBE 6 s.links.al1.mac, s.links.al1.ip)
  if x.1 && x.2.2 != 0 && decide (2 ≤ s.mode.mode) && !s.boot.halted then some x.2 else none

/-- Whether a port takes a frame sent to the MAC address `dest`: its own or broadcast, and MG also the PTP multicast addresses (10 R412). -/
def macTaken (own : List Byte) (port dest : Nat) : Bool :=
  ofBE own 0 == dest || dest == 0xFFFFFFFFFFFF || (port == 4 && ptpMacs.contains dest)

/-- ARP_REQUEST (10 R407, R412): a request for a port's own address is answered; `mac` and `ip` are the asker's, `dest` the MAC address it is
sent to and the IP address that it asks for. -/
def execArpRequest (port : Nat) (dest : Nat × Nat) (mac ip : Nat) (s : State) : Host.Outcome State Fault Refusal :=
  let s := if port < 4 && linkUp s port then countFrame port true s else s
  .next (settle (match portAddr s port with
    | some (m, a) =>
      if a = dest.2 && macTaken m port dest.1 then
        let o : Out := { kind := .echo, a := port, b := ip, bytes := m ++ toBE 4 a ++ toBE 6 mac ++ toBE 4 ip }
        if port < 4 then egress port o s else if port = 4 then emitMg o s else alSend (port - 5) o (modAl (port - 5) (fun a => { a with recv := inc16 a.recv }) s)
      else s
    | none => s))

/-- ICMP_ECHO (10 R412, R425): answered on MG when enabled; `dest` is the MAC and the IP address it is sent to. -/
def execIcmpEcho (dest : Nat × Nat) (ip : Nat) (data : List Byte) (s : State) : Host.Outcome State Fault Refusal :=
  .next (settle (match portAddr s 4 with
    | some (m, a) => if a = dest.2 && bit s.links.mg.flags 1 && macTaken m 4 dest.1 then emitMg { kind := .echo, a := 4, b := ip, c := 1, bytes := data } s else s
    | none => s))

/-- Changes MG. -/
def modMg (f : Mg → Mg) (s : State) : State := { s with links := { s.links with mg := f s.links.mg } }

/-- MG sends again, what waited first. -/
def resumeMg (s : State) : State :=
  { s with wire := s.wire ++ s.links.mg.held, links := { s.links with mg := { s.links.mg with paused := false, held := [] } } }

/-- MG_PAUSE_FRAME (10 R413, R414): a pause time of zero ends the pause (PRESUMED, IEEE 802.3 annex 31B). -/
def execMgPauseFrame (quanta : Nat) (s : State) : Host.Outcome State Fault Refusal :=
  .next (settle (
    if !mgRuns s || !udpOn s 0 || s.links.mg.ignore then s
    else if quanta = 0 then resumeMg s
    else modMg (fun m => { m with paused := true }) s))

/-- MG_PAUSE_LIMIT (10 R413, R414). -/
def execMgPauseLimit (s : State) : Host.Outcome State Fault Refusal :=
  .next (settle (
    if mgRuns s && s.links.mg.paused then raise 0x0A05 0 (modMg (fun m => { m with ignore := true, events := inc16 m.events }) (resumeMg s)) else s))

/-- MG_PAUSE_END (10 R413, R414). -/
def execMgPauseEnd (s : State) : Host.Outcome State Fault Refusal := .next (settle (if mgRuns s then resumeMg s else s))

/-- MG_PAUSE_IGNORE_END (10 R413). -/
def execMgPauseIgnoreEnd (s : State) : Host.Outcome State Fault Refusal := .next (settle (modMg (fun m => { m with ignore := false }) s))

/-- Whether a frame is GCP over UDP on IPv4 (10 R416, 13 R546). -/
def isGcpFrame (f : List Byte) : Bool :=
  be f 12 2 == 0x0800 && byteAt f 23 == 17 && be f (14 + 4 * (byteAt f 14 % 16) + 2) 2 == 41720

/-- AL_FRAME_RECEIVED (10 R416). -/
def execAlFrameReceived (port : Nat) (frame : List Byte) (s : State) : Host.Outcome State Fault Refusal :=
  let a := alAt s port
  .next (settle (
    if port < 2 ∧ 2 ≤ s.mode.mode ∧ bit a.flags 0 ∧ (be frame 0 6 = a.mac ∨ be frame 0 6 = 0xFFFFFFFFFFFF) ∧ isGcpFrame frame = false then
      modAl port (fun a =>
        if a.queue.length < 32 then { a with recv := inc16 a.recv, queue := a.queue ++ [frame] }
        else { a with recv := inc16 a.recv, ovf := inc16 a.ovf }) s
    else s))

/-- PLCA_BEACON_LOSS (10 R415): a port that hears no beacon falls back; the coordinator sends the beacon itself. -/
def execPlcaBeaconLoss (port : Nat) (s : State) : Host.Outcome State Fault Refusal :=
  let a := alAt s port
  .next (settle (
    if decide (port < 2) && plcaOn a && a.plcaId != 0 then
      modAl port (fun a => { a with fell := true, beacon := inc16 a.beacon }) s
    else s))

end Sys2Proof.Machine
end

