-- ==== Sys2Proof/Machine/SecOps.lean ====
section
/-! DEFINITION. The Roles and security class: credentials, audit log, life-cycle, tamper and Local Trust (14 R557-R576). -/

namespace Sys2Proof.Machine

/-- Changes the security state. -/
def modSec (f : Sec → Sec) (s : State) : State := { s with sec := f s.sec }

/-! ## Wipes -/

/-- First byte of the secure region of H17 (08 R297). -/
def secureBase : Nat := 0x0104700000

/-- The secure region wiped: zero data, no poison (08 R297). -/
def wipeSecure (s : State) : State :=
  let s := memClear secureBase 0x0104800000 s
  { s with mem := { s.mem with poison := s.mem.poison.filter fun a => !(decide (secureBase ≤ 8 * a) && decide (8 * a < 0x0104800000)) },
           sec := { s.sec with work := [] } }

/-- Queued requests from emptied slots leave without a reply (14 R575). -/
def dropQueued (p : Nat → Bool) (s : State) : State :=
  let off := fun (l : List Req) => l.filter fun r => r.trust || r.src == .pair || !p (credIx r.role r.slot)
  { s with cp := { s.cp with p0 := off s.cp.p0, p1 := off s.cp.p1, p2 := off s.cp.p2, p3 := off s.cp.p3 } }

/-- What a tamper wipe and the entry into Returned have in common: the secure region, every operator and installer slot, the ceiling
and the pair key (14 R572, R574, R575, 15 R586). Maker keys are copied into the region again. -/
def wipeRoles (s : State) : State :=
  let low := fun k => decide (k < 16)
  let s := dropQueued low (dropCache low (dropKeys low (wipeSecure s)))
  modPair (fun p => { p with key := [] }) (modSec (fun c => { c with trust := 0, work := if c.region then c.keys else [] }) s)

/-! ## Credentials -/

/-- Whether a request may provision or clear a slot (14 R559). -/
def mayProvision (s : State) (r : Req) (role slot : Nat) : Bool :=
  if role = 0 then r.role == 1
  else if role = 1 then r.role == 2 || (r.role == 1 && r.slot == slot)
  else r.role == 2 || (r.trust && s.sec.lc == 0)

/-- Whether a request's own credential is the one it names. -/
def ownSlot (r : Req) (role slot : Nat) : Bool := !r.trust && r.role == role && r.slot == slot

/-- A slot takes a key, with its sequence at zero and its reply cache empty (14 R560, 13 R522). -/
def putKey (role slot : Nat) (k : List Byte) (s : State) : State :=
  let i := credIx role slot
  dropCache (· == i) (modSec (fun c => { c with keys := tset c.keys i k, work := tset c.work i k, lastSeq := tset c.lastSeq i 0 }) s)

/-- An effect on credentials; when it touches the request's own slot the reply comes first, under the old key (14 R561, 13 R518). -/
def credAct (r : Req) (own : Bool) (f : State → State) : State → Res := fun s =>
  if own then { hold := true, st := f (finish r OK 0 0 false false [] s) } else { st := f s }

/-- CRED_SET (14 R559, R560, R564). -/
def planCredSet (s : State) (r : Req) : Plan :=
  let role := par r 0 1
  let slot := par r 1 1
  let k := wrappedKey s r 4
  { len := r.params.length == 4 + wrappedLen r,
    checks := [chk (decide (role < 3)) 0, chk (decide (slot < 8)) 1, chkZero r 2 2, chkSt (mayProvision s r role slot) ROLE_DENIED,
               chkRel (!(slot == 7 && decide (role < trustCeiling s))), chk k.isSome 4],
    act := credAct r (ownSlot r role slot) (putKey role slot (fit 32 (k.getD []))) }

def execCredSet (r : Req) (s : State) : Host.Outcome State Fault Refusal := .next (settle (execOp 0x0D01 planCredSet r s))

/-- Whether clearing a slot leaves an installer key to a Deployed part (14 R562). -/
def keepsInstaller (s : State) (role slot : Nat) : Bool :=
  s.sec.lc != 2 || role != 1 || (List.range 8).any fun i => i != slot && thas s.sec.keys (credIx 1 i)

/-- CRED_CLEAR (14 R559, R561, R562). -/
def planCredClear (s : State) (r : Req) : Plan :=
  let role := par r 0 1
  let slot := par r 1 1
  { len := r.params.length == 2,
    checks := [chk (decide (role < 3)) 0, chk (decide (slot < 8)) 1, chkSt (mayProvision s r role slot) ROLE_DENIED,
               chkSt (keepsInstaller s role slot) BUSY],
    act := credAct r (ownSlot r role slot) (dropKeys (· == credIx role slot)) }

def execCredClear (r : Req) (s : State) : Host.Outcome State Fault Refusal := .next (settle (execOp 0x0D02 planCredClear r s))

/-- CRED_LIST (14 R576): a bit per slot that holds a key, a byte per role. -/
def credList (s : State) : List Byte :=
  (List.range 3).flatMap fun ro => toBE 1 (ofBits ((List.range 8).filter fun i => thas s.sec.keys (credIx ro i)))

def planCredList : State → Req → Plan := readPlan credList

def execCredList (r : Req) (s : State) : Host.Outcome State Fault Refusal := .next (settle (execOp 0x0D03 planCredList r s))

/-! ## The audit log -/

/-- The record that an audit INDEX names: the one nearest to the next to be written, modulo 2^64 (14 R567; log entry 31). -/
def auditPos (c : Sec) (i : Nat) : Nat := ((c.next : Int) - signed 64 ((((c.next : Int) - c.base - i) % 2 ^ 64).toNat)).toNat

/-- The oldest audit record held. -/
def oldestAudit (c : Sec) : Nat := match c.log with | [] => c.next | (k, _) :: _ => k

/-- AUDIT_READ (14 R569): up to 63 records, which count as returned. -/
def planAuditRead (_ : State) (r : Req) : Plan :=
  { len := r.params.length == 8,
    act := fun s =>
      let from_ := auditPos s.sec (par r 0 8)
      let out := (s.sec.log.filter fun x => decide (from_ ≤ x.1)).take 63
      { payload := out.flatMap fun x => x.2.bytes,
        st := modSec (fun c => { c with log := out.foldl (fun t x => tset t x.1 { bytes := x.2.bytes, returned := true }) c.log }) s } }

def execAuditRead (r : Req) (s : State) : Host.Outcome State Fault Refusal := .next (settle (execOp 0x0D10 planAuditRead r s))

/-- The AUDIT_STATUS payload (14 R569). -/
def auditStatus (s : State) : List Byte :=
  let c := s.sec
  toBE 8 (wrap 64 ((oldestAudit c : Int) - c.base)) ++ toBE 8 (wrap 64 ((c.next : Int) - c.base)) ++ toBE 2 c.ovf.n ++ toBE 1 (b2n c.ovf.sat)
    ++ toBE 4 c.unlogged.n ++ toBE 1 (b2n c.unlogged.sat)

def planAuditStatus : State → Req → Plan := readPlan auditStatus

def execAuditStatus (r : Req) (s : State) : Host.Outcome State Fault Refusal := .next (settle (execOp 0x0D11 planAuditStatus r s))

/-! ## Life-cycle -/

def planLcGet : State → Req → Plan := readPlan fun s => toBE 1 s.sec.lc

/-- LC_GET (14 R576). -/
def execLcGet (r : Req) (s : State) : Host.Outcome State Fault Refusal := .next (settle (execOp 0x0D20 planLcGet r s))

/-- Whether a life-cycle transition is one of the four (14 R571). -/
def lcStep (a b : Nat) : Bool := (a == 0 && b == 1) || (a == 1 && b == 2) || (a == 2 && b == 3) || (a == 3 && b == 1)

/-- Whether the keys that a transition requires are there (14 R571). -/
def lcKeys (s : State) (to_ : Nat) : Bool :=
  if s.sec.lc = 0 then roleHasKey s 2 else if to_ = 2 then roleHasKey s 1 else true

/-- A new life-cycle state (14 R569-R572): INDEX counts from the end of Blank; Returned wipes and performs a System reset. -/
def enterLc (to_ : Nat) (s : State) : State :=
  let was := trustCeiling s
  let s := modSec (fun c => { c with base := if c.lc = 0 then c.next else c.base, lc := to_ }) s
  let s := auditEvent 3 to_ s
  let s := if trustCeiling s ≠ was then auditEvent 4 (trustCeiling s) s else s
  if to_ = 3 then
    let s := wipeRoles s
    resetNow depthSystem 0x8000 { s with settings := {} }
  else s

/-- LC_ADVANCE (14 R571): in effect once its reply has been sent. -/
def planLcAdvance (s : State) (r : Req) : Plan :=
  let n := par r 0 1
  { len := r.params.length == 1,
    checks := [chk (decide (n < 4)) 0, chk (lcStep s.sec.lc n) 0, chkRel (lcKeys s n)],
    act := fun s => { hold := true, st := enterLc n (finish r OK 0 0 false false [] s) } }

def execLcAdvance (r : Req) (s : State) : Host.Outcome State Fault Refusal := .next (settle (execOp 0x0D21 planLcAdvance r s))

/-! ## Tamper responses and Local Trust -/

/-- TAMPER_SET (14 R574). -/
def planTamperSet (_ : State) (r : Req) : Plan :=
  { len := r.params.length == 4,
    checks := [chk (decide (par r 0 1 < 3)) 0, chk (decide (par r 1 1 < 3)) 1, chk (decide (par r 2 1 < 3)) 2, chkZero r 3 1],
    act := act (modSec fun c => { c with resp1 := par r 0 1, resp2 := par r 1 1, resp3 := par r 2 1 }) }

def execTamperSet (r : Req) (s : State) : Host.Outcome State Fault Refusal := .next (settle (execOp 0x0D30 planTamperSet r s))

/-- TAMPER_GET (14 R576): the responses, then the present level of each source. -/
def planTamperGet : State → Req → Plan := readPlan fun s =>
  let c := s.sec
  toBE 1 c.resp1 ++ toBE 1 c.resp2 ++ toBE 1 c.resp3 ++ toBE 1 (bits c.level 1 1) ++ toBE 1 (bits c.level 2 2) ++ toBE 1 (bits c.level 3 3)

def execTamperGet (r : Req) (s : State) : Host.Outcome State Fault Refusal := .next (settle (execOp 0x0D31 planTamperGet r s))

/-- TRUST_SET (14 R563, R564). -/
def planTrustSet (s : State) (r : Req) : Plan :=
  let v := par r 0 1
  { len := r.params.length == 1,
    checks := [chk (decide (v < 3)) 0, chkRel ((List.range v).all fun ro => !thas s.sec.keys (credIx ro 7))],
    act := act (modSec fun c => { c with trust := v }) }

def execTrustSet (r : Req) (s : State) : Host.Outcome State Fault Refusal := .next (settle (execOp 0x0D40 planTrustSet r s))

end Sys2Proof.Machine
end

