-- ==== Sys2Proof/Machine/Saved.lean ====
section
/-! DEFINITION. What a settings slot records and how firmware applies it (17 R651, R652, 08 R738, 02 R736; log entry 16). -/

namespace Sys2Proof.Machine

/-! ## Recording -/

/-- A chain as the settings record it: its descriptor with the tap delays in force, its images and its parameter block (17 R651). -/
def saveChain (c : Chain) : Chain :=
  let c := applyTaps (2 ^ 48) (applyParams (2 ^ 48) c)
  let d := { c.desc with taps := c.desc.taps.zipWith (fun t (x : Nat) => (t.1, t.2.1, x)) c.taps }
  { desc := d, image := c.image, codeGot := c.codeGot, init := c.init, taps := c.taps,
    blk := wrCells zeroAt [] d.paramOff (rdCells zeroAt c.blk d.paramOff (4 * d.paramWords)) }

/-- The configuration of an Array Link, without its counters. -/
def saveAl (a : Al) : Al := { flags := a.flags, plcaId := a.plcaId, plcaN := a.plcaN, ip := a.ip, plen := a.plen, mac := a.mac }

/-- The configuration of MG. -/
def saveMg (m : Mg) : Mg := { flags := m.flags, plen := m.plen, limit := m.limit, ip := m.ip, gw := m.gw, mac := m.mac, wake := m.wake }

/-- The live configuration as the settings record it. The start mode is Run when the node runs (17 R651; DEDUCED, log entry 16). -/
def snapOf (s : State) : Snapshot :=
  let c := s.pipe.live
  let k := s.clock
  { cfg := { c with chains := [], recs := [], replays := [], mute := false },
    nodes := (finishRamps s.sward).nodes, lines := s.lines.tab,
    chains := tmap saveChain (s.eng.chains.filter fun x => thas c.chains x.1),
    cands := tmap (fun (x : Cand) => x.cfg) k.cands, clkMode := k.mode, clkForced := k.forced, clkLimit := k.limit, clkTrim := k.trim,
    clkJump := k.jump, hoUnc := k.hoUnc, hoAge := k.hoAge, hoLim := k.hoLim, ptp := k.ptp.raw,
    pulses := tmap (fun (p : Pulse) => { p with edges := 0, times := [], sel := [] }) (k.pulseNew.foldl (fun t x => tset t x.1 x.2.2) k.pulses),
    groups := s.links.groups,
    dir := tmap (fun (d : DirEnt) => { d with learnt := false, ports := [] }) (s.links.dir.filter fun d => d.2.pinned),
    rings := tmap (fun (x : Ring) => { x with prot := false }) s.links.rings,
    node := if s.links.node = 0 then none else some (s.links.node, s.links.ether, s.links.crcLim),
    mg := saveMg s.links.mg, al0 := saveAl s.links.al0, al1 := saveAl s.links.al1, mclk := s.ports.slp.mclk, capPolicy := s.cap.policy,
    jobs := tmap (fun (j : Job) => { j with number := 0, gaps := {} }) s.cap.jobs, pair := s.pair.next.getD s.pair.cfg,
    policy := s.place.next.getD s.place.policy,
    power := s.power.next.getD (s.power.fixed, s.power.vmin, s.power.vmax, s.power.vfix, s.power.margin),
    heath := tmap (fun (b : Bank) => (b.policy, b.retain)) s.mem.banks, run := guardedMode s }

/-- The room that the chain library has in the xSPI device, in bytes (17, Firmware images). -/
def libraryRoom : Nat := 0x10000000 - 0x2000000

/-- Whether the images of the live chains fit the library (17 R652). -/
def libraryFits (s : State) : Bool :=
  decide (lsum ((snapOf s).chains.map fun c => c.2.desc.codeBytes + c.2.desc.stateBytes) ≤ libraryRoom)

/-- The higher generation that a valid slot holds. -/
def topGen (t : Settings) : Nat := max (if t.a.valid then t.a.gen else 0) (if t.b.valid then t.b.gen else 0)

/-- Writes the live configuration to the slot that does not hold the highest GENERATION (17 R652). -/
def saveSettings (s : State) : State :=
  let t := s.settings
  let x : SetSlot := { valid := true, schema := s.boot.schema, gen := (topGen t + 1) % 2 ^ 32, snap := snapOf s }
  { s with settings := if t.a.valid && (!t.b.valid || decide (t.b.gen ≤ t.a.gen)) then { t with b := x } else { t with a := x } }

/-! ## Applying -/

/-- The lines of the settings after a reset (08 R738): kept where ID and LENGTH agree, else freed; the missing ones allocated in
ascending ID. -/
def restoreLines (l : Tab Line) (s : State) : State :=
  let same := fun (x : Nat × Line) => match tget l x.1 with | some y => x.2.len == y.len | none => false
  let s := { s with lines := { s.lines with tab := s.lines.tab.filter same } }
  l.foldl (fun t x =>
    if thas t.lines.tab x.1 then t
    else match bestFit t (4 * lineCap x.2.len) with
      | some b => putLine x.1 x.2.len b (cal t + 1) t
      | none => t) s

/-- Loads one chain of the settings: its initial state with the recorded parameter block, on an engine that admission chooses. -/
def restoreChain (h : Nat) (c : Chain) (first : Nat) (s : State) : State :=
  let d := c.desc
  let blk := wrCells zeroAt c.init d.paramOff (rdCells zeroAt c.blk d.paramOff (4 * d.paramWords))
  let s := { s with eng := { s.eng with chains := tset s.eng.chains h { c with st := 3, blk := blk, first := some first, taps := d.taps.map fun t => t.2.2 } } }
  match admitTo s h with
  | none => { s with eng := { s.eng with chains := tdel s.eng.chains h } }
  | some e =>
    let s := putOn e h s
    let x : ChainCfg := { desc := d, delays := d.taps.map fun t => t.2.2, first := first }
    { s with pipe := { s.pipe with live := { s.pipe.live with chains := tset s.pipe.live.chains h x } } }

/-- The state of the ports that a configuration enables (09 R336, R342, 10 R423). -/
def restorePorts (s : State) : State :=
  let c := s.pipe.live
  let sp := tmap (fun (p : SpCfg) => ({ state := if !bit p.flags 0 && !bit p.flags 1 then 0 else if bit p.flags 2 then 1 else 2 } : SpSt)) c.sp
  let ae := tmap (fun (a : AeCfg) => ({ state := if bit a.flags 0 then 1 else 0 } : AeSt)) c.ae
  let ks := tmap (fun (k : LinkCfg) => ({ state := if k.speed = 0 then 0 else 1 } : LinkSt)) c.links
  { s with ports := { s.ports with sp := sp, ae := ae }, links := { s.links with ports := ks } }

/-- Firmware applies a configuration at one boundary (17 R651, 02 R736): the fixed parts first, then lines, then chains. -/
def applySnap (v : Snapshot) (s : State) : State :=
  let ids := match s.links.nodeSet, v.node with
    | none, some x => { s.links with node := x.1, ether := x.2.1, crcLim := x.2.2 }
    | _, _ => s.links
  let k := { s.clock with
    cands := tmap (fun (r : RefCfg) => ({ cfg := r } : Cand)) v.cands, mode := v.clkMode, forced := v.clkForced, limit := v.clkLimit,
    trim := v.clkTrim, jump := v.clkJump, hoUnc := v.hoUnc, hoAge := v.hoAge, hoLim := v.hoLim, pulses := v.pulses,
    ptp := { raw := v.ptp, state := if v.ptp.isEmpty then 0 else 1 } }
  let pw := { s.power with fixed := v.power.1, vmin := v.power.2.1, vmax := v.power.2.2.1, vfix := v.power.2.2.2.1, margin := v.power.2.2.2.2 }
  let s := { s with
    pipe := { s.pipe with live := v.cfg }, sward := { s.sward with nodes := v.nodes }, clock := k,
    links := { ids with dir := v.dir, groups := v.groups, rings := v.rings, mg := v.mg, al0 := v.al0, al1 := v.al1 },
    ports := { s.ports with slp := { s.ports.slp with mclk := v.mclk } }, cap := { s.cap with policy := v.capPolicy, jobs := v.jobs },
    place := { s.place with policy := v.policy, next := none }, power := pw }
  let s := reselect s
  let s := v.heath.foldl (fun t x => setBank x.1 x.2.1 x.2.2 t) s
  let s := restoreLines v.lines (restorePorts s)
  v.chains.foldl (fun t x => restoreChain x.1 x.2 (cal t + 1) t) s

end Sys2Proof.Machine
end

