-- ==== Sys2Proof/Machine/FirmOps.lean ====
section
/-! DEFINITION. The Firmware and settings class and the option operations (17 R643-R661). -/

namespace Sys2Proof.Machine

/-- Changes the boot state. -/
def modBoot (f : Boot → Boot) (s : State) : State := { s with boot := f s.boot }

/-! ## Image slots -/

/-- First fabric address of an image slot in the xSPI device (07 R267, 17 Firmware images). -/
def slotBase (i : Nat) : Nat := 0x2010000000 + i * 0x1000000

/-- An image slot: 0 A, 1 B. -/
def imageAt (s : State) (i : Nat) : Image := if i = 0 then s.boot.imgA else s.boot.imgB

/-- Changes an image slot. -/
def modImage (i : Nat) (f : Image → Image) : State → State :=
  modBoot fun b => if i = 0 then { b with imgA := f b.imgA } else { b with imgB := f b.imgB }

/-- The slot that a transfer has open. -/
def openSlot (s : State) : Option Nat := (List.range 2).find? fun i => (imageAt s i).state == 2

/-- The slot that is neither running nor committed (17 R653). -/
def spareSlot (s : State) : Option Nat := (List.range 2).find? fun i => i != s.boot.running && i != s.boot.commit

/-- Whether a trial image runs (17 R652, R653). -/
def trialRuns (s : State) : Bool := decide (s.boot.trial < 2) && s.boot.trial == s.boot.running

/-- Transfer commands return BUSY at shedding level 3 or above (16 R626, 17 R653). -/
def notShed (s : State) : Bool × Nat × Nat := chkSt (decide (s.flt.shed < 3)) BUSY

/-- FW_BEGIN (17 R653): image length and version. -/
def planFwBegin (s : State) (r : Req) : Plan :=
  { len := r.params.length == 8,
    checks := [chk (rng 1 16777216 (par r 0 4)) 0, chkSt (!trialRuns s && (openSlot s).isNone && (spareSlot s).isSome) BUSY, notShed s],
    act := act fun s => match spareSlot s with
      | some i =>
        let s := memClear (slotBase i) (slotBase (i + 1)) s
        modImage i (fun _ => { state := 2, version := par r 4 4, len := par r 0 4 }) s
      | none => s }

def execFwBegin (r : Req) (s : State) : Host.Outcome State Fault Refusal := .next (settle (execOp 0x0C01 planFwBegin r s))

/-- FW_DATA (17 R653): up to 4080 bytes at an offset within the image. -/
def planFwData (s : State) (r : Req) : Plan :=
  let data := r.params.drop 4
  let i := (openSlot s).getD 0
  let n := (imageAt s i).len
  { len := rng 5 4084 r.params.length,
    checks := [chkRel (openSlot s).isSome, chk (decide (par r 0 4 < n)) 0, chkRel (decide (par r 0 4 + data.length ≤ n)), notShed s],
    act := act (memWrites (slotBase i + par r 0 4) data) }

def execFwData (r : Req) (s : State) : Host.Outcome State Fault Refusal := .next (settle (execOp 0x0C02 planFwData r s))

/-- FW_END (17 R653): the signature decides whether the slot is valid. -/
def planFwEnd (s : State) (r : Req) : Plan :=
  let i := (openSlot s).getD 0
  { len := r.params.isEmpty,
    checks := [chkRel (openSlot s).isSome, notShed s],
    act := fun s =>
      let b := memReads s (slotBase i) (imageAt s i).len
      if Config.imageGood b then { st := modImage i (fun m => { m with state := 1, schema := Config.imageSchema b % 65536 }) s }
      else { st := modImage i (fun _ => {}) s, status := BAD_PARAM, err := 0xFFFF } }

def execFwEnd (r : Req) (s : State) : Host.Outcome State Fault Refusal := .next (settle (execOp 0x0C03 planFwEnd r s))

/-- A firmware reset: System in Recovery, else Warm (17 R654, R657). -/
def firmReset (s : State) : State := resetNow (if s.mode.mode = 3 then depthSystem else depthWarm) 0x8000 s

/-- FW_ACTIVATE (17 R654): the slot becomes the trial; the reset follows the reply. -/
def planFwActivate (s : State) (r : Req) : Plan :=
  let i := par r 0 1
  { len := r.params.length == 1,
    checks := [chk (decide (i < 2)) 0, chkRel ((imageAt s i).state == 1)],
    act := fun s =>
      let forced := bit r.flags 3 && interrupting s r && guardedMode s
      let s := modBoot (fun b => { b with trial := i, tries := 0 }) s
      { hold := true, st := firmReset (finish r OK 0 0 false forced [] (setForced forced s)) } }

def execFwActivate (r : Req) (s : State) : Host.Outcome State Fault Refusal := .next (settle (execOp 0x0C04 planFwActivate r s))

/-- FW_COMMIT (17 R655): the migrated settings first, then the boot record. -/
def planFwCommit (s : State) (r : Req) : Plan :=
  { len := r.params.isEmpty,
    checks := [chkSt (!s.mode.limp) MODE_DENIED, chkRel (trialRuns s), chkSt (s.boot.healthy && libraryFits s) BUSY],
    act := act fun s => modBoot (fun b => { b with commit := b.trial, trial := 0xFF }) (saveSettings s) }

def execFwCommit (r : Req) (s : State) : Host.Outcome State Fault Refusal := .next (settle (execOp 0x0C05 planFwCommit r s))

/-- The fallback to the committed image (17 R657): the trial is cleared and a Warm reset follows. -/
def fallBack (s : State) : State := resetNow depthWarm 0x8000 (modBoot (fun b => { b with trial := 0xFF, tries := 0 }) s)

/-- FW_FALLBACK (17 R657). -/
def planFwFallback (s : State) (r : Req) : Plan :=
  { len := r.params.isEmpty, checks := [chkRel (trialRuns s)],
    act := fun s => { hold := true, st := fallBack (finish r OK 0 0 false false [] s) } }

def execFwFallback (r : Req) (s : State) : Host.Outcome State Fault Refusal := .next (settle (execOp 0x0C06 planFwFallback r s))

/-- VERSION of a slot, zero when it is invalid (17 R660). -/
def versionOf (i : Image) : Nat := if i.state = 0 then 0 else i.version

/-- The FW_GET_STATUS payload (17 R660). -/
def firmStatus (s : State) : List Byte :=
  let b := s.boot
  let sl := fun (x : SetSlot) (v : Nat) => if x.valid then v else 0
  toBE 1 b.running ++ toBE 1 b.commit ++ toBE 1 b.trial ++ toBE 1 b.tries ++ toBE 4 (versionOf b.imgA) ++ toBE 4 (versionOf b.imgB)
    ++ toBE 1 b.imgA.state ++ toBE 1 b.imgB.state ++ toBE 2 b.schema ++ toBE 2 (sl s.settings.a s.settings.a.schema)
    ++ toBE 2 (sl s.settings.b s.settings.b.schema) ++ toBE 4 (sl s.settings.a s.settings.a.gen) ++ toBE 4 (sl s.settings.b s.settings.b.gen)
    ++ toBE 1 (b2n s.mode.limp + 2 * b2n b.optDef + 4 * b2n b.ignore + 8 * b2n b.healthy + 16 * b2n ((openSlot s).isSome && decide (3 ≤ s.flt.shed)))
    ++ toBE 1 (b.bootSel + 16 * b.clkMode + 64 * b.opt.strapMode) ++ zeroBytes 2

/-- FW_GET_STATUS (17 R660). -/
def planFwGetStatus : State → Req → Plan := readPlan firmStatus

def execFwGetStatus (r : Req) (s : State) : Host.Outcome State Fault Refusal := .next (settle (execOp 0x0C07 planFwGetStatus r s))

/-- SET_SAVE (17 R652). -/
def planSetSave (s : State) (r : Req) : Plan :=
  { len := r.params.isEmpty, checks := [chkSt (!trialRuns s && !s.mode.limp && libraryFits s) BUSY], act := act saveSettings }

def execSetSave (r : Req) (s : State) : Host.Outcome State Fault Refusal := .next (settle (execOp 0x0C10 planSetSave r s))

/-! ## Option bytes (17 R643-R645) -/

/-- First fabric address of MRAM (07 R267). -/
def mramBase : Nat := 0x2000000000

/-- Bytes 0 to 59 of an option-byte copy. -/
def optBody (o : Opt) : List Byte :=
  toBE 1 1 ++ toBE 1 o.resetMap ++ toBE 1 o.strapMode ++ toBE 1 o.strapVal ++ toBE 4 o.gen ++ toBE 6 o.sliceM ++ toBE 6 o.sliceT
    ++ toBE 1 o.dramRate ++ toBE 1 o.xspi ++ zeroBytes 38

/-- An option-byte copy with its CRC. -/
def optBytes (o : Opt) : List Byte := optBody o ++ toBE 4 (crc32c (optBody o))

/-- The fields of an option-byte block. -/
def optOf (b : List Byte) : Opt :=
  { resetMap := be b 1 1, strapMode := be b 2 1, strapVal := be b 3 1, gen := be b 4 4, sliceM := be b 8 6, sliceT := be b 14 6,
    dramRate := be b 20 1, xspi := be b 21 1 }

/-- The bytes of copy A or B in MRAM. -/
def optCopy (s : State) (i : Nat) : List Byte := memReads s (mramBase + 64 * i) 64

/-- A valid copy: good CRC, VERSION 0x01 and every reserved bit zero (17 R644). -/
def optValid (b : List Byte) : Bool :=
  be b 60 4 == crc32c (b.take 60) && be b 0 1 == 1 && decide (be b 2 1 < 4) && be b 3 1 &&& 0xCC == 0 && be b 22 38 == 0

/-- The copies that are valid, with their fields. -/
def optCopies (s : State) : List (Nat × Opt) :=
  ((List.range 2).filter fun i => optValid (optCopy s i)).map fun i => (i, optOf (optCopy s i))

/-- OPT_GET (17 R661): both copies and the loaded values. -/
def planOptGet : State → Req → Plan := readPlan fun s => optCopy s 0 ++ optCopy s 1 ++ optBytes s.boot.opt

def execOptGet (r : Req) (s : State) : Host.Outcome State Fault Refusal := .next (settle (execOp 0x0F01 planOptGet r s))

/-- OPT_SET (17 R645): PARAMS is bytes 0 to 59 of the copy, of which GENERATION is the KD9's own (log entry 28). -/
def planOptSet (_ : State) (r : Req) : Plan :=
  { len := r.params.length == 60,
    checks := [chk (par r 0 1 == 1) 0, chk (decide (par r 1 1 < 2)) 1, chk (decide (par r 2 1 < 4)) 2, chk (par r 3 1 &&& 0xCC == 0) 3,
               chk (decide (par r 20 1 < 3)) 20, chk (decide (par r 21 1 < 2)) 21, chkZero r 22 38],
    act := act fun s =>
      let g := lmax ((optCopies s).map fun x => x.2.gen)
      let to_ := if s.boot.optDef then 0 else if s.boot.fromA then 1 else 0
      memWrites (mramBase + 64 * to_) (optBytes { optOf r.params with gen := (g + 1) % 2 ^ 32 }) s }

def execOptSet (r : Req) (s : State) : Host.Outcome State Fault Refusal := .next (settle (execOp 0x0F02 planOptSet r s))

end Sys2Proof.Machine
end

