-- ==== Sys2Proof/Machine/PortsRun.lean ====
section
/-! DEFINITION. Events of the local ports: serial and AES3 clocks, the Drive Modulator's protection, and the Service Listen Port with its
menus (09 R330-R360, 17 R657-R659). -/

namespace Sys2Proof.Machine

/-! ## Serial ports -/

/-- Zeros from position `pos` on in the SRC slots of the sample tick that is being received (09 R332, R338). -/
def zeroFrom (base ch pos : Nat) (s : State) : State :=
  modRec (cal s) (fun r => { r with src := (List.range ch).foldl (fun t i => putBlk t (base + i) ((blkOf t (base + i)).take pos)) r.src }) s

/-- Words that leave a port's channels no more. -/
def dropOut (lo n : Nat) (t : Tab Blk) : Tab Blk := t.filter fun x => !(decide (lo ≤ x.1) && decide (x.1 < lo + n))

/-- The frame rates in Hz that the ASRC takes (09 R331, R342). -/
def asrcTakes (hz : Nat) : Bool := decide (28000 ≤ hz) && decide (hz ≤ 216000)

/-- The group delay of the ASRC in ns: 32 input and 32 node sample periods (09 R342). -/
def asrcDelay (s : State) (hz : Nat) : Nat := 32 * 1000000000 / hz + 32 * 1000000000 / rateHz (rate s)

/-- Whether a clock-slave port may lock at a frame rate: with ASRC within its range and the limit of its bit clock (09 R326, R331). -/
def spMayLock (x : SpCfg) (hz : Nat) : Bool := !bit x.flags 3 || (asrcTakes hz && decide (x.ch * x.slot * hz ≤ 98304000))

/-- SP_LOCK (09 R330-R332, R342): a clock-slave port has seen 64 good frames; it passes audio from the next boundary. -/
def execSpLock (port : Nat) (phase : Int) (hz : Nat) (s : State) : Host.Outcome State Fault Refusal :=
  let x := tgetD s.pipe.live.sp port {}
  .next (settle (if ((spSt s port).state == 2 || (spSt s port).state == 5) && spMayLock x hz then
    modSp port (fun p => { p with unmute := true, phase := phase, rate := hz, delay := if bit x.flags 3 then asrcDelay s hz else p.delay }) s else s))

/-- SP_CLOCK_LOSS (09 R332) of a locked clock slave; `pos`: the first sample position after detection. -/
def execSpClockLoss (port pos : Nat) (s : State) : Host.Outcome State Fault Refusal :=
  let p := spSt s port
  let x := tgetD s.pipe.live.sp port {}
  .next (settle (
    if !(p.state == 3 || p.state == 4 || p.unmute) then s
    else
      let s := modSp port (fun p => { p with state := 5, unmute := false, rate := 0, loss := inc16 p.loss }) s
      let s := if bit x.flags 0 then zeroFrom x.srcBase x.ch pos s else s
      raise 0x0801 port { s with pipe := { s.pipe with outSp := dropOut (32 * port) 32 s.pipe.outSp } }))

/-- The bits of a word that come before the end of a short frame, in which `left` bit times of its slot are left. -/
def cutWord (word left : Nat) (x : W32) : W32 :=
  if word ≤ left then x else BitVec.ofNat 32 (x.toNat / 2 ^ (word - left) * 2 ^ (word - left))

/-- A short frame, from the MSB of channel 0 on: the input slots that it does not complete read zero, and the output bits that it does not reach are dropped (09 R333). A port behind the ASRC has no frame of its own in a tick. -/
def shortFrame (f : ShortFrame) (s : State) : State :=
  let port := f.port
  let x := tgetD s.pipe.live.sp port {}
  let o := tgetD (cfgOf s (cal s - 4)).sp port {}
  let lost := (List.range x.ch).filter fun c => decide (f.bits < (c + 1) * x.slot)
  let zero := fun (r : TickRec) => { r with src := lost.foldl (fun t c =>
    putBlk t (x.srcBase + c) (mkBlk r.cfg.n fun j => if j = f.pos then 0 else smp (blkOf t (x.srcBase + c)) j)) r.src }
  let s := if bit x.flags 0 && (spSt s port).state != 4 then modRec (cal s) zero s else s
  let cut := fun (k : Nat) (b : Blk) =>
    if k / 32 = port then (List.range b.length).map fun j => if j = f.pos then cutWord o.word (f.bits - (k % 32) * o.slot) (smp b j) else smp b j else b
  { s with pipe := { s.pipe with outSp := tmapK cut s.pipe.outSp } }

/-- SP_UNDERRUN (09 R333). -/
def execSpUnderrun (x : ShortFrame) (s : State) : Host.Outcome State Fault Refusal :=
  let c := tgetD s.pipe.live.sp x.port {}
  .next (settle (if spLive (spSt s x.port) && decide (x.bits < c.ch * c.slot) then
    modSp x.port (fun p => { p with under := inc16 p.under }) (shortFrame x s) else s))

/-- SP_OVERRUN (09 R333). -/
def execSpOverrun (port : Nat) (s : State) : Host.Outcome State Fault Refusal :=
  .next (settle (if spLive (spSt s port) then modSp port (fun p => { p with overr := inc16 p.overr }) s else s))

/-! ## AES3 -/

/-- AE_LOCK_LOSS (09 R338): a slip, or with `lost` no valid preamble for two frame periods. From position `pos` on every edge of the receiver
counts as missing (11 R435). -/
def execAeLockLoss (port : Nat) (lost : Bool) (pos : Nat) (s : State) : Host.Outcome State Fault Refusal :=
  .next (settle (
    if !(aeLive s port || (aeSt s port).unmute || (aeSt s port).lock) then s
    else
      let s := modAe port (fun p => { p with state := 4, unmute := false, lock := false, rate := if lost then 0 else p.rate,
                                             slips := if lost then p.slips else inc16 p.slips,
                                             losses := if lost then inc16 p.losses else p.losses }) s
      let s := if port < 4 then edgesStop (4 + port) pos s else s
      raise 0x0802 port (zeroFrom (tgetD s.pipe.live.ae port {}).srcBase 2 pos s)))

/-- AE_RELOCK (09 R338, R342): 64 good frames, behind the ASRC at a rate that it takes; audio passes from the next boundary, and edges come again
(11 R435). -/
def execAeRelock (port : Nat) (phase : Int) (hz : Nat) (s : State) : Host.Outcome State Fault Refusal :=
  let asrc := bit (tgetD s.pipe.live.ae port {}).flags 2
  .next (settle (if ((aeSt s port).state == 1 || (aeSt s port).state == 4) && (!asrc || asrcTakes hz) then
    edgesBack (4 + port) (modAe port (fun p => { p with
      unmute := true, lock := true, phase := phase, rate := hz, delay := if asrc then asrcDelay s hz else p.delay }) s) else s))

/-- The good sample before position `pos` of an SRC slot in the tick being received. -/
def goodBefore (s : State) (port ch slot pos : Nat) : W32 :=
  match pos with
  | 0 => match recAt s (cal s - 1) with
    | some r => smp (blkOf r.src slot) (r.cfg.n - 1)
    | none => if ch = 0 then (aeSt s port).last0 else (aeSt s port).last1
  | j + 1 => smp (blkOf (recD s (cal s)).src slot) j

/-- AE_SUBFRAME (09 R339): the subframe of channel `ch` that is presented at position `pos` of the tick being received (02 R65). With a parity error the previous
good sample takes its place; behind the ASRC the error is counted only. -/
def execAeSubframe (port ch pos : Nat) (parityErr validity : Bool) (s : State) : Host.Outcome State Fault Refusal :=
  let x := tgetD s.pipe.live.ae port {}
  let slot := x.srcBase + ch % 2
  let now_ := if parityErr then goodBefore s port (ch % 2) slot pos else smp (blkOf (recD s (cal s)).src slot) pos
  let put := fun (r : TickRec) => { r with src := putBlk r.src slot (mkBlk r.cfg.n fun j => if j = pos then now_ else smp (blkOf r.src slot) j) }
  .next (settle (
    if !aeLive s port then s
    else
      let s := if parityErr && !bit x.flags 2 && decide (pos < tickN s) then modRec (cal s) put s else s
      modAe port (fun p => { p with parity := if parityErr then inc16 p.parity else p.parity, valid := p.valid || validity,
                                    last0 := if ch % 2 = 0 then now_ else p.last0, last1 := if ch % 2 = 1 then now_ else p.last1 }) s))

/-- AE_CHANNEL_STATUS_BLOCK (09 R339): the consumer format sets its flag and nothing else; a professional block must pass its CRCC. -/
def execAeChannelStatusBlock (port : Nat) (block : List Byte) (s : State) : Host.Outcome State Fault Refusal :=
  let b := fit 24 block
  .next (settle (
    if !aeLive s port then s
    else if byteAt b 0 % 2 = 0 then modAe port (fun p => { p with cons := true }) s
    else if crcc (b.take 23) = byteAt b 23 then modAe port (fun p => { p with cons := false, block := b }) s
    else modAe port (fun p => { p with crcc := inc16 p.crcc, crccEv := true }) s))

/-- ASRC_RELOCK (09 R342): an input locks at a new rate, and its group delay of 32 input and 32 node periods is computed anew. `ae`: an
AES3 receiver, else a serial port, which does not lock while its bit clock exceeds the limit (09 R326). -/
def execAsrcRelock (ae : Bool) (port hz : Nat) (s : State) : Host.Outcome State Fault Refusal :=
  let d := asrcDelay s hz
  .next (settle (
    if !asrcTakes hz then s
    else if ae then
      if bit (tgetD s.pipe.live.ae port {}).flags 2 && bit (tgetD s.pipe.live.ae port {}).flags 0 then
        edgesBack (4 + port) (modAe port (fun p => { p with rate := hz, delay := d, lock := true, unmute := p.unmute || p.state == 1 || p.state == 4 }) s)
      else s
    else
      let x := tgetD s.pipe.live.sp port {}
      if bit x.flags 3 && bit x.flags 0 && spMayLock x hz then
        modSp port (fun p => { p with rate := hz, delay := d, unmute := p.unmute || p.state == 2 || p.state == 5 }) s
      else s))

/-! ## Drive Modulator -/

/-- Changes the Drive Modulator. -/
def modModulator (f : Drv → Drv) (s : State) : State := { s with ports := { s.ports with drv := f s.ports.drv } }

/-- Every gate off. -/
def gatesOff (d : Drv) : Drv := { d with ch := tmap drvOff d.ch }

/-- Whether a channel of the modulator is enabled. -/
def drvOn (s : State) (c : Nat) : Bool := hasDrv s && decide (c < 32) && bit (drvCfg s c).flags 0

/-- DC_TRIP (09 R349): the filter's output has exceeded 2 % of full scale for 200 ms. -/
def execDcTrip (c : Nat) (s : State) : Host.Outcome State Fault Refusal :=
  .next (settle (if drvOn s c && !(drvCh s c).trip && decide (200000000 ≤ (drvCh s c).dcOver) then
    raise 0x0901 c (modDrv c (fun d => { drvOff d with trip := true, trips := min 0xFF (d.trips + 1) }) s) else s))

/-- The clock of the Drive Modulator is lost (09 R350): the fallback clock, and every running channel's index begins its ramp to zero. -/
def drvClockLost (s : State) : State :=
  let on := (s.ports.drv.ch.filter fun c => c.2.run == 2 || c.2.run == 3 || c.2.run == 4).map (·.1)
  if hasDrv s && !s.ports.drv.clkErr then
    raise 0x0902 0 (on.foldl (fun t c => beginRamp c t) (modModulator (fun d => { d with clkErr := true, fallback := true }) s))
  else s

/-- DRV_CLOCK_ERROR (09 R350). -/
def execDrvClockError (s : State) : Host.Outcome State Fault Refusal := .next (settle (drvClockLost s))

/-- DRV_RAMP_DOWN_DONE (09 R350): every gate is off and DRV_EN falls. -/
def execDrvRampDownDone (s : State) : Host.Outcome State Fault Refusal :=
  .next (settle (if s.ports.drv.clkErr then modModulator gatesOff s else s))

/-- DRV_CLOCK_RESTORE (09 R350): every enabled channel not in DC trip soft-starts; while the data plane stands still the gates stay off (09
R369). -/
def execDrvClockRestore (s : State) : Host.Outcome State Fault Refusal :=
  let start := fun (d : Drv) (c : Nat) => if (tgetD d.ch c {}).trip then d else { d with ch := tmod d.ch c {} fun x => { x with run := 2 } }
  .next (settle (if s.ports.drv.clkErr then
    let s := modModulator (fun d => { d with clkErr := false, fallback := false }) s
    if s.mode.mode = 7 ∨ s.ports.drv.fault ∨ s.pipe.running = false then s else modModulator (fun d => ((List.range 32).filter (drvOn s)).foldl start d) s
  else s))

/-- DRV_FAULT (09 R351): DRV_FAULT_N has been low for 1 us; `high`: it has gone high again since. -/
def execDrvFault (high : Bool) (s : State) : Host.Outcome State Fault Refusal :=
  .next (settle (
    if !hasDrv s then s
    else if !s.ports.drv.faultN then modModulator (fun d => { d with faultN := high }) s
    else raise 0x0903 0 (modModulator (fun d => { gatesOff d with fault := true, faultN := high }) s)))

/-- FB_LOST (09 R345): a running channel goes on without feedback. -/
def execFbLost (c : Nat) (s : State) : Host.Outcome State Fault Refusal :=
  .next (settle (if drvOn s c && bit (drvCfg s c).flags 1 && (drvCh s c).run == 3 && !(drvCh s c).fbLost then
    raise 0x0904 c (modDrv c (fun d => { d with fbLost := true }) s) else s))

/-- DRV_FREQ_CHANGE (09 R348). -/
def execDrvFreqChange (s : State) : Host.Outcome State Fault Refusal := .next (settle (takeFreq s))

/-! ## Service Listen Port -/

/-- Changes the Service Listen Port. -/
def modSlp (f : Slp → Slp) (s : State) : State := { s with ports := { s.ports with slp := f s.ports.slp } }

/-- An event enters the queue, or is dropped and counted (09 R359). -/
def slpEvent (code detail : Nat) (s : State) : State :=
  modSlp (fun p => if p.queue.length < 16 then { p with queue := p.queue ++ [{ code := code, detail := detail, cal := cal s }] } else { p with ovf := inc16 p.ovf }) s

/-- The next of the tones and pauses that wait; a pause has frequency zero. -/
def nextTone (s : State) : State :=
  match s.ports.slp.tones with
  | [] => modSlp (fun p => { p with tone := none }) s
  | (hz, ms, code) :: r =>
    let s := modSlp (fun p => { p with tones := r }) s
    if hz = 0 then modSlp (fun p => { p with tone := some (0, ms, 0) }) s else playTone hz ms code s

/-- Plays tones and pauses; they replace what played. -/
def playAll (l : List (Nat × Nat × Nat)) (s : State) : State := nextTone (modSlp (fun p => { p with tones := l, confirm := none }) s)

/-- The announcement of Settings-Limp (17 R658). -/
def limpTones : List (Nat × Nat × Nat) := [(1000, 200, 0xB600), (0, 200, 0), (1000, 200, 0xB600)]

/-- The announcement of a Recovery choice: as many tones as its number (17 R659). -/
def choiceTones (n : Nat) : List (Nat × Nat × Nat) := ((List.range n).flatMap fun _ => [(1000, 100, 0xB600), (0, 150, 0)]).take (2 * n - 1)

/-- Whether the node is in Settings-Limp. -/
def limping (s : State) : Bool := s.mode.mode == 5 && s.mode.limp

/-- A reported sequence of short presses (09 R358); in Recovery a single press advances the choice (17 R659). -/
def reportPresses (s : State) : State :=
  let n := s.ports.slp.shorts
  let s := modSlp (fun p => { p with shorts := 0 }) s
  if n = 0 then s
  else if n = 1 then
    let s := slpEvent 3 0 s
    if s.mode.mode = 3 then
      let c := s.ports.slp.choice % 4 + 1
      playAll (choiceTones c) (modSlp (fun p => { p with choice := c }) s)
    else s
  else if n = 2 then slpEvent 4 0 s
  else slpEvent 7 (min 15 n) s

/-- A confirmed Recovery choice (17 R659): the answering tone, and what follows it. -/
def confirmChoice (s : State) : State :=
  let c := s.ports.slp.choice
  let good := modSlp (fun p => { p with confirm := some c })
  let yes := [(2000, 500, 0xB600)]
  if c = 1 ∨ c = 2 then
    if (imageAt s (c - 1)).state = 1 then good (playAll yes (modBoot (fun b => { b with trial := c - 1, tries := 0 }) s))
    else playAll [(400, 1000, 0xB600)] s
  else if c = 3 then good (playAll yes (modBoot (fun b => { b with once := true }) s))
  else playAll yes s

/-- A long press (09 R358, 17 R658, R659). -/
def longPress (s : State) : State :=
  let s := slpEvent 5 0 (modSlp (fun p => { p with long := true, held := true }) s)
  if limping s then modSlp (fun p => { p with confirm := some 0 }) (playAll [(2000, 500, 0xB600)] s)
  else if s.mode.mode = 3 then confirmChoice s
  else s

/-- SLP_INSERTION (09 R357): a debounced insertion. -/
def execSlpInsertion (s : State) : Host.Outcome State Fault Refusal :=
  .next (settle (if detects s.mode.mode && !s.ports.slp.plug then modSlp (fun p => { p with plug := true, kind := 0 }) s else s))

/-- SLP_CLASSIFY (09 R357): the accessory by the level of SLP_MIC_SENSE in mV, and the insertion event. The menus of Settings-Limp and
Recovery begin (17 R658, R659). -/
def execSlpClassify (mv : Nat) (s : State) : Host.Outcome State Fault Refusal :=
  let k := if mv < 150 then 1 else if mv ≤ 1650 then 2 else 3
  .next (settle (
    if !(detects s.mode.mode && s.ports.slp.plug && s.ports.slp.kind == 0) then s
    else
      let s := slpEvent 1 k (modSlp (fun p => { p with kind := k }) s)
      if limping s && k == 2 then playAll limpTones s
      else if s.mode.mode = 3 then playAll (choiceTones 4) (modSlp (fun p => { p with choice := 4 }) s)
      else s))

/-- SLP_REMOVAL (09 R358). -/
def execSlpRemoval (s : State) : Host.Outcome State Fault Refusal :=
  .next (settle (if detects s.mode.mode && s.ports.slp.plug then
    slpEvent 2 0 (modSlp (fun p => { p with plug := false, kind := 0, press := false, long := false, held := false }) s) else s))

/-- SLP_PRESS (09 R357, R358). -/
def execSlpPress (s : State) : Host.Outcome State Fault Refusal :=
  .next (settle (if detects s.mode.mode && s.ports.slp.kind == 2 && !s.ports.slp.press then
    modSlp (fun p => { p with press := true, long := false, held := false }) s else s))

/-- SLP_HELD_PRESS_THRESHOLD (09 R358): a press passes 500 ms, and the sequence before it is reported. -/
def execSlpHeldPressThreshold (s : State) : Host.Outcome State Fault Refusal :=
  .next (settle (if s.ports.slp.press && !s.ports.slp.held then reportPresses (modSlp (fun p => { p with held := true }) s) else s))

/-- SLP_LONG_PRESS (09 R358): a press has been held for 2 s. -/
def execSlpLongPress (s : State) : Host.Outcome State Fault Refusal :=
  .next (settle (if s.ports.slp.press && !s.ports.slp.long then longPress (if s.ports.slp.held then s else reportPresses s) else s))

/-- SLP_PRESS_RELEASE (09 R358). -/
def execSlpPressRelease (s : State) : Host.Outcome State Fault Refusal :=
  let p := s.ports.slp
  let up := modSlp (fun p => { p with press := false, long := false, held := false })
  .next (settle (
    if !p.press then s
    else if p.long then up s
    else if p.held then slpEvent 6 0 (up s)
    else modSlp (fun p => { p with shorts := p.shorts + 1 }) (up s)))

/-- SLP_SEQUENCE_REPORT (09 R358): 300 ms have passed since the last release. -/
def execSlpSequenceReport (s : State) : Host.Outcome State Fault Refusal :=
  .next (settle (if s.ports.slp.press then s else reportPresses s))

/-- What follows the answering tone of a confirmed action (17 R658, R659). -/
def afterTone (s : State) : State :=
  match s.ports.slp.confirm with
  | none => s
  | some a =>
    let s := modSlp (fun p => { p with confirm := none }) s
    if a = 0 then (if trialRuns s then fallBack s else s)
    else if a ≤ 3 then resetNow depthSystem 0x8000 s
    else s

/-- SLP_TONE_END (09 R360, 17 R658): the tone ends; the next begins, or what the last one announced. -/
def execSlpToneEnd (s : State) : Host.Outcome State Fault Refusal :=
  .next (settle (
    if s.ports.slp.tone.isNone then s
    else if s.ports.slp.tones.isEmpty then afterTone (modSlp (fun p => { p with tone := none }) s)
    else nextTone s))

/-- LIMP_ANNOUNCE (17 R658). -/
def execLimpAnnounce (s : State) : Host.Outcome State Fault Refusal :=
  .next (settle (if limping s && s.ports.slp.kind == 2 then playAll limpTones s else s))

end Sys2Proof.Machine
end

