-- ==== Sys2Proof/Machine/PairRun.lean ====
section
/-! DEFINITION. Pairing at tick boundaries: Beats, the handover of a Relinquish, takeover and the return of a double Active
(13 R536, 15 R584, R595-R598). -/

namespace Sys2Proof.Machine

/-- The body of a Beat (15 R584): mode, pair state, VARIANT, FW_VERSION, the last Mirror sent, the Mirror whose status differed, and the
DST check when one is due. The spec gives the contents; the layout is this model's (DESIGN CHOICE, log entry 28). -/
def beatBody (s : State) : List Byte :=
  let p := s.pair
  let chk_ := match p.check with
    | some c => if p.chkNew && s.mode.mode == 6 then toBE 1 1 ++ toBE 6 c.1 ++ toBE 4 c.2 else zeroBytes 11
    | none => zeroBytes 11
  toBE 1 s.mode.mode ++ toBE 1 p.state ++ toBE 1 (variantCode s.part.variant) ++ toBE 4 s.boot.fwVer ++ toBE 4 p.lastMir
    ++ (match p.diff with | some q => toBE 1 1 ++ toBE 4 q | none => zeroBytes 5) ++ chk_

/-- Sends the Beat of a tick (15 R584). -/
def sendBeat (s : State) : State :=
  if paired s then modPair (fun p => { p with diff := none, chkNew := false }) (sendPair 1 (beatBody s) s) else s

/-- Every request still in a queue is answered NOT_ACTIVE (13 R536). -/
def dropQueues (s : State) : State :=
  let l := s.cp.p0 ++ s.cp.p1 ++ s.cp.p2 ++ s.cp.p3
  let s := { s with cp := { s.cp with p0 := [], p1 := [], p2 := [], p3 := [], p3Wait := 0 } }
  l.foldl (fun t r => reply r (replyKey t r) (isRead r.opcode) NOT_ACTIVE 0 0 false false [] t) s

/-- The node enters Run-Shadow, Unsynced, and asks for a resynchronisation (15 R595, R598, R600). Outputs that a Plane reset left holding their
last samples for the handover go low (09 R369). -/
def toShadow (s : State) : State :=
  let s := dropQueues (setPair 4 0 (setMode 7 s))
  let s := modPair (fun p => { p with handover := none, fallBack := false, out := [], step := 0, noRel := false, takeAt := none, takeNow := false }) s
  sendPair 6 [] (if s.pipe.held then lowOutputs s else s)

/-- A Ready Shadow becomes Active in one step (15 R596, R597). -/
def takeOver (s : State) : State :=
  let byRel := s.pair.takeAt.isSome
  let s := setPair 1 0 (setMode 6 s)
  modPair (fun p => { p with actOut := true, takeAt := none, takeNow := false, noRel := !byRel, takes := inc16 p.takes, vigilOk := false, vigil := [], absent := false }) s

/-- Whether a takeover is due at boundary `c`. -/
def takeDue (s : State) (c : Nat) : Bool :=
  s.mode.mode == 7 && s.pair.state == 3 && (s.pair.takeNow || (match s.pair.takeAt with | some h => decide (h ≤ c) | none => false))

/-- Whether the handover of a Relinquish is due at boundary `c` (15 R595). -/
def handDue (s : State) (c : Nat) : Bool := match s.pair.handover with | some h => decide (h ≤ c) | none => false

/-- What pairing does at boundary `c`. -/
def pairBoundary (c : Nat) (s : State) : State :=
  let s := if handDue s c then (if s.mode.mode = 6 then toShadow s else modPair (fun p => { p with handover := none }) s) else s
  let s := if s.pair.fallBack && s.mode.mode == 6 then toShadow s else s
  let s := if takeDue s c then takeOver s else s
  sendBeat s

end Sys2Proof.Machine
end

