-- ==== Sys2Proof/Machine/TickRun.lean ====
section
/-! DEFINITION. A tick boundary as a whole, and the commands that carry out single events of a tick (01 R21, R41, 02 R62, 11 R454, R465-
R469, 18 R671). An event that no command has carried out comes about at the next boundary (log entry 9). -/

namespace Sys2Proof.Machine

/-! ## The Almanac -/

/-- An Almanac entry. -/
def almAt (s : State) (i : Nat) : Alm := tgetD s.clock.alm i {}

/-- Whether an entry fires no later than boundary `c` (11 R466). -/
def almDue (s : State) (c : Nat) (a : Alm) : Bool :=
  a.action != 0 && (match a.next with
    | some t => if a.tick then decide (t ≤ c) else decide (t ≤ tickStart s c)
    | none => false)

/-- The instant of an entry's firing with boundary `c` the first at or after it: its exact time, or, where that has passed, the boundary (11 R466,
R469; DESIGN CHOICE, log entry 58). -/
def almInstant (s : State) (a : Alm) (c t : Nat) : Nat :=
  let at_ := if a.tick then tickStart s t else t
  if at_ < s.clock.now then tickStart s c else at_

/-- The Calendar count at a local time (11 R454). -/
def calAt (s : State) (t : Nat) : Nat := (((t : Int) - s.clock.epoch) * rateHz (rate s) / (tickN s * 1000000000)).toNat

/-- A pulse action at its instant, on an output whose source is the Almanac (11 R461, R466). -/
def almPulse (a : Alm) (at_ : Nat) (s : State) : State :=
  let p := tgetD s.clock.pulses a.arg {}
  if p.source = 9 && bit p.flags 0 then emit { kind := .pulse, a := a.arg, b := ((at_ : Int) + p.offset).toNat, c := p.width, bytes := toBE 1 (b2n (bit p.flags 1)) } s else s

/-- A capture start of entry `i` at boundary `c`: a CAP_RECORD without a reply (11 R466, 12 R485); no effect where the job records at that boundary,
or cannot. -/
def almCapture (i job c : Nat) (s : State) : State :=
  let then_ := cfgAt s [] c
  let j := jobAt s job
  let with_ := { then_ with recs := tset then_.recs job { tracks := j.tracks } }
  if thas then_.recs job || !j.defined || !mounted s || !decide (tracksOf with_ ≤ trackLimit then_.rate) then s
  else stage { req := { opcode := 0x0711, acc := s.cp.acc, params := toBE 1 job ++ zeroBytes 3 }, due := c, quiet := true, rank := i + 1 } s

/-- The sets that wait on an entry are bound at boundary `c` without a further reply, after those of a lower entry (11 R467, R469). -/
def almApply (i c : Nat) (s : State) : State :=
  { s with gate := { s.gate with staged := s.gate.staged.map fun g => if g.alm = some i then { g with alm := none, due := c, quiet := true, rank := i + 1 } else g } }

/-- One firing of an entry, with boundary `c` the first at or after it (11 R465, R466, R469). -/
def fireAlm (i c : Nat) (s : State) : State :=
  let a := almAt s i
  match a.next with
  | none => s
  | some t =>
    let s := if a.late then setHist 0x100 s else s
    let left := a.left - 1
    let ends := a.period == 0 || (a.count != 0 && left == 0)
    let inst := almInstant s a c t
    let a' := { a with late := false, last := if a.action = 1 ∨ a.action = 4 then calAt s inst else c, left := left,
                       next := if ends then none else some (t + a.period), action := if ends then 0 else a.action }
    let s := { s with clock := { s.clock with alm := tset s.clock.alm i a' } }
    match a.action with
    | 1 => almPulse a inst s
    | 2 => almCapture i a.arg c s
    | 3 => almApply i c s
    | _ => s

/-- Fires an entry as often as it is due by boundary `c`. The count bounds the firings. -/
def fireWhile (i c : Nat) : Nat → State → State
  | 0, s => s
  | n + 1, s => if almDue s c (almAt s i) then fireWhile i c n (fireAlm i c s) else s

/-- Whether a Plane reset holds an entry back: one that fires by the Calendar tick waits for the restart (11 R475). -/
def almHeld (s : State) (a : Alm) : Bool := s.boot.planeR && a.tick

/-- Every entry that is due by boundary `c`, in entry order (11 R469). One that a Plane reset holds back fires late. -/
def fireDue (c : Nat) (s : State) : State :=
  (s.clock.alm.map (·.1)).foldl (fun t i =>
    if almHeld t (almAt t i) then
      (if almDue t c (almAt t i) then { t with clock := { t.clock with alm := tset t.clock.alm i { almAt t i with late := true } } } else t)
    else fireWhile i c 1000 t) s

/-- ALMANAC_FIRE (11 R466): a pulse or a notification whose time falls no later than the next boundary fires. A capture start and a Commit Gate
apply belong to the boundary itself, which takes every set accepted before it began (11 R467): TICK_BOUNDARY fires them. -/
def execAlmanacFire (e : Nat) (s : State) : Host.Outcome State Fault Refusal :=
  let a := almAt s e
  .next (settle (
    if almDue s (cal s + 1) a && !almHeld s a && (a.action == 1 || a.action == 4) then fireAlm e (cal s + 1) s else s))

/-! ## Modes at a boundary -/

/-- The node goes Dormant (18 R671): the data plane stops, outputs are low, and delay memory is kept or lost. -/
def enterDormant (keep isParked : Bool) (s : State) : State :=
  let s := (s.eng.engines.map (·.1)).foldl (fun t e => haltEngine e t) (tapLost s)
  let s := setPair 0 0 (setMode 1 s)
  let s := if keep then s else memClear dramBase 0x8000000000 s
  let s := if keep then s else { s with mem := { s.mem with used := [], wrote := [] } }
  { s with
    mode := { s.mode with dormant := none, parked := isParked },
    pipe := { s.pipe with running := false, mid := false, recs := [], outSp := [], outAe := [], outSlp := [], held := false },
    mem := { s.mem with kept := keep, ready := false, selfRef := keep },
    clock := { s.clock with pll := false },
    links := { s.links with ports := tmap (fun (l : LinkSt) => { l with state := if l.state = 0 then 0 else 3, queue := [] }) s.links.ports,
                            mg := { s.links.mg with paused := false, held := [], ignore := false } },
    ports := { s.ports with drv := { s.ports.drv with ch := tmap drvOff s.ports.drv.ch } } }

/-! ## The tick -/

/-- The parts of a tick's work that have come due and no command has carried out (log entry 9). -/
def settleEvents (s : State) : State :=
  let s := countEdges (sendAll s)
  let s := takeFreq (settleParks (noteMeters (settleMeters s)))
  let s := { s with sward := wakenTiles s.sward }
  let s := { s with eng := { s.eng with engines := tmap (fun (g : Engine) => { g with waking := false }) s.eng.engines } }
  match s.power.pend with
  | some v => if avsFree s then sendAvs v s else s
  | none => s

/-- The regions of delay memory below the line pool that the units of the KD9 use in a tick: align delay, capture staging, replay read-ahead
(08 R309). What fabric masters wrote there is gone. -/
def noteRegions (s : State) : State :=
  let c := s.pipe.live
  let now := [c.mapMi.any fun e => e.2.align != 0, !c.recs.isEmpty || !s.cap.groups.isEmpty, !c.replays.isEmpty]
  let active := (List.range 3).filter fun i => now.getD i false
  let region := fun (a : Nat) => let o := a - dramBase; if o < 0x800000 then 0 else if o < 0x8800000 then 1 else 2
  { s with mem := { s.mem with used := s.mem.used ++ active.filter (fun i => !s.mem.used.contains i),
                               wrote := s.mem.wrote.filter fun a => !active.contains (region a) } }

/-- The zeros of every delay line that has no running writer for the sample tick that the stage of its chains works on (04 R159, R160, 08 R315). No
chain runs in a Plane reset, in which this service goes on (17 R641). -/
def idleLines (s : State) : State :=
  s.lines.tab.foldl (fun t l =>
    match stageTick s (lineStage s l.1) with
    | none => t
    | some k =>
      let runs := s.pipe.running && s.eng.chains.any fun c => runsAt c.2 k && c.2.desc.lines.contains l.1
      if runs then t else lineWrite l.1 k (tickN s) [] t) s

/-- The work of a tick with Calendar count `c` (02 R62): the Sward first, since Stage A takes its MIX-OUT for returns. -/
def tickWork (x : TickIn) (c : Nat) (s : State) : State :=
  let f := s.pipe.first
  let at_ := fun (d : Nat) (g : Nat → State → State) (t : State) => if f + d ≤ c then g (c - d) t else t
  let s := beginTick c x (unmutePorts s)
  let s := { s with sward := wakeTiles (bandWidth (rate s)) (tileCount s.part.variant) s.sward }
  let s := at_ 3 patchB (at_ 1 patchA (at_ 2 swardPass s))
  let s := if f + 4 ≤ c then outputStage (c - 4) s else outputZeros (c - 4) s
  let s := startEngines (idleLines (noteRegions { s with pipe := { s.pipe with mid := true } }))
  (s.cap.groups.map (·.1)).foldl (fun t k => sendTicks k 20 64 t) s

/-- Whether tick boundaries come: the clean-up PLL runs and the node is neither Off nor Dormant (11 R455). -/
def ticking (s : State) : Bool := s.clock.pll && decide (2 ≤ s.mode.mode) && !s.boot.halted

/-- A tick boundary (01 R21, 02 R62, R71, 11 R454): the tick before it completes, modes and staged sets change, and every stage begins its
work. Where a set moves the count and a tick of the new count starts at once, the sets up to it are bound as well; where none starts yet, the Frame Sequencer issues no tick (11 R457). -/
def tickBoundary (x : TickIn) (s : State) : State :=
  if !ticking s then s
  else
    let s := settleEvents (finishInput (deadline s))
    let c := cal s + 1
    let s := fireDue c s
    let s := { s with pipe := { s.pipe with cal := c } }
    let s := { s with clock := clockTo (tickStart s c) s.clock }
    let s := { s with flt := { s.flt with tickOk := true } }
    match s.mode.dormant with
    | some keep => enterDormant keep false s
    | none =>
      let s := commit c (pairBoundary c (freeUnloaded s))
      if tickStart s (cal s) ≠ s.clock.now then s
      else
        let s := if cal s ≠ c then commit (cal s) (fireDue (cal s) s) else s
        if tickStart s (cal s) ≠ s.clock.now then s
        else if s.pipe.running then tickWork x (cal s) s else toneTick (tapLost (if s.boot.planeR then idleLines s else s))

/-! ## The commands -/

/-- TICK_BOUNDARY (11 R454, 02 R62). -/
def execTickBoundary (x : TickIn) (s : State) : Host.Outcome State Fault Refusal := .next (settle (tickBoundary x s))

/-- RAMP_END (03 R92): a column whose ramp has had its last sample tick goes idle. -/
def execRampEnd (col : Nat) (s : State) : Host.Outcome State Fault Refusal :=
  .next (settle (if rampDone (rampAt s.sward col) then { s with sward := finishCol col s.sward } else s))

/-- TILE_WAKE_DONE (03 R97). -/
def execTileWakeDone (t : Nat) (s : State) : Host.Outcome State Fault Refusal :=
  let x := tgetD s.sward.tiles t {}
  .next (settle (if x.state = 1 then { s with sward := { s.sward with tiles := tset s.sward.tiles t { x with state := 2 } } } else s))

/-- CONCEAL_EXPIRY (10 R391): a flow that has concealed for CONCEAL ticks presents zeros. -/
def execConcealExpiry (source flow : Nat) (s : State) : Host.Outcome State Fault Refusal :=
  let key := flowKey source flow
  let over_ := match tget s.pipe.live.flowIn key, tget s.links.flows key with
    | some x, some f => f.state == 2 && f.missing.any fun m => decide (x.conceal ≤ m)
    | _, _ => false
  .next (settle (if over_ then { s with links := { s.links with flows := tupd s.links.flows key fun f => { f with state := 3 } } } else s))

/-- CHAIN_DEADLINE (02 R77-R79, 06 R240). -/
def execChainDeadline (s : State) : Host.Outcome State Fault Refusal := .next (settle (deadline s))

/-- COARSE_BLOCK_END (06 R252). -/
def execCoarseBlockEnd (meter : Nat) (s : State) : Host.Outcome State Fault Refusal :=
  .next (settle { s with fixed := { s.fixed with meters := tupd s.fixed.meters meter coarseEnd } })

/-- SLOW_PATH_READY (06 R253). -/
def execSlowPathReady (meter : Nat) (s : State) : Host.Outcome State Fault Refusal :=
  .next (settle { s with fixed := { s.fixed with meters := tupd s.fixed.meters meter (slowReady (tgetD s.pipe.live.meters meter {})) } })

/-- SILENCE_HOLD_EXPIRY (06 R259, R260, 09 R352): the Drive Modulator channels that a silent DST slot feeds mute, their index ramping to zero first. -/
def execSilenceHoldExpiry (space slot : Nat) (s : State) : Host.Outcome State Fault Refusal :=
  let hit := fun (c : Nat) (d : DrvCh) =>
    let x := drvCfg s c
    bit x.flags 0 && bit x.flags 3 && x.dst == slot && (d.run == 2 || d.run == 3)
  .next (settle (if space = 3 ∧ isSilent s 3 slot then
    ((s.ports.drv.ch.filter fun d => hit d.1 d.2).map (·.1)).foldl (fun t c => beginRamp c t) s else s))

/-- PARK_HOLD_EXPIRY (04 R177). -/
def execParkHoldExpiry (h : Nat) (s : State) : Host.Outcome State Fault Refusal :=
  .next (settle (match chainAt s h with | some c => if parkDue s c then park h s else s | none => s))

/-- DST_CHECK (15 R590): the check of the newest sample tick that is complete and due. -/
def execDstCheck (s : State) : Host.Outcome State Fault Refusal :=
  let due := s.pipe.recs.find? fun r => r.k % 1024 == 0 && decide (r.k + 3 < cal s || (r.k + 3 == cal s && !s.pipe.mid))
  .next (settle (match due with | some r => dstCheck r s | none => s))

/-- TICK_BOUNDARY_LATE (15 R579, 16 R609): PAIR_ACT_OUT falls and a Severe fault is raised. -/
def execTickBoundaryLate (s : State) : Host.Outcome State Fault Refusal :=
  .next (settle (if s.pipe.running then raise 0x0101 0 { s with pair := { s.pair with actOut := false } } else s))

/-- HANDOVER (15 R595): the handover boundary of a Relinquish. It stands at the next boundary; the command brings it about. -/
def execHandover (s : State) : Host.Outcome State Fault Refusal :=
  .next (settle (if handDue s (cal s) && s.mode.mode == 6 then toShadow s else s))

/-- TAKEOVER (15 R596, R597). -/
def execTakeover (s : State) : Host.Outcome State Fault Refusal := .next (settle (if takeDue s (cal s) then takeOver s else s))

end Sys2Proof.Machine
end

