-- ==== Sys2Proof/Machine/ClockRun.lean ====
section
/-! DEFINITION. Events of the clean-up and time unit: the PLL, the candidates' monitors, the servo, PTP, PULSE outputs and timestamps
(11 R431-R464, 10 R411). -/

namespace Sys2Proof.Machine

/-! ## The clean-up PLL and the candidates -/

/-- XO_FAULT (11 R431): no further tick, and the Drive Modulator reacts; PAIR_ACT_OUT falls as ticks cease (15 R579). -/
def execXoFault (s : State) : Host.Outcome State Fault Refusal :=
  .next (settle (
    if s.clock.pll then
      let s := modPair (fun p => { p with actOut := false }) { s with clock := { s.clock with pll := false } }
      drvClockLost (raise 0x0B01 0 (setHist 0x80 s))
    else s))


/-- MISSING_EDGE (11 R432, R433). -/
def execMissingEdge (c : Nat) (first : Bool) (s : State) : Host.Outcome State Fault Refusal := .next (settle (missEdge c first s))

/-- FREQ_MONITOR_UPDATE (11 R432, R433): a measurement in ppb from the nominal frequency. A candidate whose edges are all missing gives none
(11 R435). -/
def execFreqMonitorUpdate (c : Nat) (ppb : Int) (s : State) : Host.Outcome State Fault Refusal :=
  .next (settle (
    if !candOn s c || edgesOut s c then s
    else
      let k := (candAt s c).cfg
      let s := modCand c (fun x => { x with ppb := some ppb, good := if ppb.natAbs ≤ 1000 * k.accPpm then x.good + 1 else 0 }) s
      if 1000 * k.rejPpm < ppb.natAbs then rejectCand c s else s))

/-- CANDIDATE_QUALIFIED (11 R433): ten measurements a second within ACCEPT_PPM for ACCEPT_S, without a missing edge. -/
def execCandidateQualified (c : Nat) (s : State) : Host.Outcome State Fault Refusal :=
  let k := candAt s c
  .next (settle (
    if candOn s c && !edgesOut s c && !k.qual && decide (10 * k.cfg.accS ≤ k.good) then reselect (modCand c (fun k => { k with qual := true }) s) else s))

/-! ## The servo -/

/-- Whether a candidate is phase-aligning (11 R442). -/
def phaseAligned (s : State) (c : Nat) : Bool := c == 8 || bit (candAt s c).cfg.flags 2

/-- Whether an error is within a limit, in ns for a phase-aligning candidate, else in ppb (11 R444). -/
def errWithin (s : State) (ns ppb : Nat) (e : Int) : Bool :=
  decide (e.natAbs ≤ if phaseAligned s s.clock.sel then ns else ppb)

/-- The servo steers w. The spec gives no law for it: the new w is a free value, clamped to the limit (11 R443; log entry 5). -/
def steer (s : State) : State :=
  let (v, s) := fresh 32 s
  setW v.toInt s

/-- Whether the servo refuses the correction that a phase error would call for (11 R452); `steered`: the change of the error that its own
steering accounts for. -/
def jumps (s : State) (err steered : Int) : Bool :=
  s.clock.estab && phaseAligned s s.clock.sel
    && (if s.clock.fresh then decide (s.clock.jump < err.natAbs)
        else match s.clock.err with
          | some e => decide (s.clock.jump < (err - e - steered).natAbs)
          | none => false)

/-- Local time steps to the PTP master's before time is established (11 R451); the Calendar follows (11 R454). -/
def stepToMaster (err : Int) (s : State) : State :=
  let now := ((s.clock.now : Int) - err).toNat
  let k := ((now : Int) - s.clock.epoch) * rateHz (rate s) / (tickN s * 1000000000)
  { s with
    clock := { s.clock with now := now, stepped := true, unset := false, phase := some 0, err := some 0, within := some now, fresh := false },
    pipe := { s.pipe with cal := k.toNat } }

/-- Whether the selected candidate is a video input that is phase-aligned: by the pulse that begins each sequence (11 R442). -/
def videoAligned (s : State) : Bool := decide (s.clock.sel < 4) && (candAt s s.clock.sel).cfg.type == 2 && phaseAligned s s.clock.sel

/-- Whether the servo aligns the pulse now measured: the first after selection, which marks the start of the sequence, and one in L from there on
(11 R442). -/
def seqFirst (s : State) : Bool := !videoAligned s || (candAt s s.clock.sel).frame.getD 0 == 0

/-- The pulse measured begins a sequence. -/
def markSeq (s : State) : State := if videoAligned s then modCand s.clock.sel (fun k => { k with frame := some 0 }) s else s

/-- SERVO_MEASUREMENT (11 R442-R444, R451, R452): the error of local time or frequency against the selected candidate. -/
def execServoMeasurement (err steered : Int) (s : State) : Host.Outcome State Fault Refusal :=
  .next (settle (
    if !(decide (s.clock.sel < 13) && (s.clock.state == 1 || s.clock.state == 2) && seqFirst s) then s
    else if !s.clock.estab && s.clock.sel == 8 && !s.clock.stepped then stepToMaster err s
    else
      let s := if jumps s err steered then raise 0x0B03 s.clock.sel (setHist 0x1000 s) else s
      let ph := phaseAligned s s.clock.sel
      let since := if errWithin s 100 10 err then some (s.clock.within.getD s.clock.now) else none
      let k := { s.clock with err := some err, within := since, phase := if ph then some err else s.clock.phase, fresh := false }
      let s := { s with clock := k }
      let s := if s.clock.state = 2 && !errWithin s 1000 100 err then { s with clock := { s.clock with state := 1 } } else s
      steer (markSeq s)))

/-- Whether the error has stayed within the lock limit for 1 s (11 R444). -/
def lockReady (s : State) : Bool := match s.clock.within with | some t => decide (t + 1000000000 ≤ s.clock.now) | none => false

/-- SERVO_LOCK (11 R444): the seconds over which means of w are recorded count from here (11 R445). -/
def execServoLock (s : State) : Host.Outcome State Fault Refusal :=
  .next (settle (
    if s.clock.state == 1 && lockReady s then
      modCand s.clock.sel (fun k => { k with locked := true }) { s with clock := { s.clock with state := 2, wSum := 0, wNs := 0 } }
    else s))

/-- W_MEAN_RECORD (11 R445): a second ends `ns` after the start of the current tick; the mean of the w held over it is kept. A w written in the
course of a tick counts from the tick's start (DEDUCED, log entry 57). -/
def execWMeanRecord (ns : Nat) (s : State) : Host.Outcome State Fault Refusal :=
  let k := s.clock
  .next (settle (
    if k.state == 2 && k.wNs + ns == 1000000000 then
      { s with clock := { k with
        means := ((k.now + ns, nearDiv (k.wSum + k.w * ns) 1000000000) :: k.means).take 80, wSum := -(k.w * ns), wNs := -(ns : Int) } }
    else s))

/-- HO_LIMIT_REACHED (11 R447). -/
def execHoLimitReached (s : State) : Host.Outcome State Fault Refusal :=
  .next (settle (
    if s.clock.state == 3 && !s.clock.hoDone && decide (s.clock.hoLim ≤ holdoverX s) then
      raise 0x0B02 0 (setHist 0x8000 { s with clock := { s.clock with hoDone := true } })
    else s))

/-! ## PTP (11 R448-R450; the messages are those of IEEE 1588-2019) -/

/-- The PTP_CONFIG fields in force. -/
def ptpByte (s : State) (i : Nat) : Nat := byteAt s.clock.ptp.raw i

/-- The logarithm of the interval that byte `i` of the PTP_CONFIG block gives, as one byte: 0x7F stands for the profile's default
(11 R448, R449). -/
def ptpInterval (s : State) (i : Nat) : Nat :=
  let d := ptpDefault (ptpByte s 0)
  (ptpLog (ptpByte s i) (if i = 6 then d.1 else if i = 7 then d.2.1 else d.2.2) % 256).toNat

/-- The clock's own port identity: its DIE_ID and port 1. -/
def ptpOwn (s : State) : Nat := s.part.dieId * 65536 + 1

/-- The data set that the clock announces: priority 1, class, accuracy, variance, priority 2 and identity. Accuracy and variance are those
of a clock that does not state them (PRESUMED, IEEE 1588-2019). -/
def ptpOwnSet (s : State) : List Byte :=
  toBE 1 (ptpByte s 4) ++ toBE 1 (if bit (ptpByte s 2) 0 then 248 else 255) ++ toBE 1 0xFE ++ toBE 2 0xFFFF ++ toBE 1 (ptpByte s 5)
    ++ toBE 8 s.part.dieId

/-- The data set in an Announce: the same fields at bytes 47 to 60. -/
def annSet (m : List Byte) : List Byte := (m.drop 47).take 14

/-- The order of the best master clock algorithm on data sets. -/
def betterSet (a b : List Byte) : Bool := decide (ofBE a 0 < ofBE b 0)

/-- Whether the clock takes a message: one of the configured domain, and the node is neither Off nor Dormant (10 R414). -/
def ptpDomain (s : State) (m : List Byte) : Bool := mgRuns s && s.clock.ptp.state != 0 && byteAt m 4 == ptpByte s 3

/-- Port identity of a message's sender, its sequence and its correction in ns. -/
def ptpSender (m : List Byte) : Nat := be m 20 10

def ptpSeq (m : List Byte) : Nat := be m 30 2

def ptpCorr (m : List Byte) : Int := beS m 8 8 / 65536

/-- The ten-byte timestamp at the start of a message's body, in ns. -/
def ptpStamp (m : List Byte) : Nat := be m 34 6 * 1000000000 + be m 40 4

/-- Changes the PTP clock. -/
def modPtp (f : Ptp → Ptp) (s : State) : State := { s with clock := { s.clock with ptp := f s.clock.ptp } }

/-- The port leaves or enters a state; a port that leaves SLAVE rejects the PTP candidate (11 R434). -/
def ptpState (st : Nat) (s : State) : State :=
  let was := s.clock.ptp.state
  let s := modPtp (fun p => { p with state := st }) s
  if was = 3 ∧ st ≠ 3 then rejectCand 8 s else s

/-- A PTP message of this clock: header, with correctionField `corr` in 2^-16 ns, and body. -/
def ptpMsg (s : State) (corr : Int) (ty seq log : Nat) (body : List Byte) : List Byte :=
  let two := (ty == 0) && !(ptpByte s 1 != 4 && bit (ptpByte s 2) 2)
  toBE 1 ty ++ toBE 1 0x12 ++ toBE 2 (34 + body.length) ++ toBE 1 (ptpByte s 3) ++ zeroBytes 1 ++ toBE 1 (2 * b2n two) ++ toBE 1 8
    ++ toBES 8 corr ++ zeroBytes 4 ++ toBE 10 (ptpOwn s) ++ toBE 2 seq ++ zeroBytes 1 ++ toBE 1 log ++ body

/-- Sends a PTP message with a correctionField out of the configured port, in UDP on IPv4 or in Ethernet as FLAGS says (11 R449). -/
def sendPtpCorr (corr : Int) (ty seq log : Nat) (body : List Byte) (s : State) : State :=
  let o : Out := { kind := .ptp, a := ty, b := ptpByte s 1, c := b2n (bit (ptpByte s 2) 1), bytes := ptpMsg s corr ty seq log body }
  if ptpByte s 1 = 4 then emitMg o s else if linkUp s (ptpByte s 1) then egress (ptpByte s 1) o s else s

/-- Sends a PTP message with correctionField zero. -/
def sendPtp (ty seq log : Nat) (body : List Byte) (s : State) : State := sendPtpCorr 0 ty seq log body s

/-- The timestamp of an event message that passes a port at time `t`: a link port adds its asymmetry correction (10 R411). -/
def ptpTime (s : State) (port t : Nat) : Nat := if port < 4 then ((t : Int) + (linkCfg s port).asym).toNat else t

/-- Whether the clock's port is up. -/
def ptpPortUp (s : State) (port : Nat) : Bool := if port < 4 then linkUp s port else mgRuns s && udpOn s 0

/-- MAC address of the clock's port. -/
def ptpMac (s : State) : Nat := if ptpByte s 1 = 4 then s.links.mg.mac else ofBE (macNode s.links.node) 0

/-- Whether the clock takes a message: its port is up, the frame is sent to the port's own address, to broadcast or to a PTP multicast address
(10 R412), the encapsulation is the configured one (11 R449) and the domain its own (DEDUCED for K0-K3, log entry 69). -/
def ptpTaken (s : State) (m : PtpIn) : Bool :=
  ptpPortUp s (ptpByte s 1) && (m.dest == ptpMac s || m.dest == 0xFFFFFFFFFFFF || ptpMacs.contains m.dest)
    && m.udp == bit (ptpByte s 2) 1 && ptpDomain s m.body

/-- A PTP message that a link port receives is counted (10 R423). -/
def countPtp (port : Nat) (s : State) : State := if port < 4 && linkUp s port then countFrame port true s else s

/-- The timestamps of a Sync, with its corrections in ns, give a new measurement of the offset from the master: arrival less departure less
corrections less path delay (11 R448). -/
def ptpOffset (t1 t2 : Nat) (corr : Int) (s : State) : State :=
  modPtp (fun p => { p with t1 := t1, t2 := t2, corr := corr, offset := (t2 : Int) - t1 - corr - p.delay, twoStep := none }) s

/-- A Sync that arrives at time `t` from the master followed is an edge of the PTP candidate; a one-step Sync gives the offset at once, a two-step
one waits for its Follow_Up (11 R434, R448). -/
def syncIn (t : Nat) (m : List Byte) (s : State) : State :=
  let p := s.clock.ptp
  if !((p.state == 2 || p.state == 3) && ptpSender m == p.parent) then s
  else
    let e := ptpTime s (ptpByte s 1) t
    let s := modCand 8 (fun k => { k with missed := 0, edges := k.edges + 1 }) s
    if bit (byteAt m 6) 1 then modPtp (fun p => { p with twoStep := some (ptpSeq m, e, ptpCorr m) }) s else ptpOffset (ptpStamp m) e (ptpCorr m) s

/-- Residence time, in ns, of a message in transit between two link ports: that between its two timestamps (10 R411); `d` is the time between its
passing the two ports. -/
def residence (s : State) (inp outp d : Nat) : Int := (d : Int) + (linkCfg s outp).asym - (linkCfg s inp).asym

/-- PTP_EVENT_MESSAGE (10 R411): a message in transit leaves by each port of `outs` with its residence time added to correctionField; a
Delay_Req for a master is answered, its correctionField returned, and a Sync for a slave is taken. -/
def execPtpEventMessage (port t : Nat) (outs : List (Nat × Nat)) (msg : PtpIn) (s : State) : Host.Outcome State Fault Refusal :=
  let m := msg.body
  let pass := fun (s : State) (o : Nat × Nat) =>
    if port < 4 ∧ o.1 < 4 ∧ o.1 ≠ port ∧ linkUp s o.1 then
      egress o.1 { kind := .ptp, a := byteAt m 0 % 16, b := o.1, c := b2n msg.udp,
                   bytes := m.take 8 ++ toBES 8 (beS m 8 8 + residence s port o.1 o.2 * 65536) ++ m.drop 16 } s
    else s
  .next (settle (
    if !ptpPortUp s port then s
    else
      let mine := port == ptpByte s 1 && ptpTaken s msg
      let s := outs.foldl pass (countPtp port s)
      if !mine then s
      else if s.clock.ptp.state = 4 ∧ byteAt m 0 % 16 = 1 then
        sendPtpCorr (beS m 8 8) 9 (ptpSeq m) (ptpInterval s 8) (timeBytes (ptpTime s port t) ++ toBE 10 (ptpSender m)) s
      else if byteAt m 0 % 16 = 0 then syncIn t m s
      else s))

/-- PTP_SYNC (11 R434, R448): a Sync at the clock's port that goes no further. -/
def execPtpSync (t : Nat) (msg : PtpIn) (s : State) : Host.Outcome State Fault Refusal :=
  .next (settle (
    let u := countPtp (ptpByte s 1) s
    if ptpTaken s msg then syncIn t msg.body u else u))

/-- The grandmaster's identity; a change sets GM_CHANGE (11 R450). -/
def setGm (gm : Nat) (s : State) : State := if gm = s.clock.ptp.gm then s else setHist 0x400 (modPtp (fun p => { p with gm := gm }) s)

/-- This clock becomes master, and its own identity the grandmaster's. -/
def becomeMaster (s : State) : State := setGm s.part.dieId (ptpState 4 s)

/-- PTP_ANNOUNCE_TIMEOUT (11 R434, R448): the master is lost; a master-capable clock becomes master. -/
def execPtpAnnounceTimeout (s : State) : Host.Outcome State Fault Refusal :=
  .next (settle (
    if 1 ≤ s.clock.ptp.state ∧ s.clock.ptp.state ≤ 3 then
      let s := rejectCand 8 (if bit (ptpByte s 2) 0 then becomeMaster s else ptpState 1 s)
      modPtp (fun p => { p with best := [], parent := 0, twoStep := none, delay := 0 }) s
    else s))

/-- The clock follows a master; a new grandmaster identity sets GM_CHANGE (11 R450). -/
def follow (m : List Byte) (s : State) : State :=
  let gm := be m 53 8
  let s := setGm gm s
  let new := decide (ptpSender m ≠ s.clock.ptp.parent)
  let s := modPtp (fun p => { p with best := annSet m, parent := ptpSender m }) s
  if new || s.clock.ptp.state = 1 || s.clock.ptp.state = 4 then ptpState 2 (modPtp (fun p => { p with twoStep := none, delay := 0 }) s) else s

/-- An Announce (11 R448, R450): the best of this clock's own data set, the master followed and the announced one wins. -/
def announcePtp (m : List Byte) (s : State) : State :=
  let p := s.clock.ptp
  let own := bit (ptpByte s 2) 0 && betterSet (ptpOwnSet s) (annSet m)
  if ptpSender m = p.parent then
    (if own then modPtp (fun p => { p with best := [], parent := 0 }) (becomeMaster s) else follow m s)
  else if own then s
  else if p.best.isEmpty || betterSet (annSet m) p.best then follow m s
  else s

/-- PTP_GENERAL_MESSAGE (11 R448, R450): an Announce, a Follow_Up of the Sync that waits for it, or a Delay_Resp to this clock. With its
first mean path delay the port is a slave. -/
def execPtpGeneralMessage (msg : PtpIn) (s : State) : Host.Outcome State Fault Refusal :=
  let p := s.clock.ptp
  let m := msg.body
  let u := countPtp (ptpByte s 1) s
  .next (settle (
    if !ptpTaken s msg then u
    else match byteAt m 0 % 16 with
      | 11 => announcePtp m u
      | 8 => match p.twoStep with
        | some (q, t2, c) => if ptpSender m = p.parent ∧ q = ptpSeq m then ptpOffset (ptpStamp m) t2 (c + ptpCorr m) u else u
        | none => u
      | 9 =>
        if (p.state = 2 ∨ p.state = 3) ∧ ptpSender m = p.parent ∧ be m 44 10 = ptpOwn s then
          let d := ((p.t2 : Int) - p.t1 - p.corr + ((ptpStamp m : Int) - ptpCorr m - p.t3)) / 2
          ptpState 3 (modPtp (fun p => { p with delay := d }) u)
        else u
      | _ => u))

/-- PTP_INTERVAL_TIMER (11 R448): 0 Announce and 1 Sync of a master, a two-step Sync with its Follow_Up; 2 Delay_Req of a slave. The
message leaves at local time `t`; Sync and Delay_Req are timestamped with the port's asymmetry correction (10 R411). -/
def execPtpIntervalTimer (kind t : Nat) (s : State) : Host.Outcome State Fault Refusal :=
  let q := s.clock.ptp.seq
  let st := if mgRuns s then s.clock.ptp.state else 0
  let e := ptpTime s (ptpByte s 1) t
  let one := ptpByte s 1 != 4 && bit (ptpByte s 2) 2
  let next := fun (s : State) => modPtp (fun p => { p with seq := (q + 1) % 65536 }) s
  .next (settle (
    if kind = 0 ∧ st = 4 then
      next (sendPtp 11 q (ptpInterval s 6) (timeBytes t ++ zeroBytes 3 ++ (ptpOwnSet s) ++ zeroBytes 2 ++ toBE 1 0xA0) s)
    else if kind = 1 ∧ st = 4 then
      let s := sendPtp 0 q (ptpInterval s 7) (if one then timeBytes e else zeroBytes 10) s
      next (if one then s else sendPtp 8 q (ptpInterval s 7) (timeBytes e) s)
    else if kind = 2 ∧ (st = 2 ∨ st = 3) then
      next (modPtp (fun p => { p with t3 := e }) (sendPtp 1 q 0x7F (zeroBytes 10) s))
    else s))

/-! ## PULSE outputs and timestamps -/

/-- A time in ns to the nearest ns, from a fraction; ties away from zero (11 R461). -/
def nearNs (num den : Nat) : Nat := (2 * num + den) / (2 * den)

/-- Mean period of the timestamped edges of a source, as a fraction: the span of the last 16 and their number less one (11 R461). -/
def edgeSpan (l : List Nat) : Nat × Nat := ((l.getLast?.getD 0) - l.head?.getD 0, l.length - 1)

/-- The instant of event `n` of a PULSE output, without OFFSET (11 R459, R461): that of a REFIN edge is its timestamp once it has come, and predicted
from the mean period before. -/
def pulseInstant (s : State) (p : Pulse) (n : Nat) : Option Int :=
  match p.source with
  | 0 => none
  | 5 => some ((n * 1000000000 : Nat) : Int)
  | 6 => some ((nearNs (n * (videoPeriod p.rate).1 * 1000000000) (videoPeriod p.rate).2 : Nat) : Int)
  | 7 => some (s.clock.epoch + (nearNs (n * tickN s * 1000000000) (rateHz (rate s)) : Nat))
  | 8 => some (s.clock.epoch + (nearNs (n * 1000000000) (rateHz (rate s)) : Nat))
  | 9 => none
  | _ =>
    let x := edgeSpan p.times
    if n ≤ p.edges then (p.sel.find? fun e => e.1 == n).map fun e => ((e.2 : Nat) : Int)
    else if x.2 = 0 then none
    else
      let last : Int := ((p.times.getLast?.getD 0 : Nat) : Int)
      let d : Int := (n : Int) - p.edges
      some (last + (2 * d * x.1 + x.2) / (2 * x.2))

/-- The edge of event `n` of a PULSE output, if DIVIDE selects the event, it comes no earlier than `since`, and the edge falls in the current
tick (11 R459-R461). -/
def pulseTime (s : State) (since : Int) (p : Pulse) (n : Nat) : Option Int :=
  match (if bit p.flags 0 && n % p.divide == 0 && s.clock.pll then pulseInstant s p n else none) with
  | none => none
  | some t => if since ≤ t ∧ s.clock.now ≤ t + p.offset ∧ t + p.offset < s.clock.now + tickLen s then some (t + p.offset) else none

/-- A pulse of an output, with double width on the first frame of a five-frame sequence (11 R460, R461). -/
def pulseOut (pulse n : Nat) (at_ : Int) (p : Pulse) (s : State) : State :=
  emit { kind := .pulse, a := pulse, b := at_.toNat, c := if bit p.flags 2 && n % 5 == 0 then 2 * p.width else p.width,
         bytes := toBE 1 (b2n (bit p.flags 1)) } s

/-- A configuration that waits, whose event `n` is its first selected one, with the edge of that event (11 R462). -/
def pulseFirst (s : State) (pulse n : Nat) : Option (Pulse × Int) :=
  match tget s.clock.pulseNew pulse with
  | some x => (pulseTime s x.1 x.2 n).map fun t => (x.2, t)
  | none => none

/-- PULSE_EDGE (11 R459-R462): event `n` of an output, within the current tick. The first event of a new configuration puts it in force; until
then the old one stays. -/
def execPulseEdge (pulse n : Nat) (s : State) : Host.Outcome State Fault Refusal :=
  let p := tgetD s.clock.pulses pulse {}
  .next (settle (
    match pulseFirst s pulse n with
    | some x =>
      pulseOut pulse n x.2 x.1
        { s with clock := { s.clock with pulses := tset s.clock.pulses pulse x.1, pulseNew := tdel s.clock.pulseNew pulse } }
    | none =>
      match pulseTime s 0 p n with
      | some t => pulseOut pulse n t p s
      | none => s))

/-- The events of a source that a REFIN edge makes for a PULSE output, with the last 16 times, and the edges that DIVIDE selects whose pulse is still to
come (11 R459, R461). -/
def pulseSees (i t : Nat) (p : Pulse) : Pulse :=
  if p.source = i + 1 then
    let n := p.edges + 1
    let still := p.sel.filter fun (e : Nat × Nat) => decide ((t : Int) ≤ e.2 + p.offset)
    { p with edges := n, times := (p.times ++ [t]).drop (p.times.length - 15), sel := if n % p.divide = 0 then still ++ [(n, t)] else still }
  else p

/-- REFIN_TIMESTAMP (11 R463, R464): a selected edge of REFIN `i` at local time `t`. -/
def execRefinTimestamp (i t : Nat) (s : State) : Host.Outcome State Fault Refusal :=
  .next (settle (
    if !(decide (i < 4) && s.clock.pll) then s
    else
      let k := { s.clock with
        pulses := tmap (pulseSees i t) s.clock.pulses
        pulseNew := tmap (fun x => (x.1, pulseSees i t x.2)) s.clock.pulseNew }
      let s := { s with clock := k }
      let k := candAt s i
      let s := modCand i (fun k => { dueEdges (rate s) 1 k with edges := k.edges + 1, missed := 0 }) s
      if !(bit k.cfg.flags 3 && (k.edges + 1) % k.cfg.stampDiv == 0) then s
      else if k.stamps.length < 16 then modCand i (fun k => { k with stamps := k.stamps ++ [t] }) s
      else setHist 0x200 (modCand i (fun k => { k with drops := inc16 k.drops }) s)))

end Sys2Proof.Machine
end

