-- ==== Sys2Proof/Machine/FaultOps.lean ====
section
/-! DEFINITION. The Fault class (16 R611-R629). -/

namespace Sys2Proof.Machine

/-- Changes the Fault Collector. -/
def modFlt (f : Collector → Collector) (s : State) : State := { s with flt := f s.flt }

/-- The INDEX of a record's place. -/
def faultIndex (f : Collector) (k : Nat) : Nat := wrap 32 ((k : Int) - f.base)

/-- The INDEX that the oldest record held carries; the next INDEX when the log holds none. -/
def oldestFault (f : Collector) : Nat := match f.log with | [] => faultIndex f f.next | (_, b, _) :: _ => be b 0 4

/-- The FAULT_GET_STATUS payload (16 R629). -/
def faultStatus (s : State) : List Byte :=
  let f := s.flt
  toBE 1 (b2n f.fstate) ++ toBE 1 f.shed ++ toBE 2 f.recov.n ++ toBE 1 (b2n f.recov.sat) ++ toBE 2 f.ovf.n ++ toBE 1 (b2n f.ovf.sat)
    ++ toBE 4 (oldestFault f) ++ toBE 4 (faultIndex f f.next) ++ toBE 4 f.ack ++ toBE 2 f.quiet

/-- FAULT_GET_STATUS (16 R629). -/
def planFaultGetStatus : State → Req → Plan := readPlan faultStatus

def execFaultGetStatus (r : Req) (s : State) : Host.Outcome State Fault Refusal := .next (settle (execOp 0x0B01 planFaultGetStatus r s))

/-- FAULT_GET_LOG (16 R624, R629): up to 127 records, which count as returned. -/
def planFaultGetLog (_ : State) (r : Req) : Plan :=
  { len := r.params.length == 4,
    act := fun s =>
      let from_ := logPos s.flt (par r 0 4)
      let out := (s.flt.log.filter fun x => decide (from_ ≤ x.1)).take 127
      { payload := out.flatMap fun x => x.2.1,
        st := modFlt (fun f => { f with log := out.foldl (fun t x => tset t x.1 (x.2.1, x.2.2.1, true)) f.log }) s } }

def execFaultGetLog (r : Req) (s : State) : Host.Outcome State Fault Refusal := .next (settle (execOp 0x0B02 planFaultGetLog r s))

/-- FAULT_ACK (16 R613, R629). -/
def planFaultAck (_ : State) (r : Req) : Plan :=
  { len := r.params.length == 4, act := act fun s => msixFrom (intStat s) (modFlt (fun f => { f with ack := par r 0 4 }) s) }

def execFaultAck (r : Req) (s : State) : Host.Outcome State Fault Refusal := .next (settle (execOp 0x0B03 planFaultAck r s))

/-- FAULT_GET_COUNTERS (16 R629): the 256 counters of a unit, each with its flag. -/
def planFaultGetCounters (_ : State) (r : Req) : Plan :=
  { len := r.params.length == 1,
    act := give fun s => (List.range 256).flatMap fun i =>
      let c := tgetD s.flt.counts (256 * par r 0 1 + i) {}
      toBE 2 c.n ++ toBE 1 (b2n c.sat) }

def execFaultGetCounters (r : Req) (s : State) : Host.Outcome State Fault Refusal := .next (settle (execOp 0x0B04 planFaultGetCounters r s))

/-- FAULT_CLEAR (16 R624, R629): every counter and flag; the log and the capture stay. -/
def planFaultClear (_ : State) (r : Req) : Plan :=
  { len := r.params.isEmpty, act := act (modFlt fun f => { f with counts := [], ovf := {}, recov := {} }) }

def execFaultClear (r : Req) (s : State) : Host.Outcome State Fault Refusal := .next (settle (execOp 0x0B05 planFaultClear r s))

/-- Whether a REACTION byte keeps what its class demands (16 R611): nothing below the class minimum but a Degraded interrupt, and the
depth of a Fatal cause as it is. -/
def reactOk (id v : Nat) : Bool :=
  match faultClass id with
  | some 2 => v % 8 == 7
  | some 3 => v % 8 == 7 && bits v 5 3 == fatalDepth id
  | _ => true

/-- FAULT_SET_REACTION (16 R611, R629). -/
def planFaultSetReaction (_ : State) (r : Req) : Plan :=
  let id := par r 0 2
  let v := par r 2 1
  { len := r.params.length == 3,
    checks := [chk (faultClass id).isSome 0, chk (decide (v < 32)) 2, chkRel (reactOk id v)],
    act := act (modFlt fun f => { f with react := if v = defaultReact id then tdel f.react id else tset f.react id v }) }

def execFaultSetReaction (r : Req) (s : State) : Host.Outcome State Fault Refusal := .next (settle (execOp 0x0B06 planFaultSetReaction r s))

/-- FAULT_SET_QUIET (16 R614, R629). -/
def planFaultSetQuiet (_ : State) (r : Req) : Plan :=
  { len := r.params.length == 2, checks := [chk (decide (10 ≤ par r 0 2) && decide (par r 0 2 ≤ 10000)) 0],
    act := act (modFlt fun f => { f with quiet := par r 0 2 }) }

def execFaultSetQuiet (r : Req) (s : State) : Host.Outcome State Fault Refusal := .next (settle (execOp 0x0B07 planFaultSetQuiet r s))

/-- FAULT_INJECT (16 R627): Factory Test only; the occurrences are the command FAULT_INJECT_FIRE. -/
def planFaultInject (_ : State) (r : Req) : Plan :=
  { len := r.params.length == 14,
    checks := [chk (faultClass (par r 0 2)).isSome 0, chk (decide (0 < par r 2 2)) 2, chk (decide (par r 4 4 ≤ 1000000)) 4,
               chk (decide (par r 13 1 < 2)) 13],
    act := act (modFlt fun f =>
      let x : Inject := { id := par r 0 2, left := par r 2 2, gap := par r 4 4, detail := par r 8 5, allow := bit (par r 13 1) 0 }
      { f with inject := some x }) }

def execFaultInject (r : Req) (s : State) : Host.Outcome State Fault Refusal := .next (settle (execOp 0x0B0F planFaultInject r s))

end Sys2Proof.Machine
end

