-- ==== Sys2Proof/Machine/FaultRun.lean ====
section
/-! DEFINITION. Events of the Fault Collector, of the processors' watchdogs and of the tamper sources (16 R609, R614-R616, R626, R627,
14 R573-R575). -/

namespace Sys2Proof.Machine

/-- FAULT_STATE_EXIT (16 R614): QUIET has passed since the reactions of the last fault of the fault state ended. -/
def execFaultStateExit (s : State) : Host.Outcome State Fault Refusal :=
  .next (settle (
    if s.flt.fstate && decide (3 ≤ s.mode.mode) then { s with flt := { s.flt with fstate := false, recov := inc16 s.flt.recov } } else s))

/-- FAULT_INJECT_FIRE (16 R627): the next occurrence of an injection, in Factory Test. -/
def execFaultInjectFire (s : State) : Host.Outcome State Fault Refusal :=
  .next (settle (match s.flt.inject with
    | none => s
    | some x =>
      if s.mode.mode ≠ 4 ∨ x.left = 0 then s
      else
        let s := { s with flt := { s.flt with inject := if x.left = 1 then none else some { x with left := x.left - 1 } } }
        raiseX x.id x.detail {} true x.allow s))

/-- A shedding level takes effect (16 R626): level 4 freezes placement to emergency moves (05 R230). The Management Processor that changes its
level is at work, so a heartbeat that was missing is back (16 R615; DESIGN CHOICE, log entry 66). -/
def setShed (n : Nat) (s : State) : State :=
  let was := freezeNow s
  let s := { s with flt := { s.flt with shed := n, beat := true }, place := { s.place with hold := decide (4 ≤ n) } }
  let s := if freezeNow s = was then s else placeEvent 11 0 0 0xFFFF 0xFFFF (freezeNow s) s
  raise 0x0E02 n (if was = 0 then applyFreeze s else s)

/-- SHED_LEVEL_UP (16 R626). -/
def execShedLevelUp (s : State) : Host.Outcome State Fault Refusal :=
  .next (settle (if s.flt.shed < 4 ∧ 3 ≤ s.mode.mode then setShed (s.flt.shed + 1) s else s))

/-- SHED_LEVEL_DOWN (16 R626). -/
def execShedLevelDown (s : State) : Host.Outcome State Fault Refusal :=
  .next (settle (if 0 < s.flt.shed ∧ 3 ≤ s.mode.mode then setShed (s.flt.shed - 1) s else s))

/-- A fault whose reset has a cause bit of its own (17 R631, R638): the relinquish it asks for, then one reset at a depth. -/
def faultReset (id detail depth cause : Nat) (s : State) : State :=
  let s := raise id detail s
  let d := max depth s.flt.due
  let r := s.flt.rel
  let s := { s with flt := { s.flt with due := 0, rel := 0 } }
  let s := if r ≠ 0 && canRelinquish s then relinquish r s else s
  resetNow d cause s

/-- MGMT_WATCHDOG (16 R609, 17 R631): a System reset. -/
def execMgmtWatchdog (s : State) : Host.Outcome State Fault Refusal :=
  .next (settle (if 2 ≤ s.mode.mode ∧ !s.boot.halted then faultReset 0x0E01 0 depthSystem 0x80 s else s))

/-- CP_WATCHDOG (16 R609, 01 R18): the Command Processor alone restarts; its queues in H16 and the audio stay as they are. -/
def execCpWatchdog (s : State) : Host.Outcome State Fault Refusal :=
  .next (settle (if 2 ≤ s.mode.mode ∧ !s.boot.halted ∧ (s.cp.started || s.mode.mode ≠ 2) then raise 0x0D03 0 s else s))

/-- ALIVE_WATCH_TIMEOUT (16 R615): 1 ms without a tick, or without a heartbeat of the Management Processor. -/
def execAliveWatchTimeout (tick : Bool) (s : State) : Host.Outcome State Fault Refusal :=
  .next (settle { s with flt := { s.flt with tickOk := if tick then false else s.flt.tickOk, beat := if tick then s.flt.beat else false } })

/-- ALIVE_QUIET_EXPIRY (16 R616). -/
def execAliveQuietExpiry (s : State) : Host.Outcome State Fault Refusal := .next (settle { s with flt := { s.flt with aQuiet := false } })

/-! ## Tamper -/

/-- The response of a tamper source (14 R574). -/
def tamperResp (s : State) (src : Nat) : Nat := if src = 1 then s.sec.resp1 else if src = 2 then s.sec.resp2 else s.sec.resp3

/-- A tamper source leaves its normal state (14 R569, R573-R575, 17 R638): it fires once until it is re-armed. -/
def tamper (src : Nat) (s : State) : State :=
  let s := modSec (fun c => { c with level := c.level ||| 2 ^ src }) s
  if bit s.sec.fired src then s
  else
    let s := modSec (fun c => { c with fired := c.fired ||| 2 ^ src }) s
    let s := { s with boot := { s.boot with cause := s.boot.cause ||| 0x1000 } }
    match tamperResp s src with
    | 0 => auditEvent 1 src s
    | 1 => raise 0x1101 src (auditEvent 1 src s)
    | _ => raise 0x1102 src (auditEvent 2 src (wipeRoles (auditEvent 1 src s)))

/-- TAMPER_DETECT (14 R573, R574). -/
def execTamperDetect (src : Nat) (s : State) : Host.Outcome State Fault Refusal :=
  .next (settle (if s.mode.mode ≠ 0 ∧ rng 1 3 src then tamper src s else s))

/-- TAMPER_REARM (14 R574): a source has been normal for 1 s. -/
def execTamperRearm (src : Nat) (s : State) : Host.Outcome State Fault Refusal :=
  .next (settle (
    if rng 1 3 src then
      let off := fun (v : Nat) => ofBits ((bitList v 4).filter (· != src))
      modSec (fun c => { c with level := off c.level, fired := off c.fired }) s
    else s))

end Sys2Proof.Machine
end

