-- ==== Sys2Proof/Machine/PairEvents.lean ====
section
/-! DEFINITION. Pairing at work: the pair frames that arrive, the timers, and the steps of a resynchronisation (15 R577-R605). -/

namespace Sys2Proof.Machine

/-! ## Accepting a pair frame (15 R583-R586) -/

/-- Whether a frame's AUTH matches under the pair key. -/
def pairAuth (s : State) (f : List Byte) : Bool :=
  let p := framePayload f
  let n := 16 + be p 2 2
  !s.pair.key.isEmpty && (p.drop n).take 16 == auth16 s.pair.key ((f.drop 18).take 16 ++ p.take n)

/-- Whether (BOOT, PAIR_SEQ) is higher than that of every message accepted. -/
def pairNew (s : State) (boot seq : Nat) : Bool :=
  decide (s.pair.seenBoot < boot) || (s.pair.seenBoot == boot && match s.pair.seenSeq with | some q => decide (q < seq) | none => true)

/-- A Beat on one of the pair paths keeps that path up (15 R586). -/
def pathHeard (port : Nat) (s : State) : State :=
  modPair (fun p => { p with pathUpA := p.pathUpA || p.cfg.pathA == port, pathUpB := p.pathUpB || p.cfg.pathB == port }) s

/-- The body of a message once its fragments are all there, in order. -/
def joinBody (n : Nat) (l : List (Nat × List Byte)) : Option (List Byte) :=
  if (List.range n).all fun i => l.any fun x => x.1 == i then
    some ((List.range n).flatMap fun i => ((l.find? fun x => x.1 == i).map (·.2)).getD [])
  else none

/-- A pair frame for this node: authenticated, from the partner, new; `use` takes the PAIR_SEQ and the whole body of its message. -/
def pairIn (port msg : Nat) (f : List Byte) (use : Nat → List Byte → State → State) (s : State) : State :=
  let p := framePayload f
  let rejected := modPair (fun x => { x with reject := inc16 x.reject }) s
  if !paired s then s
  else if frameType f ≠ 3 ∨ byteAt p 0 ≠ msg then s
  else if frameSource f ≠ s.pair.cfg.partner ∨ !pairAuth s f then rejected
  else
    let s := if msg = 1 then pathHeard port s else s
    let seq := be p 4 4
    let boot := be p 14 2
    if !pairNew s boot seq then modPair (fun x => { x with reject := inc16 x.reject }) s
    else
      let part := (byteAt p 1 / 16, (p.drop 16).take (be p 2 2))
      let old := match s.pair.frag with | some (q, l) => if q = seq then l else [] | none => []
      let got := if old.any fun x => x.1 == part.1 then old else old ++ [part]
      match joinBody (byteAt p 1 % 16) got with
      | none => modPair (fun x => { x with frag := some (seq, got) }) s
      | some body => use seq body (modPair (fun x => { x with frag := none, seenBoot := boot, seenSeq := some seq }) s)

/-- A pair frame on a link port. -/
def pairFrame (port msg : Nat) (frame : List Byte) (fcs : Nat) (use : Nat → List Byte → State → State) (s : State) : State :=
  frameIn port 3 frame (fcsGood frame fcs) (pairIn port msg frame use) s

/-! ## Beats -/

/-- The node enters Run-Shadow in the state Joining at bring-up (15 R582, R600). A node that is Refused stays so and does not join (15 R577;
DEDUCED, log entry 61). -/
def beginShadow (s : State) : State :=
  let s := modPair (fun p => { p with listen := 0 }) (setMode 7 s)
  if s.pair.state = 5 then s else startJoin s

/-- The node enters Run-Active at bring-up; a paired one is Active, unless it is Refused (15 R577, R579, R582). -/
def beginActive (s : State) : State :=
  let s := setPair (if !paired s then 0 else if s.pair.state = 5 then 5 else 1) 0 (setMode 6 s)
  modPair (fun p => { p with listen := 0, actOut := true }) s

/-- A Beat of the partner, in the layout of `beatBody` (15 R577, R582, R584, R588, R590, R598; log entry 28). -/
def beatIn (b : List Byte) (s : State) : State :=
  let m := byteAt b 0
  let s := modPair (fun p => { p with pMode := m, pState := byteAt b 1, actIn := p.actIn || m == 6,
                                      pCheck := if byteAt b 16 = 1 then some (be b 17 6, be b 23 4) else p.pCheck }) s
  let s := if s.pair.state ≠ 5 ∧ (byteAt b 2 ≠ variantCode s.part.variant ∨ be b 3 4 ≠ s.boot.fwVer) then raise 0x0F01 0 (setPair 5 0 s) else s
  let s := if s.pair.listen ≠ 0 ∧ m = 6 then beginShadow s else s
  let s := if s.mode.mode = 6 ∧ m = 6 ∧ s.pair.noRel ∧ !s.pair.fallBack then raise 0x0F05 0 (modPair (fun p => { p with fallBack := true }) s) else s
  let s := if byteAt b 11 = 1 ∧ s.mode.mode = 7 ∧ (s.pair.state = 2 ∨ s.pair.state = 3) then unsynced 1 s else s
  compareCheck s

/-- BEAT (15 R584). -/
def execBeat (port : Nat) (frame : List Byte) (fcs : Nat) (s : State) : Host.Outcome State Fault Refusal :=
  .next (settle (pairFrame port 1 frame fcs (fun _ => beatIn) s))

/-! ## Mirrors and Acks (13 R533-R536, 15 R588) -/

/-- The request in the body of a Mirror, in the layout of `mirrorBody` (log entry 22). -/
def mirrorReq (seq : Nat) (b : List Byte) : Req :=
  let n := be b 6 2
  { src := .pair, ret := (seq, 0), ver := byteAt b 0, flags := byteAt b 1, opcode := be b 2 2, tag := be b 4 2, seq := be b 8 4,
    role := byteAt b 12, slot := byteAt b 13, applyAt := be b 16 8, params := (b.drop 24).take n, acc := be b (24 + n) 8,
    made := if be b (32 + n) 2 = 0xFFFF then none else some (be b (32 + n) 2) }

/-- A mirrored request enters its queue with the Active's acceptance number, past which the node's own count goes on (13 R529, R534). -/
def enqueueMirror (r : Req) (s : State) : State := putInQueue r { s with cp := { s.cp with acc := max s.cp.acc r.acc } }

/-- A Mirror at the Shadow: executed once, a copy sent again only acknowledged again; one whose apply-at boundary has begun makes the
Shadow Unsynced. -/
def mirrorIn (seq : Nat) (b : List Byte) (s : State) : State :=
  let r := mirrorReq seq b
  if s.mode.mode ≠ 7 ∨ !isMirrored r.opcode then s
  else match tget s.pair.doneMir r.acc with
    | some st => sendAck r st s
    | none =>
      if (s.cp.p0 ++ s.cp.p1 ++ s.cp.p2 ++ s.cp.p3).any fun x => x.src == .pair && x.acc == r.acc then s
      else
        let late := r.applyAt != 0 && !bit r.applyAt 63 && decide (r.applyAt ≤ cal s) && (s.pair.state == 2 || s.pair.state == 3)
        let s := if late then unsynced 2 s else s
        if queueCap (queueOf r) ≤ queueLen s (queueOf r) then sendAck r QUEUE_FULL s else enqueueMirror r s

/-- MIRROR (15 R588). -/
def execMirror (port : Nat) (frame : List Byte) (fcs : Nat) (s : State) : Host.Outcome State Fault Refusal :=
  .next (settle (pairFrame port 2 frame fcs mirrorIn s))

/-- An Ack: of a Mirror, whose status is compared and a difference reported in the next Beat, or of a Partner reset, which the issuer
answers (15 R588, R605). -/
def ackIn (b : List Byte) (s : State) : State :=
  let seq := be b 0 4
  let st := be b 4 2
  match s.cp.partner.find? fun w => w.node == seq with
  | some w =>
    let s := { s with cp := { s.cp with partner := s.cp.partner.filter fun x => x.req.acc != w.req.acc } }
    finish w.req (if st = OK then OK else MODE_DENIED) 0 0 false (w.forced && st == OK) [] s
  | none =>
    match s.pair.out.find? fun m => m.seq == seq with
    | some m =>
      modPair (fun p => { p with out := p.out.filter fun x => x.seq != seq,
                                 diff := match m.status with | some a => if a = st then p.diff else some seq | none => p.diff }) s
    | none => s

/-- ACK (15 R588, R605). -/
def execAck (port : Nat) (frame : List Byte) (fcs : Nat) (s : State) : Host.Outcome State Fault Refusal :=
  .next (settle (pairFrame port 3 frame fcs (fun _ => ackIn) s))

/-- MIRROR_RESEND (15 R588): under a new PAIR_SEQ, since a message is accepted only when its number is higher (DEDUCED). -/
def execMirrorResend (seq : Nat) (s : State) : Host.Outcome State Fault Refusal :=
  .next (settle (match s.pair.out.find? fun m => m.seq == seq with
    | none => s
    | some m =>
      if m.due ≠ 0 ∧ bit m.due 63 = false ∧ m.due ≤ cal s then modPair (fun p => { p with out := p.out.filter fun x => x.seq != seq }) s
      else
        let q := s.pair.seq
        let s := sendPair 2 m.bytes s
        modPair (fun p => { p with lastMir := q, out := p.out.map fun x => if x.seq = seq then { x with seq := q } else x }) s))

/-! ## Relinquish -/

/-- A Relinquish at a Ready Shadow (15 R595, R596); one that arrives after H has begun counts as late. -/
def relinquishIn (b : List Byte) (s : State) : State :=
  let h := be b 0 6
  if s.mode.mode = 7 ∧ s.pair.state = 3 then
    modPair (fun p => { p with takeAt := some h, lateRel := if h ≤ cal s then inc16 p.lateRel else p.lateRel }) s
  else s

/-- RELINQUISH (15 R596). -/
def execRelinquish (port : Nat) (frame : List Byte) (fcs : Nat) (s : State) : Host.Outcome State Fault Refusal :=
  .next (settle (pairFrame port 4 frame fcs (fun _ => relinquishIn) s))

/-! ## Vigils -/

/-- The body of a Vigil (15 R593). -/
def vigilBody (s : State) : List Byte :=
  let p := s.pair
  let sat16 := fun (n : Nat) => toBE 2 (min 0xFFFF n)
  let bad := (s.eng.engines.filter fun e => e.2.pst == 2 || e.2.pst == 3).length
  toBE 1 p.state ++ toBE 1 p.reason ++ sat16 p.sPass ++ sat16 p.sFail ++ sat16 bad ++ sat16 p.misses ++ sat16 p.severe ++ toBE 6 p.chkTick
    ++ toBE 1 (b2n p.chkOk) ++ toBE 1 0 ++ sat16 p.joined ++ sat16 p.toJoin

/-- VIGIL_TIMER (15 R592, R593). -/
def execVigilTimer (s : State) : Host.Outcome State Fault Refusal :=
  .next (settle (
    if s.mode.mode = 7 then
      modPair (fun p => { p with sPass := 0, sFail := 0, misses := 0, severe := 0 }) (sendPair 5 (vigilBody s) s)
    else s))

/-- VIGIL (15 R592, R593). -/
def execVigil (port : Nat) (frame : List Byte) (fcs : Nat) (s : State) : Host.Outcome State Fault Refusal :=
  .next (settle (pairFrame port 5 frame fcs (fun _ b t => if t.mode.mode = 6 then modPair (fun p => { p with vigil := fit 24 b, vigilOk := true, absent := false }) t else t) s))

/-- VIGIL_TIMEOUT (15 R592): 300 ms without a Vigil, also where none has come yet; once for each absence of the Shadow (DEDUCED, log entry 61). -/
def execVigilTimeout (s : State) : Host.Outcome State Fault Refusal :=
  .next (settle (
    if s.mode.mode == 6 && s.pair.state == 1 && !s.pair.absent then raise 0x0F03 0 (modPair (fun p => { p with vigilOk := false, absent := true }) s)
    else s))

/-! ## Paths, the PAIR_ACT wires and listening -/

/-- PAIR_PATH_TIMEOUT (15 R586): 1 ms without a Beat on PATH_A or, with `b`, on PATH_B, which may never have been up. -/
def execPairPathTimeout (b : Bool) (s : State) : Host.Outcome State Fault Refusal :=
  .next (settle (
    if !paired s then s
    else
      let s := modPair (fun p => if b then { p with pathUpB := false } else { p with pathUpA := false }) s
      if s.mode.mode = 7 ∧ !s.pair.pathUpA ∧ !s.pair.pathUpB ∧ (s.pair.state = 2 ∨ s.pair.state = 3) then unsynced 4 s else s))

/-- PAIR_ACT_IN_LOW (15 R596): a Ready Shadow takes over at the next boundary; one that is not raises a Severe fault. -/
def execPairActInLow (s : State) : Host.Outcome State Fault Refusal :=
  .next (settle (
    if !s.pair.actIn then s
    else
      let s := modPair (fun p => { p with actIn := false }) s
      if s.mode.mode ≠ 7 then s
      else if s.pair.state = 3 then modPair (fun p => { p with takeNow := true }) s
      else raise 0x0F04 0 s))

/-- PAIR_LISTEN_TIMEOUT (15 R582); `high`: the level of PAIR_ACT_IN. A Beat of an Active partner has ended the listening before. -/
def execPairListenTimeout (high : Bool) (s : State) : Host.Outcome State Fault Refusal :=
  let s' := modPair (fun p => { p with actIn := high }) s
  .next (settle (
    if s.pair.listen = 0 then s
    else if high then beginShadow s'
    else if s.pair.listen = 1 ∧ s.pair.cfg.rank = 1 then modPair (fun p => { p with listen := 2 }) s'
    else beginActive s'))

/-! ## Partner reset (15 R605) -/

/-- A Partner reset message: acknowledged first, and performed in Run-Shadow only. -/
def partnerResetIn (seq : Nat) (b : List Byte) (s : State) : State :=
  if s.mode.mode = 7 then
    resetNow (resetDepth (byteAt b 0)) 0x400 (sendPair 3 (toBE 4 seq ++ toBE 2 OK) s)
  else sendPair 3 (toBE 4 seq ++ toBE 2 MODE_DENIED) s

/-- PARTNER_RESET (15 R605). -/
def execPartnerReset (port : Nat) (frame : List Byte) (fcs : Nat) (s : State) : Host.Outcome State Fault Refusal :=
  .next (settle (pairFrame port 8 frame fcs partnerResetIn s))

/-- PARTNER_RESET_TIMEOUT (15 R605): the SYS_RESET with an acceptance number. -/
def execPartnerResetTimeout (acc : Nat) (s : State) : Host.Outcome State Fault Refusal :=
  .next (settle (match s.cp.partner.find? fun w => w.req.acc == acc with
    | none => s
    | some w => finish w.req BUSY 0 0 false false [] { s with cp := { s.cp with partner := s.cp.partner.filter fun x => x.req.acc != acc } }))

/-! ## Resynchronisation (15 R600-R602) -/

/-- RESYNC_REQUEST at the Active (15 R600, R601). -/
def execResyncRequest (port : Nat) (frame : List Byte) (fcs : Nat) (s : State) : Host.Outcome State Fault Refusal :=
  .next (settle (pairFrame port 6 frame fcs (fun _ _ t => if t.mode.mode = 6 ∧ t.pair.state = 1 then serveJoin t else t) s))

/-- A chain of the Active joins: its state replaces that of the same chain of the Shadow, or it is loaded and, unless it is Loading, placed on this
node (15 R601 step 3). One that runs does so from sample tick `first`. -/
def joinChain (h first : Nat) (c : Chain) (x : Option ChainCfg) (s : State) : State :=
  let live := fun (t : State) => match x with
    | some x => { t with pipe := { t.pipe with live := { t.pipe.live with chains := tset t.pipe.live.chains h { x with first := first } } } }
    | none => t
  let at_ := if x.isSome then some first else c.first
  let done := modPair (fun p => { p with joined := p.joined + 1, joinAt := max p.joinAt first })
  let own := chainD s h
  if thas s.eng.chains h ∧ own.desc = c.desc ∧ own.image = c.image ∧ (own.st = 1 ↔ c.st = 1) then
    done (live (modChain h (fun o => { o with blk := c.blk, poison := c.poison, params := c.params, delays := c.delays, taps := c.taps, stop := c.stop,
                                              parked := c.parked, quiet := c.quiet, first := at_ }) s))
  else
    let s := if thas s.eng.chains h then freeChain h s else s
    let n : Chain :=
      { st := if c.st = 5 then 3 else c.st, prev := c.prev, stop := c.stop, desc := c.desc, image := c.image, codeGot := c.codeGot, init := c.init, blk := c.blk,
        poison := c.poison, params := c.params, delays := c.delays, taps := c.taps, parked := c.parked, quiet := c.quiet, first := at_, ran := c.ran }
    let t := { s with eng := { s.eng with chains := tset s.eng.chains h n } }
    if c.st = 1 then done t
    else match admitTo t h with
      | some e => done (live (putOn e h t))
      | none => s

/-- The Active's ramp contexts, `e` sample ticks on; a column for which the Shadow has bound a set from S on keeps its own (15 R601 step 2). -/
def rampsFrom (e : Nat) (theirs own : Tab Ramp) : Tab Ramp :=
  theirs.foldl (fun t x => if thas own x.1 then t else tset t x.1 { x.2 with pos := if x.2.on then x.2.pos + e else x.2.pos }) own

/-- The staged records of the Active that the Shadow does not hold yet, as mirrored ones, which it does not answer (15 R601 step 1). -/
def joinStaged (own theirs : List Staged) : List Staged :=
  let mirrored := theirs.map fun g => { g with req := { g.req with src := .pair }, quiet := true, mirr := false }
  mirrored.filter fun g => !(own.any fun o => sameReq o.req g.req)

/-- The capture settings and recordings of the Active (15 R601). -/
def joinCap (cfg : Cfg) (set : Snapshot) (c : Capture) : Capture :=
  let fills := tmap (fun (x : ReplayRun) => ({ filled := x.filled } : ReplayRun)) c.replays
  { c with
    replays := cfg.replays.foldl (fun t r => tmod t r.1 {} fun x => { x with st := 2 }) fills,
    recNo := max c.recNo (lmax (cfg.recs.map fun r => r.2.number)), policy := set.capPolicy,
    jobs := tmapK (fun i (j : Job) => { j with gaps := (tgetD c.jobs i {}).gaps,
                                               number := match tget cfg.recs i with | some r => r.number | none => (tgetD c.jobs i {}).number }) set.jobs }

/-- The ports and flows that the Active's configuration changes start as after the command that sets them (09 R336, R342, 10 R392). -/
def joinPorts (own cfg : Cfg) (s : State) : State :=
  let sp := cfg.sp.map fun x => (x.1, if tget own.sp x.1 = some x.2 then tgetD s.ports.sp x.1 {} else ({ state := spStart x.2 } : SpSt))
  let ae := cfg.ae.map fun x => (x.1, if tget own.ae x.1 = some x.2 then tgetD s.ports.ae x.1 {} else ({ state := b2n (bit x.2.flags 0) } : AeSt))
  { s with ports := { s.ports with sp := sp, ae := ae }, links := { s.links with flows := cfg.flowIn.map fun x => (x.1, tgetD s.links.flows x.1 {}) } }

/-- What a part of a resynchronisation does at the Shadow. The settings of what is not mirrored, such as link ports, clock and tables of the service
network, are each node's own (10 R417, 13 R533). A chain that the Active does not have leaves (DEDUCED, log entry 61). -/
def loadPart (d : Resync) (s : State) : State :=
  match d with
  | .tables snap cfg set hs nodes staged =>
    let s := ((s.eng.chains.map (·.1)).filter fun h => !hs.contains h).foldl (fun t h => freeChain h t) s
    let s := if cfg.rate = rate s ∧ cfg.n = tickN s then s else newTimebase (cal s + 1) (cal s + 1) s
    let s := restoreLines set.lines (joinPorts s.pipe.live cfg s)
    let s := modPair (fun p => { p with state := 2, reason := 0, step := 1, loaded := 1, snap := snap, joined := 0, toJoin := hs.length,
                                        checks := 0, joinAt := cal s, recd := [], behind := none }) s
    { s with pipe := { s.pipe with live := { cfg with links := s.pipe.live.links, chains := s.pipe.live.chains.filter fun x => hs.contains x.1,
                                                      recs := cfg.recs.map fun r => (r.1, { r.2 with first := snap }) } },
             cap := joinCap cfg set s.cap, ports := { s.ports with slp := { s.ports.slp with mclk := set.mclk } },
             links := { s.links with groups := set.groups },
             sward := { s.sward with nodes := nodes, ramps := [] }, gate := { s.gate with staged := s.gate.staged ++ joinStaged s.gate.staged staged } }
  | .blocks fixed ramps =>
    if s.pair.loaded ≠ 1 then s
    else
      let k := match stageTick s 1 with | some k => k | none => cal s
      modPair (fun p => { p with loaded := 2, behind := some fixed }) { s with sward := { s.sward with ramps := rampsFrom (k + 1 - s.pair.snap) ramps s.sward.ramps } }
  | .chain h t c x => joinChain h t c x s

/-- RESYNC_DATA (15 R601): the frame, and the part it completes. -/
def execResyncData (port : Nat) (frame : List Byte) (fcs : Nat) (part : Resync) (s : State) : Host.Outcome State Fault Refusal :=
  .next (settle (pairFrame port 7 frame fcs (fun _ _ t =>
    if t.mode.mode = 7 ∧ (t.pair.state = 2 ∨ t.pair.state = 4) ∧ !t.pair.paused then loadPart part t else t) s))

/-- RESYNC_REQUEST_TIMER (15 R600). -/
def execResyncRequestTimer (s : State) : Host.Outcome State Fault Refusal :=
  .next (settle (
    if s.mode.mode = 7 ∧ (s.pair.state = 2 ∨ s.pair.state = 4) ∧ !s.pair.paused then sendPair 6 [] s else s))

/-- Whether the longest delay line and 15 ticks of align delay have elapsed since the last chain joined (15 R601 step 4). -/
def linesFilled (s : State) : Bool :=
  decide (s.pair.joinAt * tickN s + lmax (s.lines.tab.map fun l => l.2.len) + 15 * tickN s ≤ cal s * tickN s)

/-- Whether the step in progress at the Shadow is complete (15 R601). -/
def stepComplete (s : State) : Bool :=
  match s.pair.step with
  | 1 => decide (1 ≤ s.pair.loaded)
  | 2 => decide (2 ≤ s.pair.loaded) && s.pair.behind.isNone
  | 3 => decide (s.pair.toJoin ≤ s.pair.joined)
  | 4 => linesFilled s
  | 5 => decide (16 ≤ s.pair.checks)
  | _ => false

/-- The Active goes on to its next step. In step 3 chain after chain joins, each once its final copy is complete or it is no longer there; the
last message for a chain names the sample tick T from which the Shadow runs it. -/
def serveNext (s : State) : State :=
  let p := s.pair
  let head := fun (n h k : Nat) (t : State) => sendPair 7 (toBE 1 n ++ toBE 6 p.snap ++ toBE 2 h ++ toBE 6 k) t
  let from_ := fun (t : State) =>
    let t := modPair (fun p => { p with step := 3 }) t
    match joiningChain t with
    | some h => startJoinOf h t
    | none => modPair (fun p => { p with step := 0 }) t
  match p.step with
  | 1 => head 2 0 0 (modPair (fun p => { p with step := 2 }) s)
  | 2 => from_ s
  | 3 =>
    match joiningChain s with
    | some h =>
      if p.join.phase = 2 then from_ (modPair (fun p => { p with joined := p.joined + 1, serve := p.serve.filter (· != h) }) (head 3 h p.join.commit s)) else s
    | none => modPair (fun p => { p with step := 0 }) s
  | _ => s

/-- RESYNC_STEP_DONE (15 R601): on the Shadow the last step leads to Ready. -/
def execResyncStepDone (s : State) : Host.Outcome State Fault Refusal :=
  .next (settle (
    if s.mode.mode = 6 ∧ s.pair.state = 1 then serveNext s
    else if s.mode.mode = 7 ∧ s.pair.state = 2 ∧ stepComplete s then
      if s.pair.step = 5 then modPair (fun p => { p with state := 3, reason := 0, step := 0, failed := 0 }) s
      else modPair (fun p => { p with step := p.step + 1, checks := if p.step = 4 then 0 else p.checks }) s
    else s))

/-- RESYNC_TIMEOUT (15 R602): not Ready in time, or a step failed. The third failure in a row raises the fault, and the node waits. -/
def execResyncTimeout (s : State) : Host.Outcome State Fault Refusal :=
  .next (settle (
    if !(s.mode.mode = 7 ∧ s.pair.state = 2) then s
    else
      let n := s.pair.failed + 1
      let s := modPair (fun p => { p with state := 4, reason := 5, step := 0, loaded := 0, failed := n, paused := decide (3 ≤ n) }) s
      if 3 ≤ n then raise 0x0F02 5 s else sendPair 6 [] s))

end Sys2Proof.Machine
end

