-- ==== Sys2Proof/Machine/PowerRun.lean ====
section
/-! DEFINITION. Events of the rails, of PWRFAIL_N, of AVSBus and of Dormant (18 R662-R677, 17 R634, R635, 20 R723). -/

namespace Sys2Proof.Machine

/-- Cause bit of a brown-out (17 R638). -/
def railCause (r : Nat) : Nat :=
  if r = railVcore then 2 else if r = railVsram then 4 else if r = railVddq ∨ r = railVdd2h then 8
  else if r = railVsd ∨ r = railVsdh then 0x10 else 0x20

/-- Updates the hold in reset (17 R634-R636, 20 R723). -/
def holdReset (s : State) : State := modBoot (fun b => { b with halted := b.rising || b.pinLow || b.hot }) s

/-! ## VAON -/

/-- The KD9 goes Off: nothing but MRAM, the drives and the Sealed Meter keeps its state (01 R36, 18 R662). -/
def goOff (s : State) : State :=
  let t := resetTo depthCold 0 s
  modBoot (fun b => { b with halted := true, cause := 0, depth := 0, once := false, hot := false, rising := false })
    { t with mode := { mode := 0, prev := s.mode.mode }, pair := { t.pair with boot := s.pair.boot }, flt := { t.flt with ff := {}, fstate := false } }

/-- VAON_LOSS (01 R36). -/
def execVaonLoss (s : State) : Host.Outcome State Fault Refusal := .next (settle (if s.mode.mode = 0 then s else goOff s))

/-- POWER_ON_RESET (17 R635, R639, 16 R614, R617, 20 R723): VAON becomes valid, so what ran before is lost. The operands are the levels of
BOOT_SEL, CLK_MODE and TEST_EN. -/
def powerOn (bootSel clkMode : Nat) (testEn : Bool) (s : State) : State :=
  let s := resetTo depthCold 0 (goOff s)
  holdReset (modBoot (fun b => { b with cause := 1, rising := true, pinBoot := bootSel % 4, pinClk := clkMode % 4, testEn := testEn })
    { s with power := { s.power with lastShut := 2 } })

def execPowerOnReset (bootSel clkMode : Nat) (testEn : Bool) (s : State) : Host.Outcome State Fault Refusal :=
  .next (settle (powerOn bootSel clkMode testEn s))

/-! ## Rails -/

/-- Whether the shut-down sequence runs or the node is Parked (18 R674). -/
def shutting (s : State) : Bool := s.power.seq != 0 || s.mode.parked

/-- A rail browns out (18 R662, R674, R675, 16 R609, 17 R631). While the rails come up the command is of a rail that had passed its level, since
one that is still rising causes no reset (20 R723; DEDUCED, log entry 33). -/
def brownOut (r : Nat) (s : State) : State :=
  if s.mode.mode = 0 ∨ 13 < r ∨ meterRail r then s
  else if r = railVaon then goOff s
  else if shutting s then
    let p := s.power
    let s := { s with power := { p with broke := if p.seq = 0 then p.broke else p.broke ||| 2 ^ r,
                                        dramOut := p.dramOut || (s.mode.parked && (r == railVddq || r == railVdd2h)) } }
    raiseX 0x1001 r {} false false s
  else faultReset 0x1001 r (railDepth s r) (railCause r) s

/-- BROWN_OUT (18 R662). -/
def execBrownOut (rail : Nat) (s : State) : Host.Outcome State Fault Refusal := .next (settle (brownOut rail s))

/-! ## PWRFAIL_N -/

/-- PWRFAIL_N during bring-up, or low when it would begin: the node parks, with delay memory in self-refresh when it has been trained
(18 R676, 20 R723). -/
def parkBringUp (s : State) : State := enterDormant (s.mem.ready || s.mem.selfRef) true s

/-- Bring-up goes on past step 1 only while PWRFAIL_N is high. -/
def bringUpGate (s : State) : State :=
  if bringingUp s && !s.boot.halted && decide (1 < s.boot.step) && s.power.pwrLow then parkBringUp s else s

/-- RAILS_SETTLED (20 R723). -/
def execRailsSettled (s : State) : Host.Outcome State Fault Refusal :=
  .next (settle (if s.boot.rising then bringUpGate (holdReset (modBoot (fun b => { b with rising := false }) s)) else s))

/-- The staged records due after boundary `t` leave the Commit Gate with BUSY, and commits freeze after it (18 R672 step 1). -/
def dropStaged (t : Nat) (s : State) : State :=
  let stays := fun (g : Staged) => decide (g.due ≤ t)
  let out := s.gate.staged.filter fun g => !stays g
  out.foldl (fun t g => if g.quiet then t else reply g.req g.key false BUSY 0 0 g.mirr false [] t)
    { s with gate := { s.gate with staged := s.gate.staged.filter stays, frozen := true, lastT := t } }

/-- What the last boundary left in the Commit Gate, or never came to, leaves it with BUSY. -/
def dropRest (s : State) : State :=
  let out := s.gate.staged
  out.foldl (fun t g => if g.quiet then t else reply g.req g.key false BUSY 0 0 g.mirr false [] t) { s with gate := { s.gate with staged := [] } }

/-- The shut-down sequence begins (18 R672): commits freeze after the boundary that ends the tick in progress, the last to bind sets, a paired Active relinquishes, the Drive Modulator soft-mutes, an open
firmware transfer ends, and recording ends at the capture tick in progress. -/
def beginShutdown (s : State) : State :=
  let s := dropStaged (cal s + 1) s
  let s := if canRelinquish s then relinquish 0 s else s
  let mute := fun (c : DrvCh) => { c with run := if c.run = 2 ∨ c.run = 3 then 4 else c.run }
  let s := modModulator (fun d => { d with ch := tmap mute d.ch }) s
  let s := modBoot (fun b => { b with imgA := resetImage b.imgA, imgB := resetImage b.imgB }) s
  let s := { retireAll (cal s) s with power := { s.power with seq := 1, broke := 0, back := false } }
  { s with pipe := { s.pipe with live := { s.pipe.live with recs := [] } } }

/-- PWRFAIL (18 R672, R676): PWRFAIL_N has been low for 1 us. -/
def powerFail (s : State) : State :=
  let s := { s with power := { s.power with pwrLow := true } }
  if bringingUp s then (if s.boot.halted then s else parkBringUp s)
  else if 3 ≤ s.mode.mode ∧ s.power.seq = 0 then beginShutdown s
  else s

def execPwrfail (s : State) : Host.Outcome State Fault Refusal := .next (settle (if s.mode.mode = 0 then s else powerFail s))

/-- A node that leaves Dormant by a Warm reset (17 R631, R634, 18 R675). -/
def warmStart (cause : Nat) (s : State) : State := resetNow depthWarm cause s

/-- Whether every rail of a list held through the shut-down sequence. -/
def held (s : State) (rails : List Nat) : Bool := rails.all fun r => !bit s.power.broke r

/-- The end of the shut-down sequence, steps 2 to 6 (18 R672-R675): each step whose rails held, then Parked. -/
def endShutdown (s : State) : State :=
  let rails2 := [railVcore, railVsram, railVddq, railVdd2h, railVsd, railVsdh]
  let ok2 := held s rails2
  let ok3 := ok2 && held s [railVnv]
  let ok4 := held s [railVcore, railVddq, railVdd2h]
  let s := dropRest s
  let s := if ok2 then flushAll s else { s with cap := { s.cap with groups := [] } }
  let s := if ok3 then
      putSupers { s with cap := { s.cap with drives := tmap (fun (v : Drive) => if v.state = 2 then { v with clean := true } else v) s.cap.drives } }
    else s
  let clean := ok2 && ok3 && ok4
  let back := s.power.back
  let s := enterDormant ok4 true { s with power := { s.power with seq := 0, clean := clean, lastShut := b2n (!clean) } }
  if back then warmStart 0x2000 s else s

/-- SHUTDOWN_CAPTURE_DONE (18 R672). -/
def execShutdownCaptureDone (s : State) : Host.Outcome State Fault Refusal := .next (settle (if s.power.seq ≠ 0 then endShutdown s else s))

/-- SUPPLY_RETURN (18 R675): PWRFAIL_N has been high for 10 ms. -/
def supplyReturn (s : State) : State :=
  let s := { s with power := { s.power with pwrLow := false } }
  if s.power.seq ≠ 0 then { s with power := { s.power with back := true } }
  else if s.mode.parked then warmStart 0x2000 s
  else s

def execSupplyReturn (s : State) : Host.Outcome State Fault Refusal := .next (settle (if s.mode.mode = 0 then s else supplyReturn s))

/-! ## AVSBus -/

/-- AVS_REQUEST (18 R665): 50 us after the last request, the latest that waits is sent. -/
def execAvsRequest (s : State) : Host.Outcome State Fault Refusal :=
  .next (settle (match s.power.pend with | some v => if 2 ≤ s.mode.mode then sendAvs v s else s | none => s))

/-- AVS_SLEW_DONE (18 R665, R666, R669): the regulator reports completion, and the new speed counts. -/
def execAvsSlewDone (s : State) : Host.Outcome State Fault Refusal :=
  let p := s.power
  .next (settle (if p.slew ∧ 2 ≤ s.mode.mode then { s with power := { p with slew := false, setp := p.sent, low := p.sent } } else s))

/-- AVS_TIMEOUT (18 R666): the last requested set point is held. -/
def execAvsTimeout (s : State) : Host.Outcome State Fault Refusal :=
  let p := s.power
  .next (settle (if p.slew ∧ 2 ≤ s.mode.mode then
    raise 0x1003 0 { s with power := { p with noResp := true, pend := none, target := p.sent } } else s))

/-! ## Thermal trip, RESET_N, TEST_EN and the wake pattern -/

/-- THERMAL_TRIP (18 R677, 17 R634): the node stays in reset until it has cooled. The sensor's number is the DETAIL (log entry 32). -/
def execThermalTrip (sensor : Nat) (s : State) : Host.Outcome State Fault Refusal :=
  .next (settle (if s.mode.mode = 0 then s else holdReset (modBoot (fun b => { b with hot := true }) (faultReset 0x1002 sensor depthSystem 0x800 s))))

/-- THERMAL_RELEASE (17 R634, 18 R677). -/
def execThermalRelease (s : State) : Host.Outcome State Fault Refusal :=
  .next (settle (if s.boot.hot then bringUpGate (holdReset (modBoot (fun b => { b with hot := false }) s)) else s))

/-- RESET_N_ASSERT (17 R631, R636); in Dormant it is a wake as well (01 R36, 17 R633). -/
def execResetNAssert (s : State) : Host.Outcome State Fault Refusal :=
  let s := modBoot (fun b => { b with pinLow := true }) s
  .next (settle (
    if s.mode.mode = 0 then s
    else if s.boot.rising then holdReset s
    else holdReset (resetNow (if s.boot.opt.resetMap = 1 then depthWarm else depthSystem) (if s.mode.mode = 1 then 0x4040 else 0x40) s)))

/-- RESET_N_RELEASE (17 R636). -/
def execResetNRelease (s : State) : Host.Outcome State Fault Refusal :=
  let s := modBoot (fun b => { b with pinLow := false }) s
  .next (settle (if s.mode.mode = 0 then s else bringUpGate (holdReset s)))

/-- TEST_EN_FALL (01 R36, 14 R565, R569): a System reset out of Factory Test; in Blank the Local Trust ceiling may change. -/
def execTestEnFall (s : State) : Host.Outcome State Fault Refusal :=
  let was := trustCeiling s
  let t := modBoot (fun b => { b with testEn := false }) s
  let t := if trustCeiling t ≠ was ∧ s.mode.mode ≠ 0 then auditEvent 4 (trustCeiling t) t else t
  .next (settle (if s.mode.mode = 4 then resetNow depthSystem 0x8000 t else t))

/-- The bytes of a frame that a mask selects, in order; none when the frame is too short (10 R414). -/
def selected (mask : Nat) (frame : List Byte) : Option (List Byte) :=
  let l := bitList mask 128
  if l.all fun i => decide (i < frame.length) then some (l.map fun i => getD frame i 0) else none
where
  getD (f : List Byte) (i : Nat) (d : Byte) : Byte := f.getD i d

/-- Whether a frame matches an enabled wake pattern (10 R414). -/
def wakes (s : State) (frame : List Byte) : Bool :=
  s.links.mg.wake.any fun w => w.2.1 && (match selected w.2.2.2 frame with | some b => crc16 b == w.2.2.1 | none => false)

/-- WAKE_PATTERN_MATCH (10 R414, 01 R36, 17 R631): a frame on MG in Dormant; `good`: its FCS. -/
def execWakePatternMatch (frame : List Byte) (good : Bool) (s : State) : Host.Outcome State Fault Refusal :=
  .next (settle (if s.mode.mode = 1 ∧ good ∧ wakes s frame then warmStart 0x4000 s else s))

end Sys2Proof.Machine
end

