-- ==== Sys2Proof/Machine/Regs.lean ====
section
/-! DEFINITION. The register window of BAR0 and the registers of the fabric address space: what each reads, what a write of each does, and
the commands that write them (07 R268, R275-R278, 08 R300-R303, R310-R312, 11 R470-R472, 13 R537-R545, 16 R616-R620, 17 R638,
18 R669). -/

namespace Sys2Proof.Machine

/-- Whether the core of the node runs, so that registers and memories can be reached: not Off, not Dormant, not held in reset. -/
def awake (s : State) : Bool := decide (2 ≤ s.mode.mode) && !s.boot.halted

/-! ## The window (13 R537) -/

/-- WIN_REQ_CTRL or WIN_RPL_CTRL (13 R540). -/
def ringCtrl (en : Bool) (size : Nat) : Nat := 2 ^ 31 * b2n en + size

/-- ALIVE toggles (16 R615, R616). -/
def aliveOn (s : State) : Bool :=
  let m := s.mode.mode
  decide (3 ≤ m) && decide (m ≤ 7) && !s.boot.halted && !s.flt.fstate && s.flt.beat && (m == 3 || s.flt.tickOk)
    && s.flt.aliveM != 2 && !(s.flt.aliveM == 1 && s.flt.aQuiet)

/-- WIN_RSTCAUSE (17 R638). -/
def rstCause (s : State) : Nat := 2 ^ 29 * s.boot.depth + s.boot.cause

/-- WIN_FF0 to WIN_FF6 (16 R618-R620). -/
def winFf (s : State) (i : Nat) : Nat :=
  let f := s.flt.ff
  match i with
  | 0 => 2 ^ 31 * b2n f.valid + 2 ^ 30 * b2n f.more + 2 ^ 28 * f.cls + f.id
  | 1 => f.detail % 2 ^ 32
  | 2 => 2 ^ 29 * f.resp + 2 ^ 24 * f.master + 2 ^ 20 * f.access + 2 ^ 8 * f.target + f.detail / 2 ^ 32 % 256
  | 3 => f.cal % 2 ^ 32
  | 4 => f.cal / 2 ^ 32 % 65536
  | 5 => f.ns
  | _ => f.sec

/-- The word at an offset of the window; an offset not listed reads zero (13 R537). -/
def winRead (s : State) (off : Nat) : Nat :=
  let w := s.win
  if 0x24 ≤ off ∧ off ≤ 0x3C then winFf s ((off - 0x24) / 4)
  else if 0x40 ≤ off ∧ off ≤ 0x7C then winCaps s ((off - 0x40) / 4)
  else match off with
    | 0x0000 => 0x0DE00901
    | 0x0010 => winMode s
    | 0x0020 => rstCause s
    | 0x0080 => 256 * b2n (!aliveOn s) + s.flt.aliveM
    | 0x0100 => w.reqBase % 2 ^ 32
    | 0x0104 => w.reqBase / 2 ^ 32
    | 0x0108 => ringCtrl w.reqEn w.reqSize
    | 0x010C => w.reqProd
    | 0x0110 => w.reqCons
    | 0x0120 => w.rplBase % 2 ^ 32
    | 0x0124 => w.rplBase / 2 ^ 32
    | 0x0128 => ringCtrl w.rplEn w.rplSize
    | 0x012C => w.rplProd
    | 0x0130 => w.rplDone
    | 0x0200 => intStat s
    | 0x0204 => w.intEn
    | _ => 0

/-- A write of a base register's low or high half; none while the ring is enabled (13 R539, R540). -/
def newBase (en high : Bool) (old v : Nat) : Nat :=
  if en then old else if high then v % 2 ^ 32 * 2 ^ 32 + old % 2 ^ 32 else old / 2 ^ 32 * 2 ^ 32 + v % 2 ^ 32 / 4096 * 4096

/-- A write to a ring control register (13 R540): the write that enables a ring carries its SIZE, and zeroes both indices. -/
def ringWrite (rpl : Bool) (v : Nat) (s : State) : State :=
  let on := bit v 31
  let size := v % 16
  let ok := decide (4 ≤ size) && decide (size ≤ 10)
  let w := s.win
  if (if rpl then w.rplEn else w.reqEn) then
    if on then s
    else if rpl then { s with win := { w with rplEn := false, posted := [] } }
    else { s with win := { w with reqEn := false, fetched := [] } }
  else
    let w := if rpl then { w with rplSize := size } else { w with reqSize := size }
    if !on then { s with win := w }
    else if !ok then ringErr { s with win := w }
    else if rpl then { s with win := { w with rplEn := true, rplProd := 0, rplDone := 0, posted := [] } }
    else { s with win := { w with reqEn := true, reqProd := 0, reqCons := 0, fetched := [] } }

/-- Clears the W1C bits of WIN_INT_STAT (13 R544). -/
def clearInt (v : Nat) (s : State) : State :=
  { s with win := { s.win with stMode := s.win.stMode && !bit v 4, stRing := s.win.stRing && !bit v 1, stReply := s.win.stReply && !bit v 0 } }

/-- Clears cause bits of WIN_RSTCAUSE (17 R638). -/
def clearCause (v : Nat) (s : State) : State :=
  { s with boot := { s.boot with cause := ofBits ((bitList s.boot.cause 16).filter fun i => !bit v i) } }

/-- Writing 1 to VALID clears the whole capture (16 R617, R618). -/
def clearFf (v : Nat) (s : State) : State := if bit v 31 then { s with flt := { s.flt with ff := {} } } else s

/-- Writing 1 to FORCED clears it (01 R41). -/
def clearForced (v : Nat) (s : State) : State := if bit v 9 then { s with mode := { s.mode with forced := false } } else s

/-- A write to the window. The producer indices are doorbells with commands of their own (13 R541). -/
def winWrite (off v : Nat) (s : State) : State :=
  let w := s.win
  match off with
  | 0x0010 => clearForced v s
  | 0x0020 => clearCause v s
  | 0x0024 => clearFf v s
  | 0x0080 => { s with flt := { s.flt with aliveM := v % 4 } }
  | 0x0100 => { s with win := { w with reqBase := newBase w.reqEn false w.reqBase v } }
  | 0x0104 => { s with win := { w with reqBase := newBase w.reqEn true w.reqBase v } }
  | 0x0108 => ringWrite false v s
  | 0x0120 => { s with win := { w with rplBase := newBase w.rplEn false w.rplBase v } }
  | 0x0124 => { s with win := { w with rplBase := newBase w.rplEn true w.rplBase v } }
  | 0x0128 => ringWrite true v s
  | 0x0200 => clearInt v s
  | 0x0204 => { s with win := { w with intEn := v % 32 } }
  | _ => s

/-! ## Registers of the fabric address space (07 R267) -/

/-- The word of a register at a fabric address; `none` where the spec lists no register. -/
def fabReg (s : State) (a : Nat) : Option Nat :=
  if a = 0x3000000020 then some (rstCause s)
  else if 0x3000010000 ≤ a ∧ a < 0x3000010180 then
    let t := (a - 0x3000010000) / 16
    match a % 16 with
    | 0 => some (tgetD s.fab.priLo t 0xAAAAAAAA)
    | 4 => some (tgetD s.fab.priHi t 0x23E5)
    | 8 => some (tgetD s.place.occ t 0 % 1024)
    | _ => none
  else if a = 0x3000010200 then some (b2n s.fab.remap)
  else if 0x3000020000 ≤ a ∧ a < 0x3000020140 then (heathRegs s ((a - 0x3000020000) / 16))[a % 16 / 4]?
  else if 0x3000020200 ≤ a ∧ a < 0x300002020C then (dramRegs s)[(a - 0x3000020200) / 4]?
  else if a = 0x3000030000 then some (clkStat s)
  else if a = 0x3000030004 then some s.clock.hist
  else if a = 0x3000030008 then some s.clock.intEn
  else if a = 0x3000040000 then some (pwrVcore s)
  else none

/-- A table entry that is held only where it differs from its reset value. -/
def setOr (reset : Nat) (t : Tab Nat) (i v : Nat) : Tab Nat := if v = reset then tdel t i else tset t i v

/-- A write of HEATH_STAT_n: the saturation flags clear by writing 1 (08 R301). -/
def clearHeathStat (n v : Nat) (s : State) : State := modBank n (fun b => { b with ceSat := b.ceSat && !bit v 9, ueSat := b.ueSat && !bit v 8 }) s

/-- A write of DRAM_POISON: its flags clear by writing 1 (08 R312). -/
def clearDramFlags (v : Nat) (s : State) : State :=
  { s with mem := { s.mem with dramOvf := s.mem.dramOvf && !bit v 31, dramUeSat := s.mem.dramUeSat && !bit v 30, dramCeSat := s.mem.dramCeSat && !bit v 29 } }

/-- A write of PWR_VCORE (18 R665, R669). -/
def writeVcore (v : Nat) (s : State) : State :=
  askVcore (bits v 25 16) { s with power := { s.power with noResp := s.power.noResp && !bit v 30 } }

/-- A write of HEATH_CTRL_n; POLICY 0x3 is reserved and leaves the bank as it is (08 R300). -/
def writeHeath (n v : Nat) (s : State) : State := if v % 4 = 3 then s else setBank n (v % 4) (bit v 7) s

/-- A write to a register of the fabric address space, by a master that may write it. -/
def fabRegWrite (a v : Nat) (s : State) : State :=
  let v := v % 2 ^ 32
  if a = 0x3000000020 then clearCause v s
  else if 0x3000010000 ≤ a ∧ a < 0x3000010180 then
    let t := (a - 0x3000010000) / 16
    match a % 16 with
    | 0 => { s with fab := { s.fab with priLo := setOr 0xAAAAAAAA s.fab.priLo t v } }
    | 4 => { s with fab := { s.fab with priHi := setOr 0x23E5 s.fab.priHi t (v / 2 ^ 31 * 2 ^ 31 + v % 65536) } }
    | _ => s
  else if a = 0x3000010200 then (if bit v 0 then { s with fab := { s.fab with remap := true } } else s)
  else if 0x3000020000 ≤ a ∧ a < 0x3000020140 then
    match a % 16 with
    | 0 => writeHeath ((a - 0x3000020000) / 16) v s
    | 4 => clearHeathStat ((a - 0x3000020000) / 16) v s
    | _ => s
  else if a = 0x3000020208 then clearDramFlags v s
  else if a = 0x3000030004 then clearHist v s
  else if a = 0x3000030008 then msixFrom (intStat s) { s with clock := { s.clock with intEn := v / 64 * 64 } }
  else if a = 0x3000040000 then writeVcore v s
  else s

/-- Whether a master may write the registers (07 R269). -/
def mayWriteReg (s : State) (m : Nat) : Bool := m == 0x11 || (m == 0x17 && s.mode.mode == 4)

/-! ## The commands -/

/-- RING_ENABLE (13 R540): a write with ENABLE = 1 and a SIZE to a ring's control register. -/
def execRingEnable (rpl : Bool) (size : Nat) (s : State) : Host.Outcome State Fault Refusal :=
  .next (settle (if awake s then ringWrite rpl (2 ^ 31 + size % 16) s else s))

/-- RING_DISABLE (13 R540). -/
def execRingDisable (rpl : Bool) (s : State) : Host.Outcome State Fault Refusal :=
  .next (settle (if awake s then ringWrite rpl (if rpl then s.win.rplSize else s.win.reqSize) s else s))

/-- WIN_INT_STAT_CLEAR (13 R544). -/
def execWinIntStatClear (v : Nat) (s : State) : Host.Outcome State Fault Refusal := .next (settle (if awake s then winWrite 0x200 v s else s))

/-- WIN_FF0_VALID_CLEAR (16 R618). -/
def execWinFf0ValidClear (s : State) : Host.Outcome State Fault Refusal := .next (settle (if awake s then winWrite 0x24 (2 ^ 31) s else s))

/-- WIN_RSTCAUSE_CLEAR (17 R639). -/
def execWinRstcauseClear (v : Nat) (s : State) : Host.Outcome State Fault Refusal := .next (settle (if awake s then winWrite 0x20 v s else s))

/-- FORCED_CLEAR (01 R41). -/
def execForcedClear (s : State) : Host.Outcome State Fault Refusal := .next (settle (if awake s then winWrite 0x10 512 s else s))

/-- PERST (13 R545): both rings stop, and nothing else in the KD9 changes. -/
def execPerst (s : State) : Host.Outcome State Fault Refusal :=
  .next (settle { s with win := { s.win with reqEn := false, rplEn := false, fetched := [], posted := [] } })

end Sys2Proof.Machine
end

