-- ==== Sys2Proof/Machine/BootRun.lean ====
section
/-! DEFINITION. Bring-up, step by step, and the Plane reset (17 R640-R651, 08 R307, R308, 11 R451, R474, 01 R36). -/

namespace Sys2Proof.Machine

/-- Whether bring-up is at a step and not held in reset. -/
def atStep (s : State) (n : Nat) : Bool := bringingUp s && s.boot.step == n && !s.boot.halted

/-! ## Steps 1 to 5 -/

/-- Step 3 (17 R646, R647, R659): the straps are sampled; then 800 mV is requested before step 4 (18 R669). -/
def sampleStraps (s : State) : State :=
  let b := s.boot
  let sel := if b.once then 2 else if bit b.opt.strapMode 0 then b.opt.strapVal % 4 else b.pinBoot
  let clk := if bit b.opt.strapMode 1 then bits b.opt.strapVal 5 4 else b.pinClk
  let s := modBoot (fun b => { b with bootSel := sel, clkMode := clk, once := false, step := 4 }) s
  sendAvs 800 { s with power := { s.power with target := 800 } }

/-- CRYSTAL_STARTUP_DONE (17 R635, R648): step 1 ends. The options are loaded at Cold depth, and whenever they have not been loaded yet. -/
def execCrystalStartupDone (s : State) : Host.Outcome State Fault Refusal :=
  let loads := s.boot.depth == depthCold || !s.win.capsOn
  .next (settle (if bringingUp s && s.boot.step == 1 && !s.boot.pinLow && !s.boot.hot then
    bringUpGate (if loads then modBoot (fun b => { b with step := 2 }) s else sampleStraps s) else s))

/-- The option loader (17 R644): the valid copy with the higher GENERATION, else the fuse-table values. -/
def loadOptions (s : State) : State :=
  let best := (optCopies s).foldl (fun (a : Option (Nat × Opt)) x => match a with
    | some y => if y.2.gen < x.2.gen then some x else a
    | none => some x) none
  let s := match best with
    | some (i, o) => modBoot (fun b => { b with opt := o, fromA := i == 0, optDef := false }) s
    | none => modBoot (fun b => { b with opt := {}, optDef := true }) s
  { s with win := { s.win with capsOn := true } }

/-- OPTION_LOAD_DONE (17 R644, 01 R46): steps 2 and 3 end. -/
def execOptionLoadDone (s : State) : Host.Outcome State Fault Refusal :=
  .next (settle (if atStep s 2 then sampleStraps (loadOptions s) else s))

/-- PLL_LOCK (11 R455, 17 R648): the local clock starts at the default EPOCH; training begins. -/
def execPllLock (s : State) : Host.Outcome State Fault Refusal :=
  .next (settle (if atStep s 4 then
    modBoot (fun b => { b with step := 5 })
      { s with clock := { s.clock with pll := true }, mem := { s.mem with zeroing := s.boot.trainZ } } else s))

/-- Training ends (08 R307, R308, R310, 17 R634): zeroed, or out of self-refresh with its contents. -/
def dramReady (s : State) : State :=
  let z := s.boot.trainZ
  let s := if z then memClear dramBase 0x8000000000 s else s
  let m := s.mem
  modBoot (fun b => { b with step := 6, trainZ := false })
    { s with mem := { m with ready := true, zeroing := false, selfRef := false, warmExit := !z, kept := false,
                             dramTab := if z then [] else m.dramTab, dramBad := if z then [] else m.dramBad, used := if z then [] else m.used, wrote := if z then [] else m.wrote },
             power := { s.power with dramOut := false } }

/-- DRAM_TRAINING_DONE (08 R307, R308, 16 R609): `ok`: training succeeded; its failure is Fatal. -/
def execDramTrainingDone (ok : Bool) (s : State) : Host.Outcome State Fault Refusal :=
  .next (settle (if atStep s 5 then (if ok then dramReady s else raise 0x0702 0 { s with mem := { s.mem with zeroing := false } }) else s))

/-! ## Step 6: the boot ROM -/

/-- The boot record before images are tried (17 R649): a fourth try of a trial falls back. -/
def countTry (b : Boot) : Boot :=
  if b.bootSel = 1 ∨ 2 ≤ b.trial then b
  else if 3 ≤ b.tries then { b with trial := 0xFF, tries := 0 }
  else { b with tries := b.tries + 1 }

/-- The slots in the order in which they are tried (17 R649). Without a committed slot, A comes before B (DESIGN CHOICE, log entry 33). -/
def imageOrder (b : Boot) : List Nat :=
  if b.bootSel = 1 then []
  else [b.trial, b.commit].filter (· < 2) ++ [0, 1].filter (· != b.commit)

/-- Runs the first image that verifies; one that fails is marked invalid. With none the golden firmware runs (17 R649). -/
def runFirst : List Nat → State → State
  | [], s => modBoot (fun b => { b with running := 2, fwVer := Config.goldenVersion.toNat, schema := 0 }) s
  | i :: r, s =>
    let m := imageAt s i
    if m.state ≠ 1 then runFirst r s
    else if Config.imageGood (memReads s (slotBase i) m.len) then
      modBoot (fun b => { b with running := i, fwVer := m.version, schema := m.schema }) s
    else runFirst r (modImage i (fun _ => {}) s)

/-- Steps 6 and 7 begin firmware: keys copied to the secure region, REMAP set, the reset cause logged, and the Command Processor started
(07 R268, 14 R558, 17 R639, R648). The golden firmware enters Recovery (01 R36). -/
def bootRom (s : State) : State :=
  let s := modBoot countTry s
  let s := loadKeys (runFirst (imageOrder s.boot) s)
  let s := { s with fab := { s.fab with remap := true }, flt := { s.flt with beat := true } }
  let s : State := raise 0x0E03 (rstCause s + 2 ^ 32 * s.boot.depth) s
  let s : State := { modBoot (fun b => { b with step := 7 }) s with cp := { s.cp with started := true } }
  let s := if s.boot.running = 2 then setMode 3 (modBoot (fun b => { b with step := 9 }) s) else s
  fetchAll s

/-- BOOT_ROM_DONE (17 R649). -/
def execBootRomDone (s : State) : Host.Outcome State Fault Refusal := .next (settle (if atStep s 6 then bootRom s else s))

/-! ## Step 7: settings -/

/-- Whether the running firmware can read or migrate a settings slot (17 R651). -/
def readable (s : State) (x : SetSlot) : Bool := x.valid && (x.schema == s.boot.schema || Config.migrates s.boot.schema x.schema)

/-- The slot that firmware loads: of those it can read, the one with the highest GENERATION (17 R651). -/
def chosenSlot (s : State) : Option SetSlot :=
  let a := s.settings.a
  let b := s.settings.b
  if readable s a && (!readable s b || decide (b.gen ≤ a.gen)) then some a
  else if readable s b then some b
  else none

/-- Whether BOOT_SEL has the settings ignored (17 R647). -/
def ignoresSettings (b : Boot) : Bool := b.bootSel == 2 || (b.bootSel == 3 && b.testEn)

/-- Factory defaults: the reset values, and of what a Warm reset kept (17 R630) no value is written over. DEDUCED: log entry 25. -/
def factorySnap (s : State) : Snapshot :=
  { cfg := s.pipe.live, nodes := s.sward.nodes, policy := s.place.policy,
    power := (s.power.fixed, s.power.vmin, s.power.vmax, s.power.vfix, s.power.margin) }

/-- Firmware loads the settings, or factory defaults (17 R651, R656, 15 R580, 18 R674). -/
def loadSettings (s : State) : State :=
  let ign := ignoresSettings s.boot
  let any := s.settings.a.valid || s.settings.b.valid
  let pick := if ign then none else chosenSlot s
  let limp := !ign && any && pick.isNone
  let snap := match pick with | some x => x.snap | none => factorySnap s
  let cfg := if ign || limp then ({} : PairCfg) else s.pair.next.getD snap.pair
  let s := applySnap snap { s with pair := { s.pair with cfg := cfg }, power := { s.power with clean := false } }
  modBoot (fun b => { b with ignore := ign, limp := limp, startRun := snap.run, step := 8 }) s

/-- SETTINGS_LOADED (17 R651). -/
def execSettingsLoaded (s : State) : Host.Outcome State Fault Refusal := .next (settle (if atStep s 7 then loadSettings s else s))

/-! ## Step 8: the data plane -/

/-- Whether CLK_MODE lets the data plane start (11 R474). Code 0x3 is reserved for Factory Test and waits for nothing (log entry 33). -/
def clockReady (s : State) : Bool :=
  let k := s.clock
  if s.boot.clkMode = 1 then k.state == 2
  else if s.boot.clkMode = 2 then k.state == 2 && k.sel == 8 && k.stepped
  else true

/-- The data plane starts and the node enters its start mode (01 R36, 11 R451, 15 R582, 17 R647, R648); a paired node that is to run
listens first. -/
def startNode (s : State) : State :=
  let b := s.boot
  let s := startPlane (cal s + 1) s
  let s := modBoot (fun b => { b with step := 9, waiting := false, badSev := false }) { s with clock := { s.clock with estab := true } }
  if b.bootSel = 3 ∧ b.testEn then setMode 4 s
  else if b.startRun ∧ !b.ignore ∧ !b.limp then
    if paired s then modPair (fun p => { p with listen := 1 }) s else beginActive s
  else setMode 5 { s with mode := { s.mode with limp := b.limp } }

/-- DATA_PLANE_START (17 R648, 11 R474). -/
def execDataPlaneStart (s : State) : Host.Outcome State Fault Refusal :=
  .next (settle (if atStep s 8 then (if clockReady s then startNode s else modBoot (fun b => { b with waiting := true }) s) else s))

/-- CLK_MODE_TIMEOUT (11 R474): the wait of 30 s ends; without lock the data plane starts in Free run with TIME_UNSET set. -/
def execClkModeTimeout (s : State) : Host.Outcome State Fault Refusal :=
  .next (settle (
    if !(atStep s 8 && s.boot.waiting) then s
    else if clockReady s then startNode s
    else startNode (enterFreeRun { s with clock := { s.clock with unset := true } })))

/-- TRIAL_HEALTHY (17 R650): 60 s of a trial boot in a start mode other than Settings-Limp have passed. A Severe or Fatal fault within
them lets them start over (DEDUCED, log entry 33). -/
def execTrialHealthy (s : State) : Host.Outcome State Fault Refusal :=
  let b := s.boot
  .next (settle (
    if trialRuns s && decide (4 ≤ s.mode.mode) && !s.mode.limp then
      if b.badSev then modBoot (fun b => { b with badSev := false }) s
      else modBoot (fun b => { b with healthy := true, tries := 0 }) s
    else s))

/-! ## Plane reset -/

/-- PLANE_RESET (17 R640, 16 R609): a Plane reset that no command and no other fault has begun is that of an internal sequencing error. -/
def execPlaneReset (s : State) : Host.Outcome State Fault Refusal :=
  .next (settle (if s.boot.planeR || s.mode.mode < 4 then s else faultReset 0x0103 0 depthPlane 0x200 s))

/-- PLANE_RESTART (17 R640 step 5, R642): every unit reports ready; the data plane restarts at the next boundary, and a node in Run-Shadow
resynchronises (15 R606). -/
def execPlaneRestart (s : State) : Host.Outcome State Fault Refusal :=
  .next (settle (if s.boot.planeR then
    let s := startPlane (cal s + 1) s
    let s := modBoot (fun b => { b with planeR := false })
      { s with fab := { s.fab with isolated := false }, pair := { s.pair with actOut := s.mode.mode == 6 } }
    if s.mode.mode = 7 ∧ (s.pair.state = 2 ∨ s.pair.state = 3 ∨ s.pair.state = 4) ∧ !s.pair.paused then startJoin s else s
  else s))

end Sys2Proof.Machine
end

