-- ==== Sys2Proof/Machine/CapEvents.lean ====
section
/-! DEFINITION. Events of the Capture Store: writes, drives, read-ahead and the mount (12 R476, R486, R493, R498-R501, R506). -/

namespace Sys2Proof.Machine

/-- STAGE_WRITE (12 R486): a group sends what has been staged for 20 ms. -/
def execStageWrite (k : Nat) (s : State) : Host.Outcome State Fault Refusal :=
  .next (settle (if thas s.cap.groups k && !s.boot.halted then sendTicks k 20 64 s else s))

/-- Whether a group has a write on its way to a drive. -/
def writing (s : State) (k d : Nat) : Bool :=
  let g := groupAt s k
  thas s.cap.groups k && decide (0 < g.sent) && (onDrive d g.seg || onDrive d g.mseg)

/-- DRIVE_WRITE_COMPLETE (12 R486, R488, R498): the oldest write of a group completes on a drive, or fails with a media error, which closes
the segment and leads to a rewrite. -/
def execDriveWriteComplete (k d : Nat) (err : Bool) (s : State) : Host.Outcome State Fault Refusal :=
  .next (settle (
    if !writing s k d then s
    else if err then leaveGroup d k (modDrive d (fun v => { v with media := inc16 v.media }) s)
    else writeDone k d s))

/-- DRIVE_FAIL (12 R498). -/
def execDriveFail (d : Nat) (s : State) : Host.Outcome State Fault Refusal :=
  .next (settle (if hasCap s && decide (d < 4) then driveFail d s else s))

/-- DRIVE_COMMAND_TIMEOUT (12 R498, R506). -/
def execDriveCommandTimeout (d : Nat) (s : State) : Host.Outcome State Fault Refusal :=
  .next (settle (
    if hasCap s && decide (d < 4) && (driveAt s d).state != 0 && (driveAt s d).state != 4 then
      driveFail d (modDrive d (fun v => { v with timeouts := inc16 v.timeouts }) s)
    else s))

/-- The volume that the drives hold, while none is mounted (12 R505). -/
def findVolume (s : State) : State := if mounted s then s else { s with cap := { s.cap with vol := preMount s.cap.drives } }

/-- A member that has come back is mounted again: its segments are readable, and those it holds open are closed (12 R498). Before the mount it counts
for the volume to be mounted. -/
def remount (d : Nat) (s : State) : State :=
  if !mounted s then findVolume s
  else if !isMember s d then s
  else
    let s := modDrive d (fun v => { v with state := 2, clean := v.clean && !s.cap.opened }) s
    { s with cap := { s.cap with vol := if allMembers s then 3 else 4,
                                 segs := s.cap.segs.map fun g => if g.drive = d ∧ g.st = 1 then { g with st := 2 } else g } }

/-- DRIVE_RETURN (12 R498): the drive is mounted again, and its segments are readable. -/
def execDriveReturn (d : Nat) (s : State) : Host.Outcome State Fault Refusal :=
  .next (settle (
    if !(hasCap s && decide (d < 4) && (driveAt s d).state == 4) then s
    else remount d (modDrive d (fun v => { v with state := if mounted s then 3 else 1 }) s)))

/-- The first staged CAP_REPLAY of a replay whose read-ahead is not filled yet (12 R493; the order is DESIGN CHOICE, log entry 60). -/
def unfilled (s : State) (i : Nat) : Option Staged :=
  s.gate.staged.find? fun g => g.req.opcode == 0x0720 && par g.req 0 1 == i && !(tgetD s.cap.replays i {}).filled.contains (reqKey g.req)

/-- READAHEAD_FILLED (12 R493): a staged replay may be bound at the next boundary. -/
def execReadaheadFilled (i : Nat) (s : State) : Host.Outcome State Fault Refusal :=
  .next (settle (match unfilled s i with
    | some g => { s with cap := { s.cap with replays := tmod s.cap.replays i {} fun x => { x with filled := x.filled ++ [reqKey g.req] } } }
    | none => s))

/-- VOLUME_MOUNT (12 R478, R501, R502). -/
def execVolumeMount (s : State) : Host.Outcome State Fault Refusal :=
  .next (settle (if hasCap s && decide (4 ≤ s.mode.mode) && !mounted s then mountVolume s else s))

/-- The superblock that counts of a drive's two copies: of those with a good CRC the one with the higher GENERATION (12 R478). -/
def superOf (a b : Option Super) : Super :=
  match a, b with
  | some x, some y => if x.gen < y.gen then y else x
  | some x, none => x
  | none, some y => y
  | none, none => {}

/-- Whether a slot takes a drive: NVMe revision (the VS register's form), logical block size and capacity (12 R476). One that does not fit is no
member of a volume and not healthy (DESIGN CHOICE, log entry 60). -/
def driveFits (bytes block rev : Nat) : Bool := decide (0x10400 ≤ rev) && (block == 512 || block == 4096) && decide (bytes ≤ 16 * 10 ^ 12)

/-- What a drive identifies itself with: link, capacity, wear, data units written, and the superblock it holds (12 R476-R478, R506). -/
def newDrive (link bytes wear written : Nat) (fits : Bool) (x : Super) (st : Nat) : Drive :=
  let x := if fits then x else {}
  { state := st, link := link % 256, wear := min 255 wear, bytes := bytes, segs := (bytes - 69206016) / 67108864, written := written,
    volId := x.volId, volMask := x.mask, volMirr := x.mirr, clean := x.clean, gen := x.gen, fits := fits }

/-- A drive on an empty slot, or in place of a failed one, with the segment map it holds. -/
def addDrive (d : Nat) (v : Drive) (map : List Seg) (s : State) : State :=
  let own := (map.filter fun g => g.st == 1 || g.st == 2).map fun g => { g with drive := d }
  { s with cap := { s.cap with
    drives := tset s.cap.drives d v, segs := (s.cap.segs.filter fun g => g.drive != d) ++ own,
    marks := if (driveAt s d).state = 0 then s.cap.marks else s.cap.marks.filter fun x => x.1 / 2 ^ 32 != d } }

/-- NVME_DRIVE_DETECTED (12 R476-R479, R499, R506): a drive with what it identifies itself with, its superblock copies that have a good CRC, and its
segment map. -/
def execNvmeDriveDetected (d link bytes wear written block rev : Nat) (a b : Option Super) (map : List Seg) (s : State) :
    Host.Outcome State Fault Refusal :=
  .next (settle (
    if !(hasCap s && decide (d < 4) && ((driveAt s d).state == 0 || (driveAt s d).state == 4)) then s
    else
      let v := newDrive link bytes wear written (driveFits bytes block rev) (superOf a b) (if mounted s then 3 else 1)
      let s := remount d (addDrive d v map s)
      if 90 ≤ wear then raise 0x0C06 d s else s))

/-- DRIVE_HEALTH_REPORT (12 R499, R506): Percentage Used, the critical warning and the data units written. -/
def execDriveHealthReport (d wear written : Nat) (warn : Bool) (s : State) : Host.Outcome State Fault Refusal :=
  .next (settle (
    if !(hasCap s && decide (d < 4) && (driveAt s d).state != 0) then s
    else
      let old := (driveAt s d).wear
      let s := modDrive d (fun v => { v with wear := min 255 wear, written := written, warn := warn }) s
      if old < 90 ∧ 90 ≤ wear then raise 0x0C06 d s else s))

end Sys2Proof.Machine
end

