-- ==== Sys2Proof/Machine/EngineL.lean ====
section
/-! DEFINITION. The commands of the engines' L slot and of the slot mover: engine `e` executes a bundle with the operation in its
L slot and any operation in its M slot (04 R130, R150-R158, R172). -/

namespace Sys2Proof.Machine

/-- LDV (04 R150): Loads a vector from state at a pointer offset. -/
def execLdv (e : Nat) (l : LArgs) (m : MSlot) (s : State) : Host.Outcome State Fault Refusal :=
  .next (settle (runBundle e { m := m, l := { op := 0x01, x := l } } (mSem m.op) lLdv s))

/-- LDVP (04 R150): Loads a vector and advances the pointer. -/
def execLdvp (e : Nat) (l : LArgs) (m : MSlot) (s : State) : Host.Outcome State Fault Refusal :=
  .next (settle (runBundle e { m := m, l := { op := 0x02, x := l } } (mSem m.op) lLdvp s))

/-- STV (04 R150): Stores a vector to state at a pointer offset. -/
def execStv (e : Nat) (l : LArgs) (m : MSlot) (s : State) : Host.Outcome State Fault Refusal :=
  .next (settle (runBundle e { m := m, l := { op := 0x03, x := l } } (mSem m.op) lStv s))

/-- STVP (04 R150): Stores a vector and advances the pointer. -/
def execStvp (e : Nat) (l : LArgs) (m : MSlot) (s : State) : Host.Outcome State Fault Refusal :=
  .next (settle (runBundle e { m := m, l := { op := 0x04, x := l } } (mSem m.op) lStvp s))

/-- LDS (04 R150): Loads a scalar word from state. -/
def execLds (e : Nat) (l : LArgs) (m : MSlot) (s : State) : Host.Outcome State Fault Refusal :=
  .next (settle (runBundle e { m := m, l := { op := 0x05, x := l } } (mSem m.op) lLds s))

/-- LDSP (04 R150): Loads a scalar word and advances the pointer. -/
def execLdsp (e : Nat) (l : LArgs) (m : MSlot) (s : State) : Host.Outcome State Fault Refusal :=
  .next (settle (runBundle e { m := m, l := { op := 0x06, x := l } } (mSem m.op) lLdsp s))

/-- STS (04 R150): Stores a scalar word to state. -/
def execSts (e : Nat) (l : LArgs) (m : MSlot) (s : State) : Host.Outcome State Fault Refusal :=
  .next (settle (runBundle e { m := m, l := { op := 0x07, x := l } } (mSem m.op) lSts s))

/-- STSP (04 R150): Stores a scalar word and advances the pointer. -/
def execStsp (e : Nat) (l : LArgs) (m : MSlot) (s : State) : Host.Outcome State Fault Refusal :=
  .next (settle (runBundle e { m := m, l := { op := 0x08, x := l } } (mSem m.op) lStsp s))

/-- LDA (04 R150): Loads an accumulator from 128 bytes of state. -/
def execLda (e : Nat) (l : LArgs) (m : MSlot) (s : State) : Host.Outcome State Fault Refusal :=
  .next (settle (runBundle e { m := m, l := { op := 0x09, x := l } } (mSem m.op) lLda s))

/-- STA (04 R150): Stores an accumulator to 128 bytes of state. -/
def execSta (e : Nat) (l : LArgs) (m : MSlot) (s : State) : Host.Outcome State Fault Refusal :=
  .next (settle (runBundle e { m := m, l := { op := 0x0a, x := l } } (mSem m.op) lSta s))

/-- PADD (04 R151): Advances a pointer by a scalar byte count. -/
def execPadd (e : Nat) (l : LArgs) (m : MSlot) (s : State) : Host.Outcome State Fault Refusal :=
  .next (settle (runBundle e { m := m, l := { op := 0x0b, x := l } } (mSem m.op) lPadd s))

/-- PSET (04 R150): Sets a pointer's address and base. -/
def execPset (e : Nat) (l : LArgs) (imm : Nat) (s : State) : Host.Outcome State Fault Refusal :=
  .next (settle (runBundle e { fmt := 2, l := { op := 0x0c, x := l }, imm := imm } mNop lPset s))

/-- PLEN (04 R150): Sets a pointer's modulo length. -/
def execPlen (e : Nat) (l : LArgs) (imm : Nat) (s : State) : Host.Outcome State Fault Refusal :=
  .next (settle (runBundle e { fmt := 2, l := { op := 0x0d, x := l }, imm := imm } mNop lPlen s))

/-- PGET (04 R150): Reads a pointer's address into a scalar. -/
def execPget (e : Nat) (l : LArgs) (m : MSlot) (s : State) : Host.Outcome State Fault Refusal :=
  .next (settle (runBundle e { m := m, l := { op := 0x0e, x := l } } (mSem m.op) lPget s))

/-- PPUT (04 R150): Writes a pointer's address from a scalar. -/
def execPput (e : Nat) (l : LArgs) (m : MSlot) (s : State) : Host.Outcome State Fault Refusal :=
  .next (settle (runBundle e { m := m, l := { op := 0x0f, x := l } } (mSem m.op) lPput s))

/-- WRDC (04 R156): Reads input windows channel-major. -/
def execWrdc (e : Nat) (l : LArgs) (m : MSlot) (s : State) : Host.Outcome State Fault Refusal :=
  .next (settle (runBundle e { m := m, l := { op := 0x10, x := l } } (mSem m.op) lWrdc s))

/-- WRDS (04 R156): Reads input windows sample-major. -/
def execWrds (e : Nat) (l : LArgs) (m : MSlot) (s : State) : Host.Outcome State Fault Refusal :=
  .next (settle (runBundle e { m := m, l := { op := 0x11, x := l } } (mSem m.op) lWrds s))

/-- WRDCX (04 R156): Reads input windows channel-major at an indexed position. -/
def execWrdcx (e : Nat) (l : LArgs) (m : MSlot) (s : State) : Host.Outcome State Fault Refusal :=
  .next (settle (runBundle e { m := m, l := { op := 0x12, x := l } } (mSem m.op) lWrdcx s))

/-- WRDSX (04 R156): Reads input windows sample-major at an indexed position. -/
def execWrdsx (e : Nat) (l : LArgs) (m : MSlot) (s : State) : Host.Outcome State Fault Refusal :=
  .next (settle (runBundle e { m := m, l := { op := 0x13, x := l } } (mSem m.op) lWrdsx s))

/-- WWRC (04 R156): Writes output windows channel-major. -/
def execWwrc (e : Nat) (l : LArgs) (m : MSlot) (s : State) : Host.Outcome State Fault Refusal :=
  .next (settle (runBundle e { m := m, l := { op := 0x14, x := l } } (mSem m.op) lWwrc s))

/-- WWRS (04 R156): Writes output windows sample-major. -/
def execWwrs (e : Nat) (l : LArgs) (m : MSlot) (s : State) : Host.Outcome State Fault Refusal :=
  .next (settle (runBundle e { m := m, l := { op := 0x15, x := l } } (mSem m.op) lWwrs s))

/-- WWRCX (04 R156): Writes output windows channel-major at an indexed position. -/
def execWwrcx (e : Nat) (l : LArgs) (m : MSlot) (s : State) : Host.Outcome State Fault Refusal :=
  .next (settle (runBundle e { m := m, l := { op := 0x16, x := l } } (mSem m.op) lWwrcx s))

/-- WWRSX (04 R156): Writes output windows sample-major at an indexed position. -/
def execWwrsx (e : Nat) (l : LArgs) (m : MSlot) (s : State) : Host.Outcome State Fault Refusal :=
  .next (settle (runBundle e { m := m, l := { op := 0x17, x := l } } (mSem m.op) lWwrsx s))

/-- TRDC (04 R156): Reads tap windows channel-major. -/
def execTrdc (e : Nat) (l : LArgs) (m : MSlot) (s : State) : Host.Outcome State Fault Refusal :=
  .next (settle (runBundle e { m := m, l := { op := 0x18, x := l } } (mSem m.op) lTrdc s))

/-- TRDS (04 R156): Reads tap windows sample-major. -/
def execTrds (e : Nat) (l : LArgs) (m : MSlot) (s : State) : Host.Outcome State Fault Refusal :=
  .next (settle (runBundle e { m := m, l := { op := 0x19, x := l } } (mSem m.op) lTrds s))

/-- TRDCX (04 R156): Reads tap windows channel-major at an indexed position. -/
def execTrdcx (e : Nat) (l : LArgs) (m : MSlot) (s : State) : Host.Outcome State Fault Refusal :=
  .next (settle (runBundle e { m := m, l := { op := 0x1a, x := l } } (mSem m.op) lTrdcx s))

/-- TRDSX (04 R156): Reads tap windows sample-major at an indexed position. -/
def execTrdsx (e : Nat) (l : LArgs) (m : MSlot) (s : State) : Host.Outcome State Fault Refusal :=
  .next (settle (runBundle e { m := m, l := { op := 0x1b, x := l } } (mSem m.op) lTrdsx s))

/-- DWRC (04 R156): Writes line-write windows channel-major. -/
def execDwrc (e : Nat) (l : LArgs) (m : MSlot) (s : State) : Host.Outcome State Fault Refusal :=
  .next (settle (runBundle e { m := m, l := { op := 0x1c, x := l } } (mSem m.op) lDwrc s))

/-- DWRS (04 R156): Writes line-write windows sample-major. -/
def execDwrs (e : Nat) (l : LArgs) (m : MSlot) (s : State) : Host.Outcome State Fault Refusal :=
  .next (settle (runBundle e { m := m, l := { op := 0x1d, x := l } } (mSem m.op) lDwrs s))

/-- DWRCX (04 R156): Writes line-write windows channel-major at an indexed position. -/
def execDwrcx (e : Nat) (l : LArgs) (m : MSlot) (s : State) : Host.Outcome State Fault Refusal :=
  .next (settle (runBundle e { m := m, l := { op := 0x1e, x := l } } (mSem m.op) lDwrcx s))

/-- DWRSX (04 R156): Writes line-write windows sample-major at an indexed position. -/
def execDwrsx (e : Nat) (l : LArgs) (m : MSlot) (s : State) : Host.Outcome State Fault Refusal :=
  .next (settle (runBundle e { m := m, l := { op := 0x1f, x := l } } (mSem m.op) lDwrsx s))

/-- BR (04 R150): Relative branch when the predicate allows. -/
def execBr (e : Nat) (l : LArgs) (m : MSlot) (s : State) : Host.Outcome State Fault Refusal :=
  .next (settle (runBundle e { m := m, l := { op := 0x20, x := l } } (mSem m.op) lBr s))

/-- BRL (04 R150): Branch to an absolute bundle of the chain's code. -/
def execBrl (e : Nat) (l : LArgs) (imm : Nat) (s : State) : Host.Outcome State Fault Refusal :=
  .next (settle (runBundle e { fmt := 2, l := { op := 0x21, x := l }, imm := imm } mNop lBrl s))

/-- LOOP (04 R153): Repeats the next bundles a scalar count of times. -/
def execLoop (e : Nat) (l : LArgs) (m : MSlot) (s : State) : Host.Outcome State Fault Refusal :=
  .next (settle (runBundle e { m := m, l := { op := 0x22, x := l } } (mSem m.op) lLoop s))

/-- LOOPI (04 R153): Repeats the next bundles an immediate count of times. -/
def execLoopi (e : Nat) (l : LArgs) (imm : Nat) (s : State) : Host.Outcome State Fault Refusal :=
  .next (settle (runBundle e { fmt := 2, l := { op := 0x23, x := l }, imm := imm } mNop lLoopi s))

/-- TEND (04 R168): Ends the chain's tick, completes stores, hands windows to the mover and starts the next chain. -/
def execTend (e : Nat) (l : LArgs) (m : MSlot) (s : State) : Host.Outcome State Fault Refusal :=
  .next (settle (runBundle e { m := m, l := { op := 0x24, x := l } } (mSem m.op) lTend s))

/-- FENCE (04 R150): Waits until earlier stores reach the data store. -/
def execFence (e : Nat) (l : LArgs) (m : MSlot) (s : State) : Host.Outcome State Fault Refusal :=
  .next (settle (runBundle e { m := m, l := { op := 0x25, x := l } } (mSem m.op) lFence s))

/-- SYSRD (04 R150): Reads tick size, rate code or sample tick into a scalar. -/
def execSysrd (e : Nat) (l : LArgs) (m : MSlot) (s : State) : Host.Outcome State Fault Refusal :=
  .next (settle (runBundle e { m := m, l := { op := 0x27, x := l } } (mSem m.op) lSysrd s))

/-- LOOP_COUNT_EXPIRY (04 R153): at the back edge of a loop whose count has run out, execution continues after the body. -/
def execLoopCountExpiry (e : Nat) (s : State) : Host.Outcome State Fault Refusal :=
  let g := engAt s e
  let over_ := match g.loops with | l :: _ => g.pc == l.stop && decide (l.left ≤ 1) | [] => false
  .next (settle (if engRuns s e && over_ then takeEdges e s else s))

/-- WINDOW_DATA_ARRIVAL (04 R158): the bundle at which the engine stalled goes on. -/
def execWindowDataArrival (e : Nat) (s : State) : Host.Outcome State Fault Refusal :=
  .next (settle (match (engAt s e).stalled with
    | none => s
    | some b => runBundle e b (mSem b.m.op) (lSem b.l.op) (modEng e (fun g => { g with stalled := none }) s)))

/-- SWAP_BLOCK_ARRIVAL (04 R172): the swapped chain's block is in its buffer and the chain may start. -/
def execSwapBlockArrival (e : Nat) (s : State) : Host.Outcome State Fault Refusal :=
  .next (settle (if blockMayArrive s e then modEng e (fun g => { g with swapWait := false }) s else s))

end Sys2Proof.Machine
end

