-- ==== Sys2Proof/Machine/EngineM.lean ====
section
/-! DEFINITION. The commands of the engines' M slot: engine `e` executes a bundle with the operation in its M slot and any
operation in its L slot (04 R130-R149). -/

namespace Sys2Proof.Machine

/-- NOP in both slots (04 R142, R150). -/
def execNop (e : Nat) (m : MArgs) (l : LArgs) (s : State) : Host.Outcome State Fault Refusal :=
  .next (settle (runBundle e { m := { x := m }, l := { x := l } } mNop lNop s))

/-- VADD (04 R142): Wrapping lane add. -/
def execVadd (e : Nat) (m : MArgs) (l : LSlot) (s : State) : Host.Outcome State Fault Refusal :=
  .next (settle (runBundle e { m := { op := 0x01, x := m }, l := l } mVadd (lSem l.op) s))

/-- VADDS (04 R142): Saturating lane add. -/
def execVadds (e : Nat) (m : MArgs) (l : LSlot) (s : State) : Host.Outcome State Fault Refusal :=
  .next (settle (runBundle e { m := { op := 0x02, x := m }, l := l } mVadds (lSem l.op) s))

/-- VSUB (04 R142): Wrapping lane subtract. -/
def execVsub (e : Nat) (m : MArgs) (l : LSlot) (s : State) : Host.Outcome State Fault Refusal :=
  .next (settle (runBundle e { m := { op := 0x03, x := m }, l := l } mVsub (lSem l.op) s))

/-- VSUBS (04 R142): Saturating lane subtract. -/
def execVsubs (e : Nat) (m : MArgs) (l : LSlot) (s : State) : Host.Outcome State Fault Refusal :=
  .next (settle (runBundle e { m := { op := 0x04, x := m }, l := l } mVsubs (lSem l.op) s))

/-- VNEGS (04 R142): Saturating lane negate. -/
def execVnegs (e : Nat) (m : MArgs) (l : LSlot) (s : State) : Host.Outcome State Fault Refusal :=
  .next (settle (runBundle e { m := { op := 0x05, x := m }, l := l } mVnegs (lSem l.op) s))

/-- VABSS (04 R142): Saturating lane absolute value. -/
def execVabss (e : Nat) (m : MArgs) (l : LSlot) (s : State) : Host.Outcome State Fault Refusal :=
  .next (settle (runBundle e { m := { op := 0x06, x := m }, l := l } mVabss (lSem l.op) s))

/-- VMAX (04 R142): Signed lane maximum. -/
def execVmax (e : Nat) (m : MArgs) (l : LSlot) (s : State) : Host.Outcome State Fault Refusal :=
  .next (settle (runBundle e { m := { op := 0x07, x := m }, l := l } mVmax (lSem l.op) s))

/-- VMIN (04 R142): Signed lane minimum. -/
def execVmin (e : Nat) (m : MArgs) (l : LSlot) (s : State) : Host.Outcome State Fault Refusal :=
  .next (settle (runBundle e { m := { op := 0x08, x := m }, l := l } mVmin (lSem l.op) s))

/-- VAND (04 R142): Lane bitwise and. -/
def execVand (e : Nat) (m : MArgs) (l : LSlot) (s : State) : Host.Outcome State Fault Refusal :=
  .next (settle (runBundle e { m := { op := 0x09, x := m }, l := l } mVand (lSem l.op) s))

/-- VOR (04 R142): Lane bitwise or. -/
def execVor (e : Nat) (m : MArgs) (l : LSlot) (s : State) : Host.Outcome State Fault Refusal :=
  .next (settle (runBundle e { m := { op := 0x0a, x := m }, l := l } mVor (lSem l.op) s))

/-- VXOR (04 R142): Lane bitwise xor. -/
def execVxor (e : Nat) (m : MArgs) (l : LSlot) (s : State) : Host.Outcome State Fault Refusal :=
  .next (settle (runBundle e { m := { op := 0x0b, x := m }, l := l } mVxor (lSem l.op) s))

/-- VSHLS (04 R142): Saturating lane shift left. -/
def execVshls (e : Nat) (m : MArgs) (l : LSlot) (s : State) : Host.Outcome State Fault Refusal :=
  .next (settle (runBundle e { m := { op := 0x0c, x := m }, l := l } mVshls (lSem l.op) s))

/-- VSHRR (04 R142): Rounding lane shift right. -/
def execVshrr (e : Nat) (m : MArgs) (l : LSlot) (s : State) : Host.Outcome State Fault Refusal :=
  .next (settle (runBundle e { m := { op := 0x0d, x := m }, l := l } mVshrr (lSem l.op) s))

/-- VSHR (04 R142): Truncating arithmetic lane shift right. -/
def execVshr (e : Nat) (m : MArgs) (l : LSlot) (s : State) : Host.Outcome State Fault Refusal :=
  .next (settle (runBundle e { m := { op := 0x0e, x := m }, l := l } mVshr (lSem l.op) s))

/-- VSATN (04 R142): Limits lanes to a symmetric bit range. -/
def execVsatn (e : Nat) (m : MArgs) (l : LSlot) (s : State) : Host.Outcome State Fault Refusal :=
  .next (settle (runBundle e { m := { op := 0x0f, x := m }, l := l } mVsatn (lSem l.op) s))

/-- VCMP (04 R142): Sets a predicate from a lane comparison in any or all lanes. -/
def execVcmp (e : Nat) (m : MArgs) (l : LSlot) (s : State) : Host.Outcome State Fault Refusal :=
  .next (settle (runBundle e { m := { op := 0x10, x := m }, l := l } mVcmp (lSem l.op) s))

/-- VMULR (04 R142): Rounded saturating lane multiply. -/
def execVmulr (e : Nat) (m : MArgs) (l : LSlot) (s : State) : Host.Outcome State Fault Refusal :=
  .next (settle (runBundle e { m := { op := 0x11, x := m }, l := l } mVmulr (lSem l.op) s))

/-- VMAC (04 R142): Accumulates lane products. -/
def execVmac (e : Nat) (m : MArgs) (l : LSlot) (s : State) : Host.Outcome State Fault Refusal :=
  .next (settle (runBundle e { m := { op := 0x18, x := m }, l := l } mVmac (lSem l.op) s))

/-- VMSU (04 R142): Subtracts lane products from an accumulator. -/
def execVmsu (e : Nat) (m : MArgs) (l : LSlot) (s : State) : Host.Outcome State Fault Refusal :=
  .next (settle (runBundle e { m := { op := 0x19, x := m }, l := l } mVmsu (lSem l.op) s))

/-- VMUL (04 R142): Loads an accumulator with lane products. -/
def execVmul (e : Nat) (m : MArgs) (l : LSlot) (s : State) : Host.Outcome State Fault Refusal :=
  .next (settle (runBundle e { m := { op := 0x1a, x := m }, l := l } mVmul (lSem l.op) s))

/-- ACLR (04 R142): Clears an accumulator. -/
def execAclr (e : Nat) (m : MArgs) (l : LSlot) (s : State) : Host.Outcome State Fault Refusal :=
  .next (settle (runBundle e { m := { op := 0x1b, x := m }, l := l } mAclr (lSem l.op) s))

/-- AADD (04 R142): Adds one accumulator to another. -/
def execAadd (e : Nat) (m : MArgs) (l : LSlot) (s : State) : Host.Outcome State Fault Refusal :=
  .next (settle (runBundle e { m := { op := 0x1c, x := m }, l := l } mAadd (lSem l.op) s))

/-- ASUM (04 R142): Sums an accumulator's lanes into lane 0. -/
def execAsum (e : Nat) (m : MArgs) (l : LSlot) (s : State) : Host.Outcome State Fault Refusal :=
  .next (settle (runBundle e { m := { op := 0x1d, x := m }, l := l } mAsum (lSem l.op) s))

/-- VTOA (04 R142): Moves a shifted vector into an accumulator. -/
def execVtoa (e : Nat) (m : MArgs) (l : LSlot) (s : State) : Host.Outcome State Fault Refusal :=
  .next (settle (runBundle e { m := { op := 0x1e, x := m }, l := l } mVtoa (lSem l.op) s))

/-- EXT (04 R142): Extracts a rounded saturated vector from an accumulator. -/
def execExt (e : Nat) (m : MArgs) (l : LSlot) (s : State) : Host.Outcome State Fault Refusal :=
  .next (settle (runBundle e { m := { op := 0x1f, x := m }, l := l } mExt (lSem l.op) s))

/-- BQ (04 R144): Runs one transposed direct-form II biquad per lane. -/
def execBq (e : Nat) (m : MArgs) (l : LSlot) (s : State) : Host.Outcome State Fault Refusal :=
  .next (settle (runBundle e { m := { op := 0x28, x := m }, l := l } mBq (lSem l.op) s))

/-- FIRS (04 R145): Runs one FIR step from a circular state buffer. -/
def execFirs (e : Nat) (m : MArgs) (l : LSlot) (s : State) : Host.Outcome State Fault Refusal :=
  .next (settle (runBundle e { m := { op := 0x29, x := m }, l := l } mFirs (lSem l.op) s))

/-- LIN (04 R146): Converts a gain code to a packed coefficient. -/
def execLin (e : Nat) (m : MArgs) (l : LSlot) (s : State) : Host.Outcome State Fault Refusal :=
  .next (settle (runBundle e { m := { op := 0x2a, x := m }, l := l } mLin (lSem l.op) s))

/-- GMUL (04 R147): Applies a packed coefficient exactly as a Sward tile, saturated. -/
def execGmul (e : Nat) (m : MArgs) (l : LSlot) (s : State) : Host.Outcome State Fault Refusal :=
  .next (settle (runBundle e { m := { op := 0x2b, x := m }, l := l } mGmul (lSem l.op) s))

/-- GMAC (04 R147): Accumulates Sward products without saturation. -/
def execGmac (e : Nat) (m : MArgs) (l : LSlot) (s : State) : Host.Outcome State Fault Refusal :=
  .next (settle (runBundle e { m := { op := 0x2c, x := m }, l := l } mGmac (lSem l.op) s))

/-- LOG2 (04 R148): Computes a rounded Q15.16 base-2 logarithm per lane. -/
def execLog2 (e : Nat) (m : MArgs) (l : LSlot) (s : State) : Host.Outcome State Fault Refusal :=
  .next (settle (runBundle e { m := { op := 0x2d, x := m }, l := l } mLog2 (lSem l.op) s))

/-- EXP2 (04 R149): Computes a rounded base-2 exponent per lane. -/
def execExp2 (e : Nat) (m : MArgs) (l : LSlot) (s : State) : Host.Outcome State Fault Refusal :=
  .next (settle (runBundle e { m := { op := 0x2e, x := m }, l := l } mExp2 (lSem l.op) s))

/-- SADD (04 R142): Wrapping scalar add. -/
def execSadd (e : Nat) (m : MArgs) (l : LSlot) (s : State) : Host.Outcome State Fault Refusal :=
  .next (settle (runBundle e { m := { op := 0x30, x := m }, l := l } mSadd (lSem l.op) s))

/-- SSUB (04 R142): Wrapping scalar subtract. -/
def execSsub (e : Nat) (m : MArgs) (l : LSlot) (s : State) : Host.Outcome State Fault Refusal :=
  .next (settle (runBundle e { m := { op := 0x31, x := m }, l := l } mSsub (lSem l.op) s))

/-- SADDS (04 R142): Saturating scalar add. -/
def execSadds (e : Nat) (m : MArgs) (l : LSlot) (s : State) : Host.Outcome State Fault Refusal :=
  .next (settle (runBundle e { m := { op := 0x32, x := m }, l := l } mSadds (lSem l.op) s))

/-- SMUL (04 R142): Low 32 bits of a scalar product. -/
def execSmul (e : Nat) (m : MArgs) (l : LSlot) (s : State) : Host.Outcome State Fault Refusal :=
  .next (settle (runBundle e { m := { op := 0x33, x := m }, l := l } mSmul (lSem l.op) s))

/-- SAND (04 R142): Scalar bitwise and. -/
def execSand (e : Nat) (m : MArgs) (l : LSlot) (s : State) : Host.Outcome State Fault Refusal :=
  .next (settle (runBundle e { m := { op := 0x34, x := m }, l := l } mSand (lSem l.op) s))

/-- SOR (04 R142): Scalar bitwise or. -/
def execSor (e : Nat) (m : MArgs) (l : LSlot) (s : State) : Host.Outcome State Fault Refusal :=
  .next (settle (runBundle e { m := { op := 0x35, x := m }, l := l } mSor (lSem l.op) s))

/-- SXOR (04 R142): Scalar bitwise xor. -/
def execSxor (e : Nat) (m : MArgs) (l : LSlot) (s : State) : Host.Outcome State Fault Refusal :=
  .next (settle (runBundle e { m := { op := 0x36, x := m }, l := l } mSxor (lSem l.op) s))

/-- SSHL (04 R142): Scalar shift left. -/
def execSshl (e : Nat) (m : MArgs) (l : LSlot) (s : State) : Host.Outcome State Fault Refusal :=
  .next (settle (runBundle e { m := { op := 0x37, x := m }, l := l } mSshl (lSem l.op) s))

/-- SSHR (04 R142): Scalar arithmetic shift right. -/
def execSshr (e : Nat) (m : MArgs) (l : LSlot) (s : State) : Host.Outcome State Fault Refusal :=
  .next (settle (runBundle e { m := { op := 0x38, x := m }, l := l } mSshr (lSem l.op) s))

/-- SADDI (04 R142): Scalar add of a sign-extended immediate. -/
def execSaddi (e : Nat) (m : MArgs) (l : LSlot) (s : State) : Host.Outcome State Fault Refusal :=
  .next (settle (runBundle e { m := { op := 0x39, x := m }, l := l } mSaddi (lSem l.op) s))

/-- SMOVI (04 R142), in format 0x1 with a long immediate. -/
def execSmovi (e : Nat) (m : MArgs) (l : LSlot) (imm : Option Nat) (s : State) : Host.Outcome State Fault Refusal :=
  .next (settle (runBundle e { fmt := if imm.isSome then 1 else 0, m := { op := 0x3a, x := m }, l := l, imm := imm.getD 0 } mSmovi (lSem l.op) s))

/-- SCMP (04 R142): Sets a predicate from a scalar comparison. -/
def execScmp (e : Nat) (m : MArgs) (l : LSlot) (s : State) : Host.Outcome State Fault Refusal :=
  .next (settle (runBundle e { m := { op := 0x3b, x := m }, l := l } mScmp (lSem l.op) s))

/-- QSET (04 R142): Sets a predicate to an immediate bit. -/
def execQset (e : Nat) (m : MArgs) (l : LSlot) (s : State) : Host.Outcome State Fault Refusal :=
  .next (settle (runBundle e { m := { op := 0x3c, x := m }, l := l } mQset (lSem l.op) s))

/-- VBC (04 R142): Broadcasts a scalar to every lane. -/
def execVbc (e : Nat) (m : MArgs) (l : LSlot) (s : State) : Host.Outcome State Fault Refusal :=
  .next (settle (runBundle e { m := { op := 0x40, x := m }, l := l } mVbc (lSem l.op) s))

/-- VGET (04 R142): Reads one lane into a scalar. -/
def execVget (e : Nat) (m : MArgs) (l : LSlot) (s : State) : Host.Outcome State Fault Refusal :=
  .next (settle (runBundle e { m := { op := 0x41, x := m }, l := l } mVget (lSem l.op) s))

/-- VPUT (04 R142): Writes a scalar into one lane. -/
def execVput (e : Nat) (m : MArgs) (l : LSlot) (s : State) : Host.Outcome State Fault Refusal :=
  .next (settle (runBundle e { m := { op := 0x42, x := m }, l := l } mVput (lSem l.op) s))

/-- VMOV (04 R142): Copies a vector. -/
def execVmov (e : Nat) (m : MArgs) (l : LSlot) (s : State) : Host.Outcome State Fault Refusal :=
  .next (settle (runBundle e { m := { op := 0x43, x := m }, l := l } mVmov (lSem l.op) s))

/-- VROT (04 R142): Rotates lanes. -/
def execVrot (e : Nat) (m : MArgs) (l : LSlot) (s : State) : Host.Outcome State Fault Refusal :=
  .next (settle (runBundle e { m := { op := 0x44, x := m }, l := l } mVrot (lSem l.op) s))

/-- VIMM (04 R142): Loads every lane with a long immediate. -/
def execVimm (e : Nat) (m : MArgs) (imm : Nat) (s : State) : Host.Outcome State Fault Refusal :=
  .next (settle (runBundle e { fmt := 1, m := { op := 0x45, x := m }, imm := imm } mVimm lNop s))

end Sys2Proof.Machine
end

