-- ==== Sys2Proof/Machine/FabricRun.lean ====
section
/-! DEFINITION. The Core Fabric and the home ports: address map, access rights, locked sequences, arbitration, check bits and poison, and
the events of the Heath banks and of delay memory (07, 08 R286-R312). -/

namespace Sys2Proof.Machine

/-! ## The address map (07 R267) -/

/-- The decode range of an address: 0 none, 1 boot ROM at zero, 2 alias of H17, 3 Heath, 4 engine local stores, 5 Sward control port,
6 MRAM, 7 xSPI window, 8 registers, 9 boot ROM, 10 delay memory. -/
def rangeAt (s : State) (a : Nat) : Nat :=
  let within := fun (lo hi : Nat) => decide (lo ≤ a) && decide (a ≤ hi)
  if !s.fab.remap && within 0 0x3FFFF then 1
  else if s.fab.remap && within 0 0x3FFFFF then 2
  else if within 0x0100000000 0x0104FFFFFF then 3
  else if within 0x0800000000 0x0802FFFFFF then 4
  else if within 0x1000000000 0x1007FFFFFF then 5
  else if within 0x2000000000 0x20007FFFFF then 6
  else if within 0x2010000000 0x201FFFFFFF then 7
  else if within 0x3000000000 0x30FFFBFFFF then 8
  else if within 0x30FFFC0000 0x30FFFFFFFF then 9
  else if s.mem.ready && decide (dramBase ≤ a) && decide (a < dramBase + s.part.dramMiB * 1048576) then 10
  else 0

/-- The address that the alias of H17 stands for. -/
def physAddr (s : State) (a : Nat) : Nat := if rangeAt s a = 2 then heathBase 17 + a else a

/-- The bank of a Heath address. -/
def bankOfAddr (a : Nat) : Nat := (a - heathBase 0) / 0x400000

/-- The target of an address (07 R266). -/
def targetOf (s : State) (a : Nat) : Nat :=
  match rangeAt s a with
  | 2 => 0x11
  | 3 => bankOfAddr a
  | 5 => 0x15
  | 6 => 0x16
  | 7 => 0x16
  | 10 => 0x14
  | 0 => 0x1F
  | _ => 0x17

/-- The bytes an access covers. -/
def lengthOf (x : Access) : Nat := if x.kind < 2 then 64 * x.n else x.n

/-- ACCESS of a fault record (16 R621). -/
def accessCode (x : Access) : Nat := if x.kind = 0 then (if x.lock then 5 else 1) else if x.kind = 1 then (if x.lock then 6 else 2) else x.kind + 1

/-- What an access adds to a fault (16 R619). -/
def faccOf (s : State) (x : Access) (resp : Nat) : FAcc :=
  { master := x.m, target := targetOf s x.addr, access := accessCode x, resp := resp }

/-- Whether a master exists: the masters of absent Leas never request, and no other IDs are in use (07 R265). -/
def masterHere (s : State) (m : Nat) : Bool := decide (m < 24) && (decide (16 ≤ m) || hasLea s m)

/-- Whether a read of the Sward control port finds a word there (03 R104, R105). -/
def swardHas (s : State) (a : Nat) : Bool :=
  let o := a - 0x1000000000
  let cols := 64 * tileCount s.part.variant
  if o < 0x4000000 then decide (o / 16384 < cols)
  else if o < 0x4200000 then decide ((o - 0x4000000) / 512 < cols)
  else decide (o < 0x4208100)

/-- Whether an address lies in the secure region or its alias (08, The secure region). -/
def inSecure (s : State) (a : Nat) : Bool := let p := physAddr s a; decide (0x0104700000 ≤ p) && decide (p ≤ 0x01047FFFFF)

/-- Whether a master may make an access over the fabric (07 R269, R271, R284). -/
def mayAccess (s : State) (x : Access) : Bool :=
  let write := x.kind != 0 && x.kind != 4
  let debug := x.m == 0x17 && s.mode.mode == 4
  let rights := match rangeAt s x.addr with
    | 2 => !inSecure s x.addr
    | 3 => !inSecure s x.addr && !heldOff s (bankOfAddr x.addr)
    | 4 => !write || x.m == 0x16 || debug
    | 6 => decide (x.addr < 0x20007F0000) && (!write || x.m == 0x10 || x.m == 0x11 || debug)
    | 7 => !write
    | 8 => !write || mayWriteReg s x.m
    | 1 => !write && (x.m == 0x11 || x.m == 0x17)
    | 9 => !write && (x.m == 0x11 || x.m == 0x17)
    | _ => true
  let heath := rangeAt s x.addr == 2 || rangeAt s x.addr == 3
  if x.kind = 4 then
    (x.m == 0x10 || x.m == 0x11 || x.m == 0x15 || x.m == 0x17)
      && (s.fab.locks.all fun l => l.master != x.m || l.target == targetOf s x.addr) && rangeAt s x.addr != 5 && rangeAt s x.addr != 4 && rights
  else if 2 ≤ x.kind then rights && heath && (x.n == 4 || x.n == 8) && x.addr % x.n == 0
  else rights

/-- The response that stops an access before its target performs it, in the order of 07 R272; zero for none. -/
def refused (s : State) (x : Access) : Nat :=
  let g := rangeAt s x.addr
  let end_ := x.addr + lengthOf x - 1
  if s.fab.isolated && (dataMaster x.m || g == 4 || g == 5) then 6
  else if decide (x.kind < 2) && (x.n == 0 || decide (16 < x.n) || x.addr % 64 != 0 || x.addr / 4096 != end_ / 4096) then 1
  else if g = 0 || (decide (x.kind < 2) && rangeAt s end_ != g) then 1
  else if g == 4 && !hasEngine s ((x.addr - 0x0800000000) / 0x40000) then 1
  else if g == 5 && (x.kind == 1 || (x.kind == 0 && !(swardHas s x.addr && swardHas s end_)) || (decide (2 ≤ x.kind) && !swardHas s x.addr)) then 1
  else if !mayAccess s x then 2
  else 0

/-! ## Engine local stores (04 R123-R129) -/

/-- Whether an address lies in the local-store window. -/
def isLocal (a : Nat) : Bool := decide (0x0800000000 ≤ a) && decide (a ≤ 0x0802FFFFFF)

/-- The engine and the offset of an address of the local-store window (04 R123). -/
def localPos (a : Nat) : Nat × Nat := ((a - 0x0800000000) / 0x40000, (a - 0x0800000000) % 0x40000)

/-- The chain whose swapped block lies in a swap buffer of an engine while the chain runs, and the offset at which it begins: the chains that an
engine runs swapped take its two buffers in turn (04 R172; log entry 13). -/
def swapAt (s : State) (e : Nat) : Option (Nat × Nat) :=
  let h := (engAt s e).cur
  let l := (chainsOn s e).filter fun k => (chainD s k).swap.isSome
  if l.contains h && !(engAt s e).swapWait then some (h, swapStart s e + (l.idxOf h % 2) * swapSize s e) else none

/-- The chains whose images are in an engine's local store: those of its run list whose admission copy has been made (05 R207). -/
def copiedOn (s : State) (e : Nat) : List Nat :=
  (chainsOn s e).filter fun h => !(s.place.migr.any fun m => m.handle == h && m.phase == 3)

/-- The chain, the kind and the place in its image that an offset of an engine's local store holds: code images, then resident state
blocks, in the order of the run list, then a block in a swap buffer (log entry 13). -/
def localAt (s : State) (e off : Nat) : Option (Nat × Bool × Nat) :=
  let code := decide (off < 0x10000)
  let size := fun (h : Nat) =>
    let d := chainD s h
    if code then d.desc.codeBytes else if d.swap.isNone then d.desc.stateBytes else 0
  let rec go : List Nat → Nat → Option (Nat × Bool × Nat)
    | [], _ => none
    | h :: r, o => if o < size h then some (h, code, o) else go r (o - size h)
  let swapped := match swapAt s e with
    | some (h, a) => if a ≤ off ∧ off < a + (chainD s h).desc.stateBytes then some (h, false, off - a) else none
    | none => none
  if 0x38000 ≤ off then none else (go (copiedOn s e) (if code then off else off - 0x10000)).or (if code then none else swapped)

/-- A byte of a local store. Where no chain's code or resident block stands: zero since it was zeroed, what a fabric write put there, or,
once the movers and the copier have used the store, open, as it is in a store that is switched off (log entry 13). -/
def localByte (a : Nat) (s : State) : Byte × State :=
  let (e, off) := localPos a
  let g := engAt s e
  match localAt s e off with
  | some (h, code, i) => (rdCell zeroAt (if code then (chainD s h).code else (chainD s h).blk) i, s)
  | none =>
    if g.pst = 0 then fresh 8 s
    else match tget g.store off with
      | some b => (b, s)
      | none => if g.touched then fresh 8 s else (0, s)

/-- Writes a byte of a local store; one that is switched off keeps nothing. -/
def setLocal (a : Nat) (b : Byte) (s : State) : State :=
  let (e, off) := localPos a
  match localAt s e off with
  | some (h, code, i) => modChain h (fun c => if code then { c with code := wrCell zeroAt c.code i b } else { c with blk := wrCell zeroAt c.blk i b }) s
  | none => if (engAt s e).pst = 0 then s else modEng e (fun g => { g with store := tset g.store off b }) s

/-- Changes the list of poisoned words that a word of a local store belongs to: of code, of a block, or of the rest of the store. -/
def modLocalBad (w : Nat) (f : Nat → List Nat → List Nat) (s : State) : State :=
  let (e, off) := localPos (8 * w)
  match localAt s e off with
  | some (h, code, i) => modChain h (fun c => if code then { c with badCode := f (i / 8) c.badCode } else { c with poison := f (i / 8) c.poison }) s
  | none => modEng e (fun g => { g with bad := f (off / 8) g.bad }) s

/-- Whether a word of a local store is poisoned (04 R126). -/
def localBad (s : State) (w : Nat) : Bool :=
  let (e, off) := localPos (8 * w)
  match localAt s e off with
  | some (h, code, i) => (if code then (chainD s h).badCode else (chainD s h).poison).contains (i / 8)
  | none => (engAt s e).bad.contains (off / 8)

/-! ## Check bits and poison (04 R126, 08 R291, R305) -/

/-- Whether a 64-bit word is marked poisoned. -/
def marked (s : State) (w : Nat) : Bool := if isLocal (8 * w) then localBad s w else s.mem.poison.contains w || s.mem.dramTab.contains w

/-- Whether an access finds word `i` of it uncorrectable and not marked; a word that the full table could not list stays so (08 R305). -/
def findsBad (x : Access) (i w : Nat) (s : State) : Bool := x.ue.contains i || s.mem.dramBad.contains w

/-- Marks a word: one of a local store there, a Heath word in its bank's array, a word of delay memory in the table while it has room
(08 R305). -/
def markWord (w : Nat) (s : State) : State :=
  let unlisted := s.mem.dramBad.filter fun v => v != w
  if marked s w then s
  else if isLocal (8 * w) then modLocalBad w (fun i l => l ++ [i]) s
  else if 8 * w < dramBase then { s with mem := { s.mem with poison := s.mem.poison ++ [w] } }
  else if s.mem.dramTab.length < 4096 then { s with mem := { s.mem with dramTab := s.mem.dramTab ++ [w], dramBad := unlisted } }
  else { s with mem := { s.mem with dramBad := unlisted ++ [w], dramOvf := true } }

/-- A full-word write clears a word's mark. -/
def unmarkWord (w : Nat) (s : State) : State :=
  let off := fun (l : List Nat) => l.filter fun v => v != w
  if isLocal (8 * w) then modLocalBad w (fun i l => l.filter fun v => v != i) s
  else { s with mem := { s.mem with poison := off s.mem.poison, dramTab := off s.mem.dramTab, dramBad := off s.mem.dramBad } }

/-- Counts corrected errors at an address. -/
def countCorrected (a k : Nat) (s : State) : State :=
  if k = 0 then s
  else if isLocal a then modEng (localPos a).1 (fun g => { g with ce := g.ce + k }) s
  else if a < dramBase then countCe (bankOfAddr a) k s
  else { s with mem := { s.mem with dramCe := min 0xFFFF (s.mem.dramCe + k), dramCeSat := s.mem.dramCeSat || decide (0xFFFF < s.mem.dramCe + k) } }

/-- An uncorrectable word found unmarked: marked, counted, and a Degraded fault, or a Fatal one in the control processors' code
(08 R291, R292, 16 R609). One of a local store counts for its engine (05 R218); its fault is 0x0305 (DESIGN CHOICE, log entry 66). -/
def foundBad (w id : Nat) (x : FAcc) (s : State) : State :=
  let s := markWord w s
  if isLocal (8 * w) then
    let e := (localPos (8 * w)).1
    localErrors e 1 (raiseX 0x0305 e x false true s)
  else if 8 * w < dramBase then countUe id (bankOfAddr (8 * w)) (8 * w) x s
  else raiseX 0x0701 (8 * w) x false true { s with mem := { s.mem with dramUe := min 0xFFFF (s.mem.dramUe + 1), dramUeSat := s.mem.dramUeSat || s.mem.dramUe == 0xFFFF } }

/-- The fault of an uncorrectable word met by an access. -/
def badId (a : Nat) (x : Access) : Nat := if x.code && (bankOfAddr a == 16 || bankOfAddr a == 17) then 0x0603 else 0x0601

/-- Bytes whose value the spec leaves open. -/
def freeBytes : Nat → State → List Byte × State
  | 0, s => ([], s)
  | n + 1, s => let (v, s) := fresh 8 s; let (r, s) := freeBytes n s; (v :: r, s)

/-- The bytes of a local store at consecutive addresses. -/
def localBytes : Nat → Nat → State → List Byte × State
  | 0, _, s => ([], s)
  | n + 1, a, s => let (v, s) := localByte a s; let (r, s) := localBytes n (a + 1) s; (v :: r, s)

/-- Whether the KD9's own units have put bytes at an address of delay memory below the line pool, in a layout that the spec does not give:
align delay, capture staging and replay read-ahead once used since the array was zeroed, and firmware's tables once firmware runs
(08 R307-R309; log entry 12). -/
def unitsUse (s : State) (a : Nat) : Bool :=
  let o := a - dramBase
  if a < dramBase || poolBase ≤ a then false
  else if o < 0x800000 then s.mem.used.contains 0
  else if o < 0x8800000 then s.mem.used.contains 1
  else if o < 0xC800000 then s.mem.used.contains 2
  else s.mode.mode != 2

/-- Bytes of delay memory in a region that the KD9's units use: what fabric masters wrote since the units last worked there, else open. -/
def usedBytes : Nat → Nat → State → List Byte × State
  | 0, _, s => ([], s)
  | n + 1, a, s =>
    let (v, s) := if s.mem.wrote.contains a then (memRead s a, s) else fresh 8 s
    let (r, s) := usedBytes n (a + 1) s
    (v :: r, s)

/-- A clean word. -/
def wordBytesAt (a : Nat) (s : State) : List Byte × State :=
  if isLocal a then localBytes 8 a s else if unitsUse s a then usedBytes 8 a s else (memReads s a 8, s)

/-- The bytes that a write over the fabric leaves in a region that the KD9's units use, and that read back until those work there again (08 R309).
Firmware works in its tables at any time. -/
def noteWrote (w : Nat) (lanes : List Bool) (s : State) : State :=
  let new := ((List.range 8).filter fun i => lanes.getD i false && !s.mem.wrote.contains (8 * w + i)).map (8 * w + ·)
  if unitsUse s (8 * w) && decide (8 * w < dramBase + 0xC800000) then { s with mem := { s.mem with wrote := s.mem.wrote ++ new } } else s

/-- Reads the words of an access from `i` on: data, whether any carried POISON, and the state. -/
def readWords (x : Access) (a : Nat) : Nat → Nat → State → List Byte × Bool × State
  | 0, _, s => ([], false, s)
  | k + 1, i, s =>
    let w := a / 8 + i
    let bad := marked s w || findsBad x i w s
    let (b, s) := if marked s w then (zeroBytes 8, s)
      else if findsBad x i w s then (zeroBytes 8, foundBad w (badId a x) (faccOf s x 3) s)
      else wordBytesAt (8 * w) s
    let (r, p, s) := readWords x a k (i + 1) s
    (b ++ r, bad || p, s)

/-- The byte lanes of word `i` of a write. -/
def lanesOf (x : Access) (i : Nat) : List Bool := if x.mask.isEmpty then List.replicate 8 true else (List.range 8).map fun j => x.mask.getD (8 * i + j) false

/-- Bytes merged by lanes. -/
def mergeLanes (lanes : List Bool) (new old : List Byte) : List Byte := (lanes.zip (new.zip old)).map fun x => if x.1 then x.2.1 else x.2.2

/-- Stores the lanes of a word. -/
def putLanes (w : Nat) (lanes : List Bool) (new : List Byte) (s : State) : State :=
  if isLocal (8 * w) then
    (List.range 8).foldl (fun t i => if lanes.getD i false then setLocal (8 * w + i) (new.getD i 0) t else t) s
  else noteWrote w lanes (memWrites (8 * w) (mergeLanes lanes new (memReads s (8 * w) 8)) s)

/-- Writes the words of an access from `i` on: whether any carried POISON, whether one was marked before, whether one was lost (08 R289,
R291). -/
def writeWords (x : Access) (a : Nat) : Nat → Nat → State → (Bool × Bool × Bool) × State
  | 0, _, s => ((false, false, false), s)
  | k + 1, i, s =>
    let w := a / 8 + i
    let lanes := lanesOf x i
    let new := fit 8 ((x.data.drop (8 * i)).take 8)
    let lost := x.lost.contains i && lanes.any id && !x.home
    let full := lanes.all id
    let was := marked s w
    let bad := !full && lanes.any id && !lost && (was || findsBad x i w s)
    let s := if lost || !lanes.any id then s
      else if full then putLanes w lanes new (unmarkWord w s)
      else if was then s
      else if findsBad x i w s then foundBad w (badId a x) (faccOf s x 3) s
      else putLanes w lanes new s
    let (f, s) := writeWords x a k (i + 1) s
    ((bad || f.1, (bad && was) || f.2.1, lost || f.2.2), s)

/-- Beats of a read from beat `b` on: data and the response of each (07 R272). -/
def readBeats (x : Access) (a : Nat) : Nat → Nat → State → List Byte × List Nat × State
  | 0, _, s => ([], [], s)
  | k + 1, b, s =>
    let (d, bad, s) := readWords x a 8 (8 * b) s
    let (r, c, s) := readBeats x a k (b + 1) s
    (d ++ r, (if bad then 3 else 0) :: c, s)

/-- Beats of a write from beat `b` on: the response of each, and whether one met a word marked before (07 R272). -/
def writeBeats (x : Access) (a : Nat) : Nat → Nat → State → List Nat × Bool × State
  | 0, _, s => ([], false, s)
  | k + 1, b, s =>
    let (f, s) := writeWords x a 8 (8 * b) s
    let (c, was, s) := writeBeats x a k (b + 1) s
    ((if f.1 then 3 else if f.2.2 then 4 else 0) :: c, f.2.1 || was, s)

/-- ATOMIC_ADD and ATOMIC_SWAP on one word (07 R271, R273, 08 R290, R291): the old value, zero where nothing changes. -/
def atomicWord (x : Access) (a : Nat) (s : State) : List Byte × Nat × State :=
  let w := a / 8
  if marked s w then (zeroBytes x.n, 3, s)
  else if !x.ue.isEmpty then (zeroBytes x.n, 3, foundBad w (badId a x) (faccOf s x 3) s)
  else if !x.lost.isEmpty && !x.home then (zeroBytes x.n, 4, s)
  else
    let old := memReads s a x.n
    let v := le x.data 0 x.n
    let new := if x.kind = 2 then (ofLE old + v) % 2 ^ (8 * x.n) else v
    (old, 0, memWrites a (toLE x.n new) s)

/-! ## The other targets -/

/-- A word of the Sward control port (03 R104-R110). -/
def swardWord (s : State) (a : Nat) : Nat :=
  let o := a - 0x1000000000
  if o < 0x4000000 then gainWord (tgetD s.sward.nodes (o / 4) {})
  else if o < 0x4200000 then ofBits ((List.range 32).filter fun i => (tgetD s.sward.nodes (8 * (o - 0x4000000) + i) {}).pol)
  else if o < 0x4204000 then rampWord (rampAt s.sward ((o - 0x4200000) / 4))
  else if o < 0x4208000 then clipWord (tgetD s.sward.clips ((o - 0x4204000) / 4) {})
  else tileWord s ((o - 0x4208000) / 4)

/-- Four bytes at an address of a target without poison marks. -/
def otherWord (s : State) (a : Nat) : List Byte × State :=
  match rangeAt s a with
  | 1 => ((List.range 4).map fun i => Config.bootRom (a + i), s)
  | 9 => ((List.range 4).map fun i => Config.bootRom (a - 0x30FFFC0000 + i), s)
  | 5 => (toLE 4 (swardWord s a), s)
  | 8 => match fabReg s a with
    | some v => (toLE 4 v, s)
    | none => freeBytes 4 s
  | _ => (memReads s a 4, s)

/-- Words of a target without poison marks. -/
def otherWords : Nat → Nat → State → List Byte × State
  | 0, _, s => ([], s)
  | k + 1, a, s =>
    let (b, s) := otherWord s a
    let (r, s) := otherWords k (a + 4) s
    (b ++ r, s)

/-- A write to a target without poison marks: MRAM by byte lane, a register where its whole word is written. -/
def otherWrite (x : Access) (beats : Nat) (s : State) : State :=
  let lane := fun (i : Nat) => x.mask.isEmpty || x.mask.getD i false
  let byte := fun (i : Nat) => x.data.getD i 0
  if rangeAt s x.addr = 8 then
    (List.range (16 * beats)).foldl (fun t w =>
      if (List.range 4).all fun j => lane (4 * w + j) then fabRegWrite (x.addr + 4 * w) (le x.data (4 * w) 4) t else t) s
  else
    (List.range (64 * beats)).foldl (fun t i =>
      if !lane i then t
      else memWrites (x.addr + i) [byte i] t) s

/-! ## One access -/

/-- Raises the fault of a response (07 R272). -/
def respFault (x : Access) (resp : Nat) (s : State) : State :=
  if resp = 1 ∨ resp = 2 ∨ resp = 3 ∨ resp = 4 ∨ resp = 5 then raiseX (0x0500 + resp) x.addr (faccOf s x resp) false true s else s

/-- Place of a response in the order of precedence of 07 R272; 0 is OKAY's. -/
def respRank (r : Nat) : Nat := ([0, 5, 4, 2, 1, 3, 6] : List Nat).getD r 0

/-- The overall response of a transaction: that of its beats with the highest precedence (07 R272). -/
def overall (codes : List Nat) : Nat := codes.foldl (fun a r => if respRank a < respRank r then r else a) 0

/-- The end of an access: its response, the responses of its beats and its data go to the master. -/
def answer (x : Access) (codes : List Nat) (data : List Byte) (s : State) : State :=
  emit { kind := .fabric, a := overall codes, b := x.m, c := x.addr, bytes := data, codes := codes } s

/-- Beats of an access; an atomic operation or a request for a lock has one. -/
def beatsOf (x : Access) : Nat := if x.kind < 2 then x.n else 1

/-- An access all of whose beats complete with one response. -/
def answerAll (x : Access) (resp : Nat) (s : State) : State := answer x (List.replicate (beatsOf x) resp) [] s

/-- An access performed by its target for its first beats; the others, of a locked sequence that has reached a limit, abort (07 R272, R273,
R283). A transaction raises the fault of a response once. -/
def perform (x : Access) (beats : Nat) (s : State) : State :=
  let p := physAddr s x.addr
  let g := rangeAt s x.addr
  let ecc := g == 2 || g == 3 || g == 4 || g == 10
  let cut := List.replicate (beatsOf x - beats) 5
  let s := if cut.isEmpty then s else respFault x 5 s
  if x.kind = 0 then
    if ecc then
      let (d, c, s) := readBeats x p beats 0 (countCorrected p x.ce s)
      answer x (c ++ cut) d (if c.contains 3 then respFault x 3 s else s)
    else
      let (d, s) := otherWords (16 * beats) x.addr s
      answer x (List.replicate beats 0 ++ cut) d s
  else if x.kind = 1 then
    if ecc then
      let (c, was, s) := writeBeats x p beats 0 (countCorrected p x.ce s)
      let s := if was then respFault x 3 s else s
      let s := if c.contains 4 then respFault x 4 s else s
      answer x (c ++ cut) [] s
    else answer x (List.replicate beats 0 ++ cut) [] (otherWrite x beats s)
  else
    let (d, r, s) := atomicWord x p (countCorrected p x.ce s)
    answer x [r] d (respFault x r s)

/-! ## Locked sequences, waiting and arbitration (07 R274, R279, R282, R283, 08 R293-R296) -/

/-- Whether a locked sequence of another master holds a target. -/
def lockedOut (s : State) (x : Access) : Bool := !x.home && s.fab.locks.any fun l => l.target == targetOf s x.addr && l.master != x.m

/-- Whether an access must wait for its bank to be On. -/
def bankBusy (s : State) (x : Access) : Bool :=
  let g := rangeAt s x.addr
  (g == 2 || g == 3) && !bankReady s (bankOfAddr (physAddr s x.addr))

/-- An access to a bank in Retention or Fallow turns it on; under policy Fallow a home-port access stalls (08 R293, R294). -/
def wakeFor (x : Access) (s : State) : State :=
  if bankBusy s x then useBank (bankOfAddr (physAddr s x.addr)) s else s

/-- Ends a locked sequence of a master on a target, by its last beat or, with `limit`, by a limit of R283. -/
def endLock (t m : Nat) (limit : Bool) (s : State) : State :=
  let mine := fun (l : Lock) => l.target == t && l.master == m
  { s with fab := { s.fab with locks := s.fab.locks.filter (fun l => !mine l),
                               ended := if limit then s.fab.ended ++ s.fab.locks.filter mine else s.fab.ended } }

/-- A granted access: a lock is taken, or the beats run that its locked sequence still may (07 R282, R283). -/
def grant (x : Access) (s : State) : State :=
  let t := targetOf s x.addr
  let mine := fun (l : Lock) => l.target == t && l.master == x.m
  let s := if x.home then s else { s with fab := { s.fab with last := tset s.fab.last t x.m } }
  if x.kind = 4 then
    answerAll x 0 { s with fab := { s.fab with locks := s.fab.locks.filter (fun l => !mine l) ++ [{ target := t, master := x.m }],
                                               ended := s.fab.ended.filter fun l => !mine l } }
  else match (if x.lock then s.fab.locks.find? mine else none) with
    | none => perform x (beatsOf x) s
    | some l =>
      let beats := beatsOf x
      let s := perform x (min (16 - l.beats) beats) s
      let s := { s with fab := { s.fab with locks := s.fab.locks.map fun k => if mine k then { k with beats := min 16 (k.beats + beats) } else k } }
      if x.last then endLock t x.m false s
      else if 16 ≤ l.beats + beats then endLock t x.m true s
      else s

/-- The locked sequence that an access belongs to and that a limit or a Plane reset has ended (07 R283, R284). -/
def endedLock (s : State) (x : Access) : Option Lock :=
  if x.lock then s.fab.ended.find? fun l => l.target == targetOf s x.addr && l.master == x.m else none

/-- The response that stops an access before its target performs it, in the order of 07 R272: ISOLATED, DECERR, DENIED, LOCK_ABORT; zero for
none. A home-port access is stopped by none of them. -/
def stopped (s : State) (x : Access) : Nat :=
  if x.home then 0
  else match endedLock s x with
    | some l => if l.iso then 6 else if refused s x = 0 then 5 else refused s x
    | none => refused s x

/-- An access that is stopped: its fault, and the end of its locked sequence where it is the last beat. -/
def turnAway (x : Access) (r : Nat) (s : State) : State :=
  let s := match endedLock s x with
    | some l => if x.last then { s with fab := { s.fab with ended := s.fab.ended.filter fun k => !(k.target == l.target && k.master == l.master) } } else s
    | none => s
  answerAll x r (respFault x r s)

/-- Priority of a master at a target, 0 to 3 (07 R275, R276). -/
def priorityOf (s : State) (t m : Nat) : Nat :=
  if m < 16 then bits (tgetD s.fab.priLo t 0xAAAAAAAA) (2 * m + 1) (2 * m) else bits (tgetD s.fab.priHi t 0x23E5) (2 * (m - 16) + 1) (2 * (m - 16))

/-- Whether a target grants in weighted rounds (07 R276, R279). -/
def weighted (s : State) (t : Nat) : Bool := bit (tgetD s.fab.priHi t 0x23E5) 31

/-- The weight of a master in a round: for a Lea, its engines with a request pending, 1 to 12; else 1 (07 R279). -/
def weightOf (l : List Access) (m : Nat) : Nat :=
  if m < 16 then ((List.range 12).filter fun e => l.any fun x => x.m == m && x.eng == e).length else 1

/-- The round of a weighted target at a level, with a new one begun where the last has run out (07 R279): grants left per master that still
requests, in master-ID order. -/
def roundOf (s : State) (key : Nat) (l : List Access) : List (Nat × Nat) :=
  let asks := fun (m : Nat) => l.any fun x => x.m == m
  let old := (tgetD s.fab.round key []).filter fun r => asks r.1 && r.2 != 0
  if old.isEmpty then ((List.range 24).filter asks).map fun m => (m, weightOf l m) else old

/-- The access that a target grants next among those ready: a home-port access, else from the highest level the master whose turn it is, by
the weighted round or round-robin from the master last granted; of one master the oldest (07 R274, R276, R279, 08 R288). Masters that a locked
sequence shuts out keep their grants of the round; its own master goes on beyond its weight (07 R282). -/
def nextGrant (s : State) (t : Nat) (ready : List Access) : Option (Access × State) :=
  match ready.find? (·.home) with
  | some x => some (x, s)
  | none =>
    let top := lmax (ready.map fun x => priorityOf s t x.m)
    let l := ready.filter fun x => priorityOf s t x.m == top
    let rr := fun (z : Access) => (z.m + 23 - tgetD s.fab.last t 23) % 24
    let turn := (bestBy (fun x y => decide (rr x < rr y)) l).map fun x => (x, s)
    if weighted s t then
      let key := 4 * t + top
      let rd := roundOf s key (s.fab.waiting.filter fun x => targetOf s x.addr == t && !x.home && stopped s x == 0 && priorityOf s t x.m == top)
      match rd.find? fun r => l.any fun x => x.m == r.1 with
      | none => turn
      | some g => (l.find? fun x => x.m == g.1).map fun x =>
          (x, { s with fab := { s.fab with round := tset s.fab.round key (rd.map fun r => if r.1 = g.1 then (r.1, r.2 - 1) else r) } })
    else turn

/-- Removes the first element that equals `x`. -/
def dropOne (x : Access) : List Access → List Access
  | [] => []
  | y :: r => if y = x then r else y :: dropOne x r

/-- The accesses at a target that nothing blocks. -/
def readyAt (s : State) (t : Nat) : List Access :=
  s.fab.waiting.filter fun x => targetOf s x.addr == t && (stopped s x != 0 || (!lockedOut s x && !bankBusy s x))

/-- A target serves the accesses that wait for it, as far as none blocks: those that are stopped first, then by arbitration. The count bounds
the grants. -/
def serve (t : Nat) : Nat → State → State
  | 0, s => s
  | n + 1, s =>
    let out := fun (x : Access) (u : State) => { u with fab := { u.fab with waiting := dropOne x u.fab.waiting } }
    match (readyAt s t).find? fun x => stopped s x != 0 with
    | some x => serve t n (turnAway x (stopped s x) (out x s))
    | none =>
      match nextGrant s t (readyAt s t) with
      | none => s
      | some (x, u) => serve t n (grant x (out x u))

/-- Serves whatever waits for a target. -/
def serveAll (t : Nat) (s : State) : State := serve t s.fab.waiting.length s

/-- An access reaches its target and waits until it is granted (07 R274, R282, 08 R293, R294); one that is stopped completes at once. -/
def access (x : Access) (s : State) : State :=
  if !awake s || !masterHere s x.m then s
  else if stopped s x ≠ 0 then turnAway x (stopped s x) s
  else
    let s := wakeFor x s
    serveAll (targetOf s x.addr) { s with fab := { s.fab with waiting := s.fab.waiting ++ [x] } }

/-- Serves the targets at which an access waits that nothing blocks any more. -/
def serveReady (s : State) : State := (List.range 24).foldl (fun u t => if (readyAt u t).isEmpty then u else serveAll t u) s

/-- Whether an access waits that nothing blocks. -/
def anyReady (s : State) : Bool := (List.range 24).any fun t => !(readyAt s t).isEmpty

/-! ## The commands -/

/-- FABRIC_READ (07 R270-R273). -/
def execFabricRead (x : Access) (s : State) : Host.Outcome State Fault Refusal := .next (settle (access { x with kind := 0, home := false } s))

/-- FABRIC_WRITE (07 R270-R273, 08 R289). -/
def execFabricWrite (x : Access) (s : State) : Host.Outcome State Fault Refusal := .next (settle (access { x with kind := 1, home := false } s))

/-- ATOMIC_ADD (07 R271). -/
def execAtomicAdd (x : Access) (s : State) : Host.Outcome State Fault Refusal := .next (settle (access { x with kind := 2, home := false } s))

/-- ATOMIC_SWAP (07 R271). -/
def execAtomicSwap (x : Access) (s : State) : Host.Outcome State Fault Refusal := .next (settle (access { x with kind := 3, home := false } s))

/-- LOCKED_SEQUENCE (07 R282, R284): a master asks for exclusive use of the target of an address. -/
def execLockedSequence (m a : Nat) (s : State) : Host.Outcome State Fault Refusal := .next (settle (access { kind := 4, m := m, addr := a } s))

/-- LOCK_LIMIT_EXPIRY (07 R283): a locked sequence has lasted 2 us. -/
def execLockLimitExpiry (t m : Nat) (s : State) : Host.Outcome State Fault Refusal := .next (settle (serveAll t (endLock t m true s)))

/-- The home master of a bank (01 R16). -/
def homeMaster (n : Nat) : Nat := if n < 16 then n else if n = 16 then 0x10 else if n = 17 then 0x11 else if n = 18 then 0x14 else 0x12

/-- HOME_PORT_ACCESS (08 R287-R290): a home master reaches its bank through its own port, which no lock blocks; a misaligned atomic operation is
refused, wherever its bytes end (07 R271). While the wrappers are closed, a Lea's port completes with ISOLATED (17 R641). -/
def execHomePortAccess (x : Access) (s : State) : Host.Outcome State Fault Refusal :=
  let x := { x with home := true, lock := false, last := false }
  let n := bankOfAddr (physAddr s x.addr)
  let g := rangeAt s x.addr
  let crooked := decide (2 ≤ x.kind) && x.addr % x.n != 0
  let same := decide (0 < lengthOf x) && (g == 2 || g == 3)
    && (crooked || bankOfAddr (physAddr s (x.addr + lengthOf x - 1)) == n && rangeAt s (x.addr + lengthOf x - 1) == g)
  .next (settle (
    if !awake s || !same || x.m != homeMaster n || decide (3 < x.kind) || (decide (2 ≤ x.kind) && !(x.n == 4 || x.n == 8)) then s
    else if s.fab.isolated && dataMaster x.m then answerAll x 6 s
    else if crooked then answerAll x 2 (respFault x 2 s)
    else access x s))

/-- HEATH_SCRUB (08 R292): what a scrub of an On bank finds. -/
def execHeathScrub (n : Nat) (ue : List Nat) (ce : Nat) (s : State) : Host.Outcome State Fault Refusal :=
  let bad := fun (t : State) (w : Nat) =>
    if inBank n w && !marked t w then foundBad w 0x0602 { target := n, access := 8 } t else t
  .next (settle (if awake s && decide (n < 20) && (bankAt s n).pstate == 3 then ue.foldl bad (countCe n ce s) else s))

/-- DRAM_SCRUB (08 R306); none while the memory is in self-refresh. -/
def execDramScrub (ue : List Nat) (ce : Nat) (s : State) : Host.Outcome State Fault Refusal :=
  let bad := fun (t : State) (w : Nat) => if rangeAt t (8 * w) == 10 && !marked t w then foundBad w 0x0701 { target := 0x14, access := 8 } t else t
  .next (settle (if s.mem.ready && !s.mem.selfRef then ue.foldl bad (countCorrected dramBase ce s) else s))

/-- HEATH_IDLE_TIMEOUT (08 R294, R295): 1 ms without an access under Auto. -/
def execHeathIdleTimeout (n : Nat) (s : State) : Host.Outcome State Fault Refusal :=
  let b := bankAt s n
  let lea := (List.range 12).any fun e => (engAt s (12 * n + e)).pst == 1
  .next (settle (
    if !awake s || decide (20 ≤ n) || n == 16 || n == 17 || b.policy != 0 || (b.pstate != 3 && b.pstate != 2) || b.waking then s
    else if decide (n < 16) && !lea && !bankHolds s n then bankOff n s
    else modBank n (fun b => { b with pstate := 2 }) s))

/-- BANK_WAKE_DONE (08 R294): the accesses that wait for the bank proceed. -/
def execBankWakeDone (n : Nat) (s : State) : Host.Outcome State Fault Refusal :=
  .next (settle (if (bankAt s n).waking then serveAll n (modBank n (fun b => { b with waking := false, pstate := 3 }) s) else s))

/-- HEATH_ZEROING_DONE (08 R293). -/
def execHeathZeroingDone (n : Nat) (s : State) : Host.Outcome State Fault Refusal :=
  .next (settle (if decide (n < 20) && (bankAt s n).pstate == 1 then serveAll n (modBank n (fun b => { b with pstate := 3 }) (bankLost n s)) else s))

/-! ## Register writes (07 R269) -/

/-- The write of one register word by a master, as the beat of 64 bytes that carries it. -/
def regAccess (m a v : Nat) : Access :=
  let o := a % 64 / 4 * 4
  { kind := 1, m := m, addr := a / 64 * 64, data := zeroBytes o ++ toLE 4 v,
    mask := (List.range 64).map fun i => decide (o ≤ i) && decide (i < o + 4) }

/-- REMAP_SET (07 R268, R277) by the Management Processor. -/
def execRemapSet (s : State) : Host.Outcome State Fault Refusal := .next (settle (access (regAccess 0x11 0x3000010200 1) s))

/-- HEATH_CTRL_WRITE (08 R294, R300) by the Management Processor. -/
def execHeathCtrlWrite (n v : Nat) (s : State) : Host.Outcome State Fault Refusal :=
  .next (settle (if n < 20 then access (regAccess 0x11 (0x3000020000 + 16 * n) v) s else s))

/-- PWR_VCORE_TARGET_WRITE (18 R665, R669) by the Management Processor: a new TARGET in mV. -/
def execPwrVcoreTargetWrite (mv : Nat) (s : State) : Host.Outcome State Fault Refusal :=
  .next (settle (access (regAccess 0x11 0x3000040000 (mv % 1024 * 65536)) s))

/-- CLK_HIST_CLEAR (11 R471) by the Management Processor. -/
def execClkHistClear (v : Nat) (s : State) : Host.Outcome State Fault Refusal := .next (settle (access (regAccess 0x11 0x3000030004 v) s))

/-- REGISTER_WRITE (07 R269, 13 R537): a word at an offset of the window by the host, or at a fabric address by a master, which the fabric
may refuse (07 R272) or a locked sequence hold up (07 R282). -/
def execRegisterWrite (win : Bool) (m a v : Nat) (s : State) : Host.Outcome State Fault Refusal :=
  .next (settle (if win then (if awake s then winWrite a v s else s) else access (regAccess m a v) s))

end Sys2Proof.Machine
end

