-- ==== Sys2Proof/Machine/MeterRun.lean ====
section
/-! DEFINITION. The Sealed Meter's own events: its minutes and records, its seal indication and serial port, its alarms and its supplies
(19 R694-R710). -/

namespace Sys2Proof.Machine

/-! ## Records -/

/-- The code of one value of a point for a record (19 R684, R686): 0xFFF for no value. Where no audio came in the minute, or too little for
a window, the spec states no code: a free value (log entry 70). -/
def valueCode (m : Meter) (p v : Nat) (s : State) : Nat × State :=
  let q := tgetD m.points p ({} : Point)
  if m.sealSt != 3 && hasValue q v then
    match ratioOf q (tgetD m.runs p {}) v with
    | some (a, b, off) => (levelCode a b off, s)
    | none => if q.kind = 2 ∧ v = 0 then (0xFFF, s) else freshNat 12 s
  else (0xFFF, s)

/-- The codes of one point for a record (19 R684, R686). -/
def pointCodes (m : Meter) (p : Nat) (s : State) : List Nat × State :=
  (List.range 4).foldl (fun (a : List Nat × State) v => let x := valueCode m p v a.2; (a.1 ++ [x.1], x.2)) ([], s)

/-- Four 12-bit codes as six bytes, V1 highest (19 R697). -/
def packCodes (l : List Nat) : List Byte := toBE 6 (l.foldl (fun a c => 4096 * a + c) 0)

/-- FLAGS of a record (19 R698). -/
def recFlags (m : Meter) : Nat :=
  b2n (!m.unsealed) + 2 * b2n m.sealEv + 4 * b2n m.free + 8 * b2n m.step + 16 * b2n m.stepBig + 32 * b2n m.lost + 64 * b2n m.power
    + 128 * b2n (m.sealSt == 3) + 256 * b2n m.imgRun + 512 * b2n m.overl

/-- The points that received every tick of the minute (19 R697). -/
def fullPoints (m : Meter) : Nat := ofBits ((List.range 16).filter fun p => pointOn m.points p && !bit m.lostPts p)

/-- LINK: the previous record's digest, of the first record that of the public key (19 R697, R699). -/
def recLink (m : Meter) : List Byte :=
  (sha256 (match m.records.getLast? with | some x => x.2 | none => (List.range 32).map Config.meterKey)).take 8

/-- SIG: a byte of the signature of the block before (19 R697, R700); zero in the first block. -/
def recSig (m : Meter) : Nat := if m.idx < 64 then 0 else byteAt m.lastSig (m.idx % 64)

/-- The record of a minute (19 R697). -/
def meterRecordOf (m : Meter) (pts : List Byte) : List Byte :=
  let h := toBE 4 m.idx ++ toBE 6 m.start ++ toBE 2 m.sec ++ toBE 2 (recFlags m) ++ toBE 2 (fullPoints m) ++ toBE 2 m.restNow ++ toBES 3 m.corr
    ++ toBE 1 (recSig m) ++ recLink m
  h ++ toBE 2 (crc16 (h ++ pts)) ++ pts

/-- Appends a record to the ring, and signs the block that it completes (19 R700, R701). -/
def addRecord (b : List Byte) (m : Meter) : Meter :=
  let recs := m.records ++ [(m.idx, b)]
  let m' := { m with records := recs.drop (recs.length - m.ring), idx := m.idx + 1 }
  if m.idx % 64 = 63 then
    { m' with lastBlk := m.idx / 64, lastSig := Config.meterSign ((recs.drop (recs.length - 64)).flatMap (·.2)) }
  else m'

/-- Writes the record of the closing minute (19 R697). -/
def writeMinute (s : State) : State :=
  let m := s.meter
  let (pts, s) := (List.range 16).foldl (fun (a : List Byte × State) p => let x := pointCodes m p a.2; (a.1 ++ packCodes x.1, x.2)) ([], s)
  modMeter (addRecord (meterRecordOf m pts)) s

/-! ## The minute boundary -/

/-- What the correction at a boundary comes to (19 R695, R698): new meter time, CORR, CLOCK_FREE, STEP and STEP_BIG. `age`: the ns of PTP
time since the start of the last tick that the tap delivered. -/
def correction (m : Meter) (next age : Nat) : Nat × Int × Bool × Bool × Bool :=
  match m.tick with
  | some t =>
    if m.locked && m.got then
      let d : Int := (next : Int) * 1000000000 - (t + age)
      let c := Int.tdiv (-d) 1000
      let big := decide (8388607 < c.natAbs)
      let sat := clampI (-8388607) 8388607 c
      if d.natAbs ≤ 50000000 then (next, sat, false, false, big) else ((t + age) / 1000000000 % 2 ^ 48, sat, false, true, big)
    else (next, 0, true, false, false)
  | none => (next, 0, true, false, false)

/-- An image takes over or leaves at a minute boundary (19 R707). -/
def switchImage (m : Meter) : Meter :=
  match m.imgNext with
  | some true => { m with imgRun := true, imgNext := none }
  | some false => { setRing 16384 m with imgRun := false, imgNext := none, image := [], loading := false }
  | none => m

/-- Leaders among the points (19 R687). -/
def leaders (t : Tab Point) : Nat := ofBits ((List.range 16).filter fun p => pointOn t p && (tgetD t p ({} : Point)).kind == 2)

/-- A minute ends: its record, then the correction, the points, restarts and image of the next (19 R689, R695, R697, R707, R710, R711).
Without VMET only the clock goes on, and a minute in which VMET failed has no record. -/
def minuteEnd (age : Nat) (s : State) : State :=
  let m := s.meter
  let next := (m.start / 60 + 1) * 60 % 2 ^ 48
  if !m.vmet then modMeter (fun m => { m with time := next, start := next, broken := true }) s
  else
    let s := modMeter (fun m => if m.got then m else { m with lost := true, lostPts := 0xFFFF }) s
    let x := correction s.meter next age
    let any := (List.range 16).any (pointOn s.meter.points)
    let s := if m.broken then s else writeMinute s
    let s := meterAlarm 1 (any && !m.got) s
    let s := modMeter (fun m =>
      let pts := pointsThen m
      { switchImage m with
        points := pts, next := [], time := x.1, start := x.1, corr := x.2.1, free := x.2.2.1, step := x.2.2.2.1, stepBig := x.2.2.2.2,
        freeRun := if x.2.2.1 then min 60 (m.freeRun + 1) else 0, restNow := (m.restart &&& leaders pts) ||| newLeaders m.points pts, restart := 0,
        runs := minuteRuns m.points pts m.restart m.runs,
        lost := !s.pipe.running, lostPts := if s.pipe.running then 0 else 0xFFFF, got := false, locked := s.pipe.running, overl := false, sealEv := false,
        unsealed := m.sealSt != 2, power := m.power && m.broken, broken := false }) s
    exportAlarm (meterAlarm 2 (decide (60 ≤ s.meter.freeRun)) s)

/-- METER_MINUTE_BOUNDARY (19 R695, R697). -/
def execMeterMinuteBoundary (age : Nat) (s : State) : Host.Outcome State Fault Refusal := .next (settle (if hasMeter s then minuteEnd age s else s))

/-! ## The seal indication and the serial port -/

/-- Five decimal digits (19 R705). -/
def decimal5 (n : Nat) : List Byte := [10000, 1000, 100, 10, 1].flatMap fun d => toBE 1 (0x30 + n / d % 10)

/-- The characters of METER_SEAL_IND (19 R705). -/
def sealInd (m : Meter) : List Byte :=
  toBE 1 (if m.sealSt = 2 then 0x53 else if m.sealSt = 1 then 0x55 else 0x4C) ++ decimal5 m.sec ++ toBE 1 (if m.alarms = 0 then 0x2D else 0x41) ++ toBE 1 0x0D

/-- SEAL_IND_TIMER (19 R705): once a second, by which meter time moves on within its minute. -/
def execSealIndTimer (s : State) : Host.Outcome State Fault Refusal :=
  .next (settle (if hasMeter s && s.meter.vmet then
    emit { kind := .meterTx, a := 1, bytes := sealInd s.meter }
      (modMeter (fun m => { m with time := if (m.time + 1) / 60 = m.start / 60 then m.time + 1 else m.time }) s)
    else s))

/-- A reply on METER_TX (19 R704), with the baud code in `b`. -/
def serialReply (op status : Nat) (payload : List Byte) (s : State) : State :=
  let h := toBE 1 0x5A ++ toBE 1 op ++ toBE 1 status ++ toBE 2 payload.length ++ payload
  emit { kind := .meterTx, b := s.meter.baud, bytes := h ++ toBE 2 (crc16 h) } s

/-- A request on METER_RX, with its argument and the CRC it carries (19 R704): a bad CRC is answered so and does nothing. -/
def serialOp (op arg crc : Nat) (f : State → Nat × List Byte × State) (s : State) : State :=
  if !(hasMeter s && s.meter.vmet) then s
  else if crc ≠ crc16 (toBE 1 0xA5 ++ toBE 1 op ++ toBE 4 arg) then serialReply op 1 [] s
  else
    let x := f s
    serialReply op x.1 x.2.1 x.2.2

/-- METER_SERIAL_GET_INFO (19 R704). -/
def execMeterSerialGetInfo (arg crc : Nat) (s : State) : Host.Outcome State Fault Refusal :=
  .next (settle (serialOp 1 arg crc (fun s => (0, meterInfo s, s)) s))

/-- METER_SERIAL_READ (19 R704): up to 16 records. -/
def execMeterSerialRead (arg crc : Nat) (s : State) : Host.Outcome State Fault Refusal :=
  .next (settle (serialOp 2 arg crc (fun s => let x := meterRead s.meter arg 16; (if x.1 = OK then 0 else 2, x.2, s)) s))

/-- METER_SERIAL_ACK_EXPORT (19 R703, R704). -/
def execMeterSerialAckExport (arg crc : Nat) (s : State) : Host.Outcome State Fault Refusal :=
  .next (settle (serialOp 3 arg crc (fun s => (0, [], ackExport arg s)) s))

/-- METER_SERIAL_GET_LIVE (19 R704). -/
def execMeterSerialGetLive (arg crc : Nat) (s : State) : Host.Outcome State Fault Refusal :=
  .next (settle (serialOp 4 arg crc (fun s => let x := meterLive s; (0, x.1, x.2)) s))

/-! ## Alarms and supplies -/

/-- METER_MAILBOX_TIMEOUT (19 R709): the oldest operation that the meter has not answered. -/
def execMeterMailboxTimeout (s : State) : Host.Outcome State Fault Refusal :=
  .next (settle (match s.cp.meterWait with
    | r :: rest => statusLine 6 (finish r BUSY 0 0 false false [] { s with cp := { s.cp with meterWait := rest } })
    | [] => s))

/-- METER_ALARM_REPEAT (19 R710): an alarm that lasts is raised again. -/
def execMeterAlarmRepeat (code : Nat) (s : State) : Host.Outcome State Fault Refusal :=
  .next (settle (if hasMeter s && s.meter.vmet && bit s.meter.alarms code then statusLine code s else s))

/-- The retention store is lost (19 R690, R696): the meter's state, time, configuration and export index. -/
def loseRetention (m : Meter) : Meter :=
  { m with sealSt := 3, time := 0, start := 0, points := [], next := [], exported := 0, restart := 0, baud := 3, runs := [], shown := [] }

/-- METER_POWER_LOSS (19 R696, R708): VMET fails; `battery`: VMETBAT holds. -/
def execMeterPowerLoss (battery : Bool) (s : State) : Host.Outcome State Fault Refusal :=
  .next (settle (if hasMeter s then
    modMeter (fun m => let m := { m with vmet := false, broken := true, runs := [], shown := [], stepN := 0 }; if battery then m else loseRetention m) s else s))

/-- METER_POWER_RETURN (19 R696, R698, R708, R710). -/
def execMeterPowerReturn (s : State) : Host.Outcome State Fault Refusal :=
  .next (settle (if hasMeter s && !s.meter.vmet then
    let s := modMeter (fun m => { m with vmet := true, power := true, unsealed := m.unsealed || m.sealSt != 2 }) s
    exportAlarm (meterAlarm 4 (s.meter.sealSt == 3) (meterAlarm 3 s.meter.batLow s))
    else s))

/-- METER_BATTERY_LOW (19 R710). -/
def execMeterBatteryLow (s : State) : Host.Outcome State Fault Refusal :=
  .next (settle (if hasMeter s then
    let s := modMeter (fun m => { m with batLow := true }) s
    if s.meter.vmet then meterAlarm 3 true s else s
  else s))

end Sys2Proof.Machine
end

