-- ==== Sys2Proof/Machine/Moves.lean ====
section
/-! DEFINITION. The commands that carry out placement: the decision period, a migration's rounds, final copy and compare, admission
copies, waking, and self-test slices (05 R197-R221, 04 R118, 15 R591). -/

namespace Sys2Proof.Machine

/-- DECISION_PERIOD_END (05 R190, R197, 18 R664): what the sensors and the fabric show, then measures, moves and the set point. Misses
in four consecutive periods on an engine ask for a relinquish (15 R594). -/
def execDecisionPeriodEnd (temps : List Int) (occ drvQ : List Nat) (s : State) : Host.Outcome State Fault Refusal :=
  let s := adjustVcore (placePeriod temps occ drvQ s)
  .next (settle (if s.eng.engines.any fun g => decide (4 ≤ g.2.missRun) then askRel 0x0301 s else s))

/-- The first sample tick whose twin run begins at least one tick after now: local time is inside tick `cal` (05 R211 step 2). -/
def commitTick (s : State) (h : Nat) : Nat := cal s + 2 - (if (chainD s h).desc.stage = 1 then 1 else 3)

/-- Whether the copier meets a poisoned word in some lines of a chain's block (05 R214). -/
def poisonIn (c : Chain) (lines : List Nat) : Bool := c.poison.any fun w => lines.contains (8 * w / 256)

/-- One pre-copy round ends: its lines are on the destination, with the code after the first; then convergence, or the next round over the lines
marked since (05 R211 steps 1, 2). A swapped block has no final copy (R227). -/
def endRound (m : Migr) (err : Bool) (s : State) : State :=
  let c := chainD s m.handle
  let s := modChain (twinOf m.handle) (fun t => copyLines m.lines c (if m.rounds = 0 then { t with code := c.image, badCode := [] } else t))
    (modEng m.dst (fun g => { g with touched := true }) s)
  if err || poisonIn c m.lines then abortMigr 4 m s
  else if m.lines.length ≤ 64 ∨ 8 ≤ m.rounds + 1 then
    setMigr { m with rounds := m.rounds + 1, phase := if c.swap.isSome then 2 else 1, commit := commitTick s m.handle } s
  else
    setMigr { m with rounds := m.rounds + 1, lines := c.cum } (modChain m.handle (fun c => { c with cum := [] }) s)

/-- Whether the copier may write to the destination of a migration: it is awake, and the banks for its code image and its swapped block are
On (04 R118, 05 R226). -/
def destReady (s : State) (m : Migr) : Bool :=
  !(engAt s m.dst).waking && bankReady s (m.dst / 12) && (match m.bank with | some b => bankReady s b | none => true)

/-- A round of the copy of a chain that a Shadow joins ends (15 R601 step 3, after 05 R211): convergence at 64 lines or fewer, or after eight
rounds. A round that meets an error starts the join over (DESIGN CHOICE, log entry 28). -/
def joinRound (h : Nat) (err : Bool) (s : State) : State :=
  let c := chainD s h
  let j := s.pair.join
  if j.phase ≠ 0 then s
  else if err || poisonIn c j.lines then startJoinOf h s
  else if j.lines.length ≤ 64 ∨ 8 ≤ j.rounds + 1 then
    { s with pair := { s.pair with join := { j with rounds := j.rounds + 1, phase := 1, commit := commitTick s h } } }
  else
    { modChain h (fun c => { c with cum := [] }) s with pair := { s.pair with join := { j with rounds := j.rounds + 1, lines := c.cum } } }

/-- PRECOPY_ROUND_DONE (05 R211, 15 R601); `err`: the copier met an error. A destination that is still waking holds the round up (04 R118). -/
def execPrecopyRoundDone (h : Nat) (err : Bool) (s : State) : Host.Outcome State Fault Refusal :=
  .next (settle (match migrOf s h with
    | some m => if m.phase = 0 && destReady s m then endRound m err s else s
    | none => if joiningChain s = some h then joinRound h err s else s))

/-- Whether the source has run a chain's tick to its end in the tick in progress (05 R211 step 3). -/
def ended (s : State) (h : Nat) : Bool :=
  let g := engAt s (chainD s h).engine
  g.cur != h && !g.todo.contains h

/-- The final copy is complete: the lines still marked are on the destination, and a twin run that waits for them may start (05 R211 step 3).
One that comes in the tick of the twin run brings what the source held at its start. -/
def finalCopy (m : Migr) (s : State) : State :=
  let c := chainD s m.handle
  let late := twinDue s m
  let s := if late then s else modChain (twinOf m.handle) (copyLines c.cum c) s
  let s := setMigr { m with phase := 2 } s
  if (engAt s m.dst).cur = twinOf m.handle then modEng m.dst (fun g => { g with swapWait := false }) s else s

/-- The final copy of a chain that a Shadow joins, after the source's TEND for sample tick T - 1 (15 R601 step 3). -/
def joinFinal (h : Nat) (err : Bool) (s : State) : State :=
  let c := chainD s h
  let j := s.pair.join
  let due := match stageTick s c.desc.stage with
    | some k => decide (j.commit ≤ k) || (k + 1 == j.commit && ended s h)
    | none => false
  if j.phase ≠ 1 || !due then s
  else if err || poisonIn c c.cum then startJoinOf h s
  else { s with pair := { s.pair with join := { j with phase := 2 } } }

/-- FINAL_COPY_DONE (05 R211 step 3, 15 R601): after the source's TEND for sample tick T - 1. -/
def execFinalCopyDone (h : Nat) (err : Bool) (s : State) : Host.Outcome State Fault Refusal :=
  let c := chainD s h
  let due := fun (m : Migr) => match stageTick s c.desc.stage with
    | some k => decide (m.commit ≤ k) || (k + 1 == m.commit && ended s h)
    | none => false
  .next (settle (match migrOf s h with
    | some m =>
      if m.phase ≠ 1 || !due m then s
      else if err || poisonIn c c.cum then abortMigr 4 m s
      else finalCopy m s
    | none => if joiningChain s = some h then joinFinal h err s else s))

/-- TWIN_RUN_COMPARE (05 R211 step 4, R214): the unit compares what both engines left of the twin run, once both have ended it. `equal`:
whether the hardware's compare agreed; `destFail`: whether the destination was lost to the run. A compare that no command carries out is made
at the deadline. -/
def execTwinRunCompare (h : Nat) (equal destFail : Bool) (s : State) : Host.Outcome State Fault Refusal :=
  .next (settle (match migrOf s h with
    | some m =>
      if !twinDue s m || !ended s h then s
      else if m.failed then abortMigr 3 m s
      else if destFail || m.bad || m.phase == 1 then abortMigr 2 m s
      else if !equal then abortMigr 1 m s
      else if m.other.isNone then s
      else judgeRun m s
    | none => s))

/-- ADMISSION_COPY_DONE (05 R207, R208): the image is in place, so the chain can be bound. The copy waits while the engine wakes or a bank it
needs is not On (04 R118, 05 R226). -/
def execAdmissionCopyDone (h : Nat) (s : State) : Host.Outcome State Fault Refusal :=
  let busy := s.place.migr.any fun m => m.handle == h && m.phase == 3 && ((engAt s m.dst).waking || !banksReady s h)
  let copied := (s.place.migr.filter fun m => m.handle == h && m.phase == 3).foldl (fun t m => modEng m.dst (fun g => { g with touched := true }) t)
  .next (settle (if busy then s
    else copied { s with place := { s.place with migr := s.place.migr.filter fun m => !(m.handle == h && m.phase == 3) } }))

/-- ENGINE_WAKE_DONE (04 R118). -/
def execEngineWakeDone (e : Nat) (s : State) : Host.Outcome State Fault Refusal := .next (settle (if hasEngine s e then modEng e (fun g => { g with waking := false }) s else s))

/-- Whether an engine may run a self-test slice now (15 R591): a present engine with no chain, or after its last TEND. -/
def mayTest (s : State) (e : Nat) : Bool :=
  let g := engAt s e
  hasEngine s e && decide (5 ≤ s.mode.mode) && decide (s.mode.mode ≤ 7) && g.cur == 0 && g.todo.isEmpty

/-- A slice that passed: sixteen in a row return a Suspect engine, once it holds no chain, to Fallow (05 R221). -/
def slicePass (e : Nat) (s : State) : State :=
  let back := (engAt s e).pst == 2 && decide (16 ≤ (engAt s e).passRun + 1) && (hosted s e).isEmpty
  let s := { s with pair := { s.pair with sPass := min 0xFFFF (s.pair.sPass + 1) } }
  modEng e (fun g => { g with passRun := g.passRun + 1, testAt := some s.clock.now, pst := if back then 0 else g.pst, waking := false }) s

/-- A slice that failed: the engine becomes Suspect (05 R218); failures on two engines within 1 s ask for a relinquish (15 R594). -/
def sliceFail (e : Nat) (s : State) : State :=
  let near := s.pair.failAt.filter fun x => decide (x.2 ≤ s.clock.now) && decide (s.clock.now ≤ x.2 + 1000000000)
  let two := near.any fun x => x.1 != e
  let s := { s with pair := { s.pair with sFail := min 0xFFFF (s.pair.sFail + 1), failAt := (near.filter fun x => x.1 != e) ++ [(e, s.clock.now)] } }
  let s := suspect e (modEng e (fun g => { g with passRun := 0, testAt := some s.clock.now }) s)
  if two then askRel 0x0307 s else s

/-- SELF_TEST_SLICE (15 R591); `pass`: the CRC of the slice's results was the stored value. -/
def execSelfTestSlice (e : Nat) (pass : Bool) (s : State) : Host.Outcome State Fault Refusal :=
  .next (settle (if !mayTest s e then s else if pass then slicePass e s else sliceFail e s))

end Sys2Proof.Machine
end

