-- ==== Sys2Proof/Machine/PlaceOps.lean ====
section
/-! DEFINITION. The placement operations (05 R194-R196, R234-R239). -/

namespace Sys2Proof.Machine

/-- The policy block of a PLACE_SET_POLICY request (05 R194). -/
def policyOf (r : Req) : PlacePolicy :=
  { freeze := par r 1 1, slackTarget := par r 2 2, slackEmerg := par r 4 2, packMargin := par r 6 2, thermTarget := par r 8 1,
    thermEmerg := par r 9 1, maxMigr := par r 10 1, copierRate := par r 11 1, residence := par r 12 2, swapMiB := par r 14 1,
    flags := par r 15 1 }

/-- The 32 bytes of a policy block; the hold of the Management Processor sets FREEZE to 0x1 and its bit 7 (05 R194, R230). -/
def policyBytes (p : PlacePolicy) (hold : Bool) : List Byte :=
  toBE 1 1 ++ toBE 1 ((if hold then 1 else p.freeze) + 128 * b2n hold) ++ toBE 2 p.slackTarget ++ toBE 2 p.slackEmerg ++ toBE 2 p.packMargin
    ++ toBE 1 p.thermTarget ++ toBE 1 p.thermEmerg ++ toBE 1 p.maxMigr ++ toBE 1 p.copierRate ++ toBE 2 p.residence
    ++ toBE 1 p.swapMiB ++ toBE 1 p.flags ++ zeroBytes 16

/-- Whether a number lies in a range. -/
def inRange (lo hi v : Nat) : Bool := decide (lo ≤ v) && decide (v ≤ hi)

/-- PLACE_SET_POLICY (05 R195): in force at the next period boundary. -/
def planPlaceSetPolicy (_ : State) (r : Req) : Plan :=
  let p := policyOf r
  { len := r.params.length == 32,
    checks := [chk (par r 0 1 == 1) 0, chk (decide (p.freeze < 2)) 1, chk (inRange 50 500 p.slackTarget) 2,
               chk (inRange 10 500 p.slackEmerg) 4, chk (inRange 0 500 p.packMargin) 6, chk (inRange 60 100 p.thermTarget) 8,
               chk (inRange 61 108 p.thermEmerg) 9, chk (inRange 1 4 p.maxMigr) 10, chk (inRange 1 200 p.copierRate) 11,
               chk (inRange 1 1024 p.residence) 12, chk (inRange 0 3 p.swapMiB) 14, chk (decide (p.flags < 4)) 15, chkZero r 16 16,
               chkRel (decide (p.slackEmerg ≤ p.slackTarget)), chkRel (decide (p.thermTarget < p.thermEmerg))],
    act := act fun s => { s with place := { s.place with next := some p } } }

def execPlaceSetPolicy (r : Req) (s : State) : Host.Outcome State Fault Refusal := .next (settle (execOp 0x0120 planPlaceSetPolicy r s))

/-- A placement counter (05 R239). -/
def placeStat (s : State) (i : Nat) : Sat := tgetD s.place.stats i {}

/-- PLACE_GET_POLICY (05 R239). -/
def planPlaceGetPolicy : State → Req → Plan := readPlan fun s =>
  policyBytes s.place.policy s.place.hold ++ (List.range 15).flatMap (fun i => toBE 2 (placeStat s i).n)
    ++ toBE 2 (ofBits ((List.range 15).filter fun i => (placeStat s i).sat))

def execPlaceGetPolicy (r : Req) (s : State) : Host.Outcome State Fault Refusal := .next (settle (execOp 0x0121 planPlaceGetPolicy r s))

/-- One record of PLACE_GET_ENGINES (05 R235). -/
def engineRecord (s : State) (e : Nat) : List Byte :=
  if !hasEngine s e then toBE 2 e ++ toBE 1 4 ++ zeroBytes 13
  else
    let g := engAt s e
    let f := g.fig.getD (1000, 1000, 0)
    toBE 2 e ++ toBE 1 g.pst ++ toBE 1 (hosted s e).length ++ toBE 1 g.parkEnd ++ toBES 1 (leaTempOf s (e / 12))
      ++ toBE 4 (sumOf s (costOf s) (hosted s e)) ++ toBE 2 f.1 ++ toBE 2 f.2.1 ++ toBE 2 f.2.2

/-- PLACE_GET_ENGINES (05 R235). -/
def planPlaceGetEngines (_ : State) (r : Req) : Plan :=
  { len := r.params.length == 4, checks := [chk (inRange 1 192 (par r 2 2)) 2],
    act := give fun s => (List.range (par r 2 2)).flatMap fun i => engineRecord s (par r 0 2 + i) }

def execPlaceGetEngines (r : Req) (s : State) : Host.Outcome State Fault Refusal := .next (settle (execOp 0x0122 planPlaceGetEngines r s))

/-- PLACE_GET_EVENTS (05 R238): up to 255 records, each marked as read. -/
def planPlaceGetEvents (_ : State) (r : Req) : Plan :=
  { len := r.params.length == 4,
    act := fun s =>
      let p := s.place
      let first := max (par r 0 4) (p.idx - 4096)
      let ix := (List.range (min 255 (p.idx - first))).map (first + ·)
      { payload := toBE 4 (p.idx - 4096) ++ toBE 4 p.idx ++ toBE 2 p.ovf.n ++ toBE 1 (b2n p.ovf.sat) ++ zeroBytes 5
          ++ ix.flatMap (fun i => (tgetD p.log i ([], false)).1),
        st := { s with place := { p with log := ix.foldl (fun t i => tupd t i fun e => (e.1, true)) p.log } } } }

def execPlaceGetEvents (r : Req) (s : State) : Host.Outcome State Fault Refusal := .next (settle (execOp 0x0123 planPlaceGetEvents r s))

/-- PLACE_CLEAR_STATS (05 R239). -/
def planPlaceClearStats (_ : State) (r : Req) : Plan :=
  { len := r.params.isEmpty, act := act fun s => { s with place := { s.place with stats := [], ovf := {} } } }

def execPlaceClearStats (r : Req) (s : State) : Host.Outcome State Fault Refusal := .next (settle (execOp 0x0124 planPlaceClearStats r s))

end Sys2Proof.Machine
end

