-- ==== Sys2Proof/Machine/Dispatch.lean ====
section
/-! DEFINITION. One arm per command: the meaning it calls, or its rejection by name. -/

namespace Sys2Proof.Machine

/-- The effect of a command on everything but the queue. -/
def exec (i : Instr) (s : State) : Host.Outcome State Fault Refusal :=
  match i with
  | .gcpRequestReceived src ret bytes => Sys2Proof.Machine.execGcpRequestReceived src ret bytes s
  | .ringEnable rpl size => Sys2Proof.Machine.execRingEnable rpl size s
  | .ringDisable rpl => Sys2Proof.Machine.execRingDisable rpl s
  | .winReqProdWrite v mem => Sys2Proof.Machine.execWinReqProdWrite v mem s
  | .winRplProdWrite v bufs => Sys2Proof.Machine.execWinRplProdWrite v bufs s
  | .winIntStatClear v => Sys2Proof.Machine.execWinIntStatClear v s
  | .winRstcauseClear v => Sys2Proof.Machine.execWinRstcauseClear v s
  | .heathCtrlWrite n v => Sys2Proof.Machine.execHeathCtrlWrite n v s
  | .pwrVcoreTargetWrite mv => Sys2Proof.Machine.execPwrVcoreTargetWrite mv s
  | .clkHistClear v => Sys2Proof.Machine.execClkHistClear v s
  | .registerWrite win m a v => Sys2Proof.Machine.execRegisterWrite win m a v s
  | .udpDatagram port dest source ident off more bytes => Sys2Proof.Machine.execUdpDatagram port dest source ident off more bytes s
  | .reassemblyTimeout port ip ident => Sys2Proof.Machine.execReassemblyTimeout port ip ident s
  | .relayReply node bytes => Sys2Proof.Machine.execRelayReply node bytes s
  | .relayTimeout acc => Sys2Proof.Machine.execRelayTimeout acc s
  | .sysGetCaps r => Sys2Proof.Machine.execSysGetCaps r s
  | .sysGetStatus r => Sys2Proof.Machine.execSysGetStatus r s
  | .sysSetMode r => Sys2Proof.Machine.execSysSetMode r s
  | .sysSetTimebase r => Sys2Proof.Machine.execSysSetTimebase r s
  | .sysReset r => Sys2Proof.Machine.execSysReset r s
  | .sysMuteAll r => Sys2Proof.Machine.execSysMuteAll r s
  | .sysRelay r => Sys2Proof.Machine.execSysRelay r s
  | .placeSetPolicy r => Sys2Proof.Machine.execPlaceSetPolicy r s
  | .placeGetPolicy r => Sys2Proof.Machine.execPlaceGetPolicy r s
  | .placeGetEngines r => Sys2Proof.Machine.execPlaceGetEngines r s
  | .placeGetEvents r => Sys2Proof.Machine.execPlaceGetEvents r s
  | .placeClearStats r => Sys2Proof.Machine.execPlaceClearStats r s
  | .memGetStatus r => Sys2Proof.Machine.execMemGetStatus r s
  | .heathSetPolicy r => Sys2Proof.Machine.execHeathSetPolicy r s
  | .memClearEcc r => Sys2Proof.Machine.execMemClearEcc r s
  | .swardSetNodes r => Sys2Proof.Machine.execSwardSetNodes r s
  | .swardFill r => Sys2Proof.Machine.execSwardFill r s
  | .swardDropStaged r => Sys2Proof.Machine.execSwardDropStaged r s
  | .swardGetNodes r => Sys2Proof.Machine.execSwardGetNodes r s
  | .swardGetColumns r => Sys2Proof.Machine.execSwardGetColumns r s
  | .swardGetClip r => Sys2Proof.Machine.execSwardGetClip r s
  | .swardClearClip r => Sys2Proof.Machine.execSwardClearClip r s
  | .swardGetTiles r => Sys2Proof.Machine.execSwardGetTiles r s
  | .chainLoadBegin r => Sys2Proof.Machine.execChainLoadBegin r s
  | .chainLoadData r => Sys2Proof.Machine.execChainLoadData r s
  | .chainLoadEnd r => Sys2Proof.Machine.execChainLoadEnd r s
  | .chainUnload r => Sys2Proof.Machine.execChainUnload r s
  | .chainSetParams r => Sys2Proof.Machine.execChainSetParams r s
  | .chainSetTaps r => Sys2Proof.Machine.execChainSetTaps r s
  | .chainGetStatus r => Sys2Proof.Machine.execChainGetStatus r s
  | .chainClearCounters r => Sys2Proof.Machine.execChainClearCounters r s
  | .mapSet r => Sys2Proof.Machine.execMapSet r s
  | .mapGet r => Sys2Proof.Machine.execMapGet r s
  | .chainWriteState r => Sys2Proof.Machine.execChainWriteState r s
  | .chainReadState r => Sys2Proof.Machine.execChainReadState r s
  | .chainSetPlacement r => Sys2Proof.Machine.execChainSetPlacement r s
  | .dynConfig r => Sys2Proof.Machine.execDynConfig r s
  | .dynSetParams r => Sys2Proof.Machine.execDynSetParams r s
  | .dynGet r => Sys2Proof.Machine.execDynGet r s
  | .lineAlloc r => Sys2Proof.Machine.execLineAlloc r s
  | .lineFree r => Sys2Proof.Machine.execLineFree r s
  | .lineGet r => Sys2Proof.Machine.execLineGet r s
  | .spConfig r => Sys2Proof.Machine.execSpConfig r s
  | .spGetStatus r => Sys2Proof.Machine.execSpGetStatus r s
  | .spSetMclk r => Sys2Proof.Machine.execSpSetMclk r s
  | .spClear r => Sys2Proof.Machine.execSpClear r s
  | .aeConfig r => Sys2Proof.Machine.execAeConfig r s
  | .aeGetStatus r => Sys2Proof.Machine.execAeGetStatus r s
  | .drvConfig r => Sys2Proof.Machine.execDrvConfig r s
  | .drvSetFreq r => Sys2Proof.Machine.execDrvSetFreq r s
  | .drvRearm r => Sys2Proof.Machine.execDrvRearm r s
  | .drvGetStatus r => Sys2Proof.Machine.execDrvGetStatus r s
  | .slpSetListen r => Sys2Proof.Machine.execSlpSetListen r s
  | .slpTone r => Sys2Proof.Machine.execSlpTone r s
  | .slpGetEvents r => Sys2Proof.Machine.execSlpGetEvents r s
  | .tgSet r => Sys2Proof.Machine.execTgSet r s
  | .tgGet r => Sys2Proof.Machine.execTgGet r s
  | .linkSetNode r => Sys2Proof.Machine.execLinkSetNode r s
  | .linkConfig r => Sys2Proof.Machine.execLinkConfig r s
  | .linkGetStatus r => Sys2Proof.Machine.execLinkGetStatus r s
  | .flowOutSet r => Sys2Proof.Machine.execFlowOutSet r s
  | .flowOutDelete r => Sys2Proof.Machine.execFlowOutDelete r s
  | .flowInSet r => Sys2Proof.Machine.execFlowInSet r s
  | .flowInDelete r => Sys2Proof.Machine.execFlowInDelete r s
  | .flowGetStatus r => Sys2Proof.Machine.execFlowGetStatus r s
  | .groupSet r => Sys2Proof.Machine.execGroupSet r s
  | .groupDelete r => Sys2Proof.Machine.execGroupDelete r s
  | .dirSet r => Sys2Proof.Machine.execDirSet r s
  | .dirGet r => Sys2Proof.Machine.execDirGet r s
  | .ringSet r => Sys2Proof.Machine.execRingSet r s
  | .aoipSenderSet r => Sys2Proof.Machine.execAoipSenderSet r s
  | .aoipReceiverSet r => Sys2Proof.Machine.execAoipReceiverSet r s
  | .aoipGetStatus r => Sys2Proof.Machine.execAoipGetStatus r s
  | .mgConfig r => Sys2Proof.Machine.execMgConfig r s
  | .mgSetWake r => Sys2Proof.Machine.execMgSetWake r s
  | .alConfig r => Sys2Proof.Machine.execAlConfig r s
  | .alFrameTx r => Sys2Proof.Machine.execAlFrameTx r s
  | .alFrameRx r => Sys2Proof.Machine.execAlFrameRx r s
  | .alGetStatus r => Sys2Proof.Machine.execAlGetStatus r s
  | .linkClear r => Sys2Proof.Machine.execLinkClear r s
  | .clkSetRef r => Sys2Proof.Machine.execClkSetRef r s
  | .clkSetSelect r => Sys2Proof.Machine.execClkSetSelect r s
  | .clkSetDco r => Sys2Proof.Machine.execClkSetDco r s
  | .clkSetHoldover r => Sys2Proof.Machine.execClkSetHoldover r s
  | .clkGetStatus r => Sys2Proof.Machine.execClkGetStatus r s
  | .clkClearHist r => Sys2Proof.Machine.execClkClearHist r s
  | .ptpConfig r => Sys2Proof.Machine.execPtpConfig r s
  | .ptpGetStatus r => Sys2Proof.Machine.execPtpGetStatus r s
  | .pulseConfig r => Sys2Proof.Machine.execPulseConfig r s
  | .almanacSet r => Sys2Proof.Machine.execAlmanacSet r s
  | .almanacGet r => Sys2Proof.Machine.execAlmanacGet r s
  | .timeGet r => Sys2Proof.Machine.execTimeGet r s
  | .timeStep r => Sys2Proof.Machine.execTimeStep r s
  | .timeSetEpoch r => Sys2Proof.Machine.execTimeSetEpoch r s
  | .timeGetStamps r => Sys2Proof.Machine.execTimeGetStamps r s
  | .capVolumeFormat r => Sys2Proof.Machine.execCapVolumeFormat r s
  | .capVolumeGet r => Sys2Proof.Machine.execCapVolumeGet r s
  | .capSetPolicy r => Sys2Proof.Machine.execCapSetPolicy r s
  | .capGetDrives r => Sys2Proof.Machine.execCapGetDrives r s
  | .capDriveJoin r => Sys2Proof.Machine.execCapDriveJoin r s
  | .capJobSet r => Sys2Proof.Machine.execCapJobSet r s
  | .capRecord r => Sys2Proof.Machine.execCapRecord r s
  | .capStop r => Sys2Proof.Machine.execCapStop r s
  | .capGetJobs r => Sys2Proof.Machine.execCapGetJobs r s
  | .capReplay r => Sys2Proof.Machine.execCapReplay r s
  | .capReplayStop r => Sys2Proof.Machine.execCapReplayStop r s
  | .capFind r => Sys2Proof.Machine.execCapFind r s
  | .capRead r => Sys2Proof.Machine.execCapRead r s
  | .capProtect r => Sys2Proof.Machine.execCapProtect r s
  | .capDelete r => Sys2Proof.Machine.execCapDelete r s
  | .meterOpSet r => Sys2Proof.Machine.execMeterOpSet r s
  | .meterOpRead r => Sys2Proof.Machine.execMeterOpRead r s
  | .silenceSet r => Sys2Proof.Machine.execSilenceSet r s
  | .silenceGet r => Sys2Proof.Machine.execSilenceGet r s
  | .meterGetInfo r => Sys2Proof.Machine.execMeterGetInfo r s
  | .meterSetPoint r => Sys2Proof.Machine.execMeterSetPoint r s
  | .meterGetPoints r => Sys2Proof.Machine.execMeterGetPoints r s
  | .meterSeal r => Sys2Proof.Machine.execMeterSeal r s
  | .meterUnseal r => Sys2Proof.Machine.execMeterUnseal r s
  | .meterRead r => Sys2Proof.Machine.execMeterRead r s
  | .meterAckExport r => Sys2Proof.Machine.execMeterAckExport r s
  | .meterGetLive r => Sys2Proof.Machine.execMeterGetLive r s
  | .meterLoudReset r => Sys2Proof.Machine.execMeterLoudReset r s
  | .meterSetExport r => Sys2Proof.Machine.execMeterSetExport r s
  | .meterFwLoad r => Sys2Proof.Machine.execMeterFwLoad r s
  | .meterFwEnd r => Sys2Proof.Machine.execMeterFwEnd r s
  | .meterFwRemove r => Sys2Proof.Machine.execMeterFwRemove r s
  | .pwrSetPolicy r => Sys2Proof.Machine.execPwrSetPolicy r s
  | .pwrGetPolicy r => Sys2Proof.Machine.execPwrGetPolicy r s
  | .pwrSetDormant r => Sys2Proof.Machine.execPwrSetDormant r s
  | .pwrGetStatus r => Sys2Proof.Machine.execPwrGetStatus r s
  | .pairConfig r => Sys2Proof.Machine.execPairConfig r s
  | .pairSetKey r => Sys2Proof.Machine.execPairSetKey r s
  | .pairGetStatus r => Sys2Proof.Machine.execPairGetStatus r s
  | .pairRelinquish r => Sys2Proof.Machine.execPairRelinquish r s
  | .pairResync r => Sys2Proof.Machine.execPairResync r s
  | .faultGetStatus r => Sys2Proof.Machine.execFaultGetStatus r s
  | .faultGetLog r => Sys2Proof.Machine.execFaultGetLog r s
  | .faultAck r => Sys2Proof.Machine.execFaultAck r s
  | .faultGetCounters r => Sys2Proof.Machine.execFaultGetCounters r s
  | .faultClear r => Sys2Proof.Machine.execFaultClear r s
  | .faultSetReaction r => Sys2Proof.Machine.execFaultSetReaction r s
  | .faultSetQuiet r => Sys2Proof.Machine.execFaultSetQuiet r s
  | .faultInject r => Sys2Proof.Machine.execFaultInject r s
  | .fwBegin r => Sys2Proof.Machine.execFwBegin r s
  | .fwData r => Sys2Proof.Machine.execFwData r s
  | .fwEnd r => Sys2Proof.Machine.execFwEnd r s
  | .fwActivate r => Sys2Proof.Machine.execFwActivate r s
  | .fwCommit r => Sys2Proof.Machine.execFwCommit r s
  | .fwFallback r => Sys2Proof.Machine.execFwFallback r s
  | .fwGetStatus r => Sys2Proof.Machine.execFwGetStatus r s
  | .setSave r => Sys2Proof.Machine.execSetSave r s
  | .optGet r => Sys2Proof.Machine.execOptGet r s
  | .optSet r => Sys2Proof.Machine.execOptSet r s
  | .credSet r => Sys2Proof.Machine.execCredSet r s
  | .credClear r => Sys2Proof.Machine.execCredClear r s
  | .credList r => Sys2Proof.Machine.execCredList r s
  | .auditRead r => Sys2Proof.Machine.execAuditRead r s
  | .auditStatus r => Sys2Proof.Machine.execAuditStatus r s
  | .lcGet r => Sys2Proof.Machine.execLcGet r s
  | .lcAdvance r => Sys2Proof.Machine.execLcAdvance r s
  | .tamperSet r => Sys2Proof.Machine.execTamperSet r s
  | .tamperGet r => Sys2Proof.Machine.execTamperGet r s
  | .trustSet r => Sys2Proof.Machine.execTrustSet r s
  | .tickBoundary x => Sys2Proof.Machine.execTickBoundary x s
  | .rampEnd col => Sys2Proof.Machine.execRampEnd col s
  | .tileWakeDone t => Sys2Proof.Machine.execTileWakeDone t s
  | .concealExpiry source flow => Sys2Proof.Machine.execConcealExpiry source flow s
  | .coarseBlockEnd meter => Sys2Proof.Machine.execCoarseBlockEnd meter s
  | .slowPathReady meter => Sys2Proof.Machine.execSlowPathReady meter s
  | .silenceHoldExpiry space slot => Sys2Proof.Machine.execSilenceHoldExpiry space slot s
  | .parkHoldExpiry h => Sys2Proof.Machine.execParkHoldExpiry h s
  | .decisionPeriodEnd temps occ drvQ => Sys2Proof.Machine.execDecisionPeriodEnd temps occ drvQ s
  | .precopyRoundDone h err => Sys2Proof.Machine.execPrecopyRoundDone h err s
  | .finalCopyDone h err => Sys2Proof.Machine.execFinalCopyDone h err s
  | .twinRunCompare h equal destFail => Sys2Proof.Machine.execTwinRunCompare h equal destFail s
  | .admissionCopyDone h => Sys2Proof.Machine.execAdmissionCopyDone h s
  | .engineWakeDone e => Sys2Proof.Machine.execEngineWakeDone e s
  | .selfTestSlice e pass => Sys2Proof.Machine.execSelfTestSlice e pass s
  | .fabricRead x => Sys2Proof.Machine.execFabricRead x s
  | .fabricWrite x => Sys2Proof.Machine.execFabricWrite x s
  | .atomicAdd x => Sys2Proof.Machine.execAtomicAdd x s
  | .atomicSwap x => Sys2Proof.Machine.execAtomicSwap x s
  | .lockedSequence m a => Sys2Proof.Machine.execLockedSequence m a s
  | .lockLimitExpiry t m => Sys2Proof.Machine.execLockLimitExpiry t m s
  | .homePortAccess x => Sys2Proof.Machine.execHomePortAccess x s
  | .heathScrub n ue ce => Sys2Proof.Machine.execHeathScrub n ue ce s
  | .dramScrub ue ce => Sys2Proof.Machine.execDramScrub ue ce s
  | .heathIdleTimeout n => Sys2Proof.Machine.execHeathIdleTimeout n s
  | .bankWakeDone n => Sys2Proof.Machine.execBankWakeDone n s
  | .heathZeroingDone n => Sys2Proof.Machine.execHeathZeroingDone n s
  | .frameForward port frame fcs => Sys2Proof.Machine.execFrameForward port frame fcs s
  | .audioFrame port frame fcs ns => Sys2Proof.Machine.execAudioFrame port frame fcs ns s
  | .controlFrame port frame fcs => Sys2Proof.Machine.execControlFrame port frame fcs s
  | .announceFrame port frame fcs => Sys2Proof.Machine.execAnnounceFrame port frame fcs s
  | .ringHello port frame fcs => Sys2Proof.Machine.execRingHello port frame fcs s
  | .ringFault port frame fcs => Sys2Proof.Machine.execRingFault port frame fcs s
  | .ringRestore port frame fcs => Sys2Proof.Machine.execRingRestore port frame fcs s
  | .directoryEntryExpiry node => Sys2Proof.Machine.execDirectoryEntryExpiry node s
  | .ringHelloTimer port => Sys2Proof.Machine.execRingHelloTimer port s
  | .segmentLoss port => Sys2Proof.Machine.execSegmentLoss port s
  | .wtrExpiry port => Sys2Proof.Machine.execWtrExpiry port s
  | .linkTrained port => Sys2Proof.Machine.execLinkTrained port s
  | .crcRateTrip port => Sys2Proof.Machine.execCrcRateTrip port s
  | .crcRateRecovery port => Sys2Proof.Machine.execCrcRateRecovery port s
  | .aoipPacket port dest source udp rtp => Sys2Proof.Machine.execAoipPacket port dest source udp rtp s
  | .arpRequest port dest mac ip => Sys2Proof.Machine.execArpRequest port dest mac ip s
  | .icmpEcho dest ip data => Sys2Proof.Machine.execIcmpEcho dest ip data s
  | .ptpEventMessage port t outs msg => Sys2Proof.Machine.execPtpEventMessage port t outs msg s
  | .ptpSync t msg => Sys2Proof.Machine.execPtpSync t msg s
  | .mgPauseFrame quanta => Sys2Proof.Machine.execMgPauseFrame quanta s
  | .wakePatternMatch frame good => Sys2Proof.Machine.execWakePatternMatch frame good s
  | .alFrameReceived port frame => Sys2Proof.Machine.execAlFrameReceived port frame s
  | .plcaBeaconLoss port => Sys2Proof.Machine.execPlcaBeaconLoss port s
  | .missingEdge c first => Sys2Proof.Machine.execMissingEdge c first s
  | .freqMonitorUpdate c ppb => Sys2Proof.Machine.execFreqMonitorUpdate c ppb s
  | .candidateQualified c => Sys2Proof.Machine.execCandidateQualified c s
  | .wMeanRecord mean => Sys2Proof.Machine.execWMeanRecord mean s
  | .servoMeasurement err steered => Sys2Proof.Machine.execServoMeasurement err steered s
  | .pulseEdge pulse n => Sys2Proof.Machine.execPulseEdge pulse n s
  | .refinTimestamp input t => Sys2Proof.Machine.execRefinTimestamp input t s
  | .almanacFire e => Sys2Proof.Machine.execAlmanacFire e s
  | .powerOnReset bootSel clkMode testEn => Sys2Proof.Machine.execPowerOnReset bootSel clkMode testEn s
  | .brownOut rail => Sys2Proof.Machine.execBrownOut rail s
  | .thermalTrip sensor => Sys2Proof.Machine.execThermalTrip sensor s
  | .dramTrainingDone ok => Sys2Proof.Machine.execDramTrainingDone ok s
  | .linkDown port => Sys2Proof.Machine.execLinkDown port s
  | .ptpGeneralMessage msg => Sys2Proof.Machine.execPtpGeneralMessage msg s
  | .ptpIntervalTimer kind t => Sys2Proof.Machine.execPtpIntervalTimer kind t s
  | .spLock port phase hz => Sys2Proof.Machine.execSpLock port phase hz s
  | .spClockLoss port pos => Sys2Proof.Machine.execSpClockLoss port pos s
  | .spUnderrun x => Sys2Proof.Machine.execSpUnderrun x s
  | .spOverrun port => Sys2Proof.Machine.execSpOverrun port s
  | .aeLockLoss port lost pos => Sys2Proof.Machine.execAeLockLoss port lost pos s
  | .aeRelock port phase hz => Sys2Proof.Machine.execAeRelock port phase hz s
  | .aeSubframe port ch pos parityErr validity => Sys2Proof.Machine.execAeSubframe port ch pos parityErr validity s
  | .aeChannelStatusBlock port block => Sys2Proof.Machine.execAeChannelStatusBlock port block s
  | .asrcRelock ae port hz => Sys2Proof.Machine.execAsrcRelock ae port hz s
  | .dcTrip c => Sys2Proof.Machine.execDcTrip c s
  | .drvFault high => Sys2Proof.Machine.execDrvFault high s
  | .fbLost c => Sys2Proof.Machine.execFbLost c s
  | .slpClassify mv => Sys2Proof.Machine.execSlpClassify mv s
  | .stageWrite k => Sys2Proof.Machine.execStageWrite k s
  | .driveWriteComplete k d err => Sys2Proof.Machine.execDriveWriteComplete k d err s
  | .driveFail d => Sys2Proof.Machine.execDriveFail d s
  | .driveCommandTimeout d => Sys2Proof.Machine.execDriveCommandTimeout d s
  | .driveReturn d => Sys2Proof.Machine.execDriveReturn d s
  | .readaheadFilled job => Sys2Proof.Machine.execReadaheadFilled job s
  | .beat port frame fcs => Sys2Proof.Machine.execBeat port frame fcs s
  | .mirror port frame fcs => Sys2Proof.Machine.execMirror port frame fcs s
  | .ack port frame fcs => Sys2Proof.Machine.execAck port frame fcs s
  | .relinquish port frame fcs => Sys2Proof.Machine.execRelinquish port frame fcs s
  | .vigil port frame fcs => Sys2Proof.Machine.execVigil port frame fcs s
  | .resyncRequest port frame fcs => Sys2Proof.Machine.execResyncRequest port frame fcs s
  | .resyncData port frame fcs part => Sys2Proof.Machine.execResyncData port frame fcs part s
  | .partnerReset port frame fcs => Sys2Proof.Machine.execPartnerReset port frame fcs s
  | .partnerResetTimeout acc => Sys2Proof.Machine.execPartnerResetTimeout acc s
  | .pairPathTimeout b => Sys2Proof.Machine.execPairPathTimeout b s
  | .mirrorResend seq => Sys2Proof.Machine.execMirrorResend seq s
  | .pairListenTimeout high => Sys2Proof.Machine.execPairListenTimeout high s
  | .tamperDetect src => Sys2Proof.Machine.execTamperDetect src s
  | .tamperRearm src => Sys2Proof.Machine.execTamperRearm src s
  | .meterMinuteBoundary age => Sys2Proof.Machine.execMeterMinuteBoundary age s
  | .meterSerialGetInfo arg crc => Sys2Proof.Machine.execMeterSerialGetInfo arg crc s
  | .meterSerialRead arg crc => Sys2Proof.Machine.execMeterSerialRead arg crc s
  | .meterSerialAckExport arg crc => Sys2Proof.Machine.execMeterSerialAckExport arg crc s
  | .meterSerialGetLive arg crc => Sys2Proof.Machine.execMeterSerialGetLive arg crc s
  | .meterAlarmRepeat code => Sys2Proof.Machine.execMeterAlarmRepeat code s
  | .meterPowerLoss battery => Sys2Proof.Machine.execMeterPowerLoss battery s
  | .nvmeDriveDetected d link bytes wear written block rev a b map => Sys2Proof.Machine.execNvmeDriveDetected d link bytes wear written block rev a b map s
  | .driveHealthReport d wear written warn => Sys2Proof.Machine.execDriveHealthReport d wear written warn s
  | .aliveWatchTimeout tick => Sys2Proof.Machine.execAliveWatchTimeout tick s
  | .nop e m l => Sys2Proof.Machine.execNop e m l s
  | .vadd e m l => Sys2Proof.Machine.execVadd e m l s
  | .vadds e m l => Sys2Proof.Machine.execVadds e m l s
  | .vsub e m l => Sys2Proof.Machine.execVsub e m l s
  | .vsubs e m l => Sys2Proof.Machine.execVsubs e m l s
  | .vnegs e m l => Sys2Proof.Machine.execVnegs e m l s
  | .vabss e m l => Sys2Proof.Machine.execVabss e m l s
  | .vmax e m l => Sys2Proof.Machine.execVmax e m l s
  | .vmin e m l => Sys2Proof.Machine.execVmin e m l s
  | .vand e m l => Sys2Proof.Machine.execVand e m l s
  | .vor e m l => Sys2Proof.Machine.execVor e m l s
  | .vxor e m l => Sys2Proof.Machine.execVxor e m l s
  | .vshls e m l => Sys2Proof.Machine.execVshls e m l s
  | .vshrr e m l => Sys2Proof.Machine.execVshrr e m l s
  | .vshr e m l => Sys2Proof.Machine.execVshr e m l s
  | .vsatn e m l => Sys2Proof.Machine.execVsatn e m l s
  | .vcmp e m l => Sys2Proof.Machine.execVcmp e m l s
  | .vmulr e m l => Sys2Proof.Machine.execVmulr e m l s
  | .vmac e m l => Sys2Proof.Machine.execVmac e m l s
  | .vmsu e m l => Sys2Proof.Machine.execVmsu e m l s
  | .vmul e m l => Sys2Proof.Machine.execVmul e m l s
  | .aclr e m l => Sys2Proof.Machine.execAclr e m l s
  | .aadd e m l => Sys2Proof.Machine.execAadd e m l s
  | .asum e m l => Sys2Proof.Machine.execAsum e m l s
  | .vtoa e m l => Sys2Proof.Machine.execVtoa e m l s
  | .ext e m l => Sys2Proof.Machine.execExt e m l s
  | .bq e m l => Sys2Proof.Machine.execBq e m l s
  | .firs e m l => Sys2Proof.Machine.execFirs e m l s
  | .lin e m l => Sys2Proof.Machine.execLin e m l s
  | .gmul e m l => Sys2Proof.Machine.execGmul e m l s
  | .gmac e m l => Sys2Proof.Machine.execGmac e m l s
  | .log2 e m l => Sys2Proof.Machine.execLog2 e m l s
  | .exp2 e m l => Sys2Proof.Machine.execExp2 e m l s
  | .sadd e m l => Sys2Proof.Machine.execSadd e m l s
  | .ssub e m l => Sys2Proof.Machine.execSsub e m l s
  | .sadds e m l => Sys2Proof.Machine.execSadds e m l s
  | .smul e m l => Sys2Proof.Machine.execSmul e m l s
  | .sand e m l => Sys2Proof.Machine.execSand e m l s
  | .sor e m l => Sys2Proof.Machine.execSor e m l s
  | .sxor e m l => Sys2Proof.Machine.execSxor e m l s
  | .sshl e m l => Sys2Proof.Machine.execSshl e m l s
  | .sshr e m l => Sys2Proof.Machine.execSshr e m l s
  | .saddi e m l => Sys2Proof.Machine.execSaddi e m l s
  | .smovi e m l imm => Sys2Proof.Machine.execSmovi e m l imm s
  | .scmp e m l => Sys2Proof.Machine.execScmp e m l s
  | .qset e m l => Sys2Proof.Machine.execQset e m l s
  | .vbc e m l => Sys2Proof.Machine.execVbc e m l s
  | .vget e m l => Sys2Proof.Machine.execVget e m l s
  | .vput e m l => Sys2Proof.Machine.execVput e m l s
  | .vmov e m l => Sys2Proof.Machine.execVmov e m l s
  | .vrot e m l => Sys2Proof.Machine.execVrot e m l s
  | .vimm e m imm => Sys2Proof.Machine.execVimm e m imm s
  | .ldv e l m => Sys2Proof.Machine.execLdv e l m s
  | .ldvp e l m => Sys2Proof.Machine.execLdvp e l m s
  | .stv e l m => Sys2Proof.Machine.execStv e l m s
  | .stvp e l m => Sys2Proof.Machine.execStvp e l m s
  | .lds e l m => Sys2Proof.Machine.execLds e l m s
  | .ldsp e l m => Sys2Proof.Machine.execLdsp e l m s
  | .sts e l m => Sys2Proof.Machine.execSts e l m s
  | .stsp e l m => Sys2Proof.Machine.execStsp e l m s
  | .lda e l m => Sys2Proof.Machine.execLda e l m s
  | .sta e l m => Sys2Proof.Machine.execSta e l m s
  | .padd e l m => Sys2Proof.Machine.execPadd e l m s
  | .pset e l imm => Sys2Proof.Machine.execPset e l imm s
  | .plen e l imm => Sys2Proof.Machine.execPlen e l imm s
  | .pget e l m => Sys2Proof.Machine.execPget e l m s
  | .pput e l m => Sys2Proof.Machine.execPput e l m s
  | .wrdc e l m => Sys2Proof.Machine.execWrdc e l m s
  | .wrds e l m => Sys2Proof.Machine.execWrds e l m s
  | .wrdcx e l m => Sys2Proof.Machine.execWrdcx e l m s
  | .wrdsx e l m => Sys2Proof.Machine.execWrdsx e l m s
  | .wwrc e l m => Sys2Proof.Machine.execWwrc e l m s
  | .wwrs e l m => Sys2Proof.Machine.execWwrs e l m s
  | .wwrcx e l m => Sys2Proof.Machine.execWwrcx e l m s
  | .wwrsx e l m => Sys2Proof.Machine.execWwrsx e l m s
  | .trdc e l m => Sys2Proof.Machine.execTrdc e l m s
  | .trds e l m => Sys2Proof.Machine.execTrds e l m s
  | .trdcx e l m => Sys2Proof.Machine.execTrdcx e l m s
  | .trdsx e l m => Sys2Proof.Machine.execTrdsx e l m s
  | .dwrc e l m => Sys2Proof.Machine.execDwrc e l m s
  | .dwrs e l m => Sys2Proof.Machine.execDwrs e l m s
  | .dwrcx e l m => Sys2Proof.Machine.execDwrcx e l m s
  | .dwrsx e l m => Sys2Proof.Machine.execDwrsx e l m s
  | .br e l m => Sys2Proof.Machine.execBr e l m s
  | .brl e l imm => Sys2Proof.Machine.execBrl e l imm s
  | .loop e l m => Sys2Proof.Machine.execLoop e l m s
  | .loopi e l imm => Sys2Proof.Machine.execLoopi e l imm s
  | .loopCountExpiry e => Sys2Proof.Machine.execLoopCountExpiry e s
  | .tend e l m => Sys2Proof.Machine.execTend e l m s
  | .fence e l m => Sys2Proof.Machine.execFence e l m s
  | .sysrd e l m => Sys2Proof.Machine.execSysrd e l m s
  | .windowDataArrival e => Sys2Proof.Machine.execWindowDataArrival e s
  | .swapBlockArrival e => Sys2Proof.Machine.execSwapBlockArrival e s
  | .winFf0ValidClear => Sys2Proof.Machine.execWinFf0ValidClear s
  | .forcedClear => Sys2Proof.Machine.execForcedClear s
  | .remapSet => Sys2Proof.Machine.execRemapSet s
  | .perst => Sys2Proof.Machine.execPerst s
  | .chainDeadline => Sys2Proof.Machine.execChainDeadline s
  | .drvClockError => Sys2Proof.Machine.execDrvClockError s
  | .drvClockRestore => Sys2Proof.Machine.execDrvClockRestore s
  | .drvFreqChange => Sys2Proof.Machine.execDrvFreqChange s
  | .slpInsertion => Sys2Proof.Machine.execSlpInsertion s
  | .slpRemoval => Sys2Proof.Machine.execSlpRemoval s
  | .slpPress => Sys2Proof.Machine.execSlpPress s
  | .slpPressRelease => Sys2Proof.Machine.execSlpPressRelease s
  | .slpSequenceReport => Sys2Proof.Machine.execSlpSequenceReport s
  | .slpLongPress => Sys2Proof.Machine.execSlpLongPress s
  | .slpToneEnd => Sys2Proof.Machine.execSlpToneEnd s
  | .limpAnnounce => Sys2Proof.Machine.execLimpAnnounce s
  | .announceTimer => Sys2Proof.Machine.execAnnounceTimer s
  | .ptpAnnounceTimeout => Sys2Proof.Machine.execPtpAnnounceTimeout s
  | .mgPauseLimit => Sys2Proof.Machine.execMgPauseLimit s
  | .xoFault => Sys2Proof.Machine.execXoFault s
  | .hoLimitReached => Sys2Proof.Machine.execHoLimitReached s
  | .servoLock => Sys2Proof.Machine.execServoLock s
  | .clkModeTimeout => Sys2Proof.Machine.execClkModeTimeout s
  | .volumeMount => Sys2Proof.Machine.execVolumeMount s
  | .vigilTimer => Sys2Proof.Machine.execVigilTimer s
  | .vigilTimeout => Sys2Proof.Machine.execVigilTimeout s
  | .dstCheck => Sys2Proof.Machine.execDstCheck s
  | .pairActInLow => Sys2Proof.Machine.execPairActInLow s
  | .handover => Sys2Proof.Machine.execHandover s
  | .takeover => Sys2Proof.Machine.execTakeover s
  | .resyncRequestTimer => Sys2Proof.Machine.execResyncRequestTimer s
  | .resyncStepDone => Sys2Proof.Machine.execResyncStepDone s
  | .resyncTimeout => Sys2Proof.Machine.execResyncTimeout s
  | .faultStateExit => Sys2Proof.Machine.execFaultStateExit s
  | .faultInjectFire => Sys2Proof.Machine.execFaultInjectFire s
  | .shedLevelUp => Sys2Proof.Machine.execShedLevelUp s
  | .shedLevelDown => Sys2Proof.Machine.execShedLevelDown s
  | .mgmtWatchdog => Sys2Proof.Machine.execMgmtWatchdog s
  | .cpWatchdog => Sys2Proof.Machine.execCpWatchdog s
  | .vaonLoss => Sys2Proof.Machine.execVaonLoss s
  | .resetNAssert => Sys2Proof.Machine.execResetNAssert s
  | .resetNRelease => Sys2Proof.Machine.execResetNRelease s
  | .thermalRelease => Sys2Proof.Machine.execThermalRelease s
  | .planeReset => Sys2Proof.Machine.execPlaneReset s
  | .planeRestart => Sys2Proof.Machine.execPlaneRestart s
  | .crystalStartupDone => Sys2Proof.Machine.execCrystalStartupDone s
  | .optionLoadDone => Sys2Proof.Machine.execOptionLoadDone s
  | .pllLock => Sys2Proof.Machine.execPllLock s
  | .bootRomDone => Sys2Proof.Machine.execBootRomDone s
  | .settingsLoaded => Sys2Proof.Machine.execSettingsLoaded s
  | .dataPlaneStart => Sys2Proof.Machine.execDataPlaneStart s
  | .trialHealthy => Sys2Proof.Machine.execTrialHealthy s
  | .pwrfail => Sys2Proof.Machine.execPwrfail s
  | .shutdownCaptureDone => Sys2Proof.Machine.execShutdownCaptureDone s
  | .supplyReturn => Sys2Proof.Machine.execSupplyReturn s
  | .avsRequest => Sys2Proof.Machine.execAvsRequest s
  | .avsSlewDone => Sys2Proof.Machine.execAvsSlewDone s
  | .avsTimeout => Sys2Proof.Machine.execAvsTimeout s
  | .sealIndTimer => Sys2Proof.Machine.execSealIndTimer s
  | .meterMailboxTimeout => Sys2Proof.Machine.execMeterMailboxTimeout s
  | .meterPowerReturn => Sys2Proof.Machine.execMeterPowerReturn s
  | .testEnFall => Sys2Proof.Machine.execTestEnFall s
  | .tickBoundaryLate => Sys2Proof.Machine.execTickBoundaryLate s
  | .meterBatteryLow => Sys2Proof.Machine.execMeterBatteryLow s
  | .slpHeldPressThreshold => Sys2Proof.Machine.execSlpHeldPressThreshold s
  | .drvRampDownDone => Sys2Proof.Machine.execDrvRampDownDone s
  | .mgPauseEnd => Sys2Proof.Machine.execMgPauseEnd s
  | .mgPauseIgnoreEnd => Sys2Proof.Machine.execMgPauseIgnoreEnd s
  | .aliveQuietExpiry => Sys2Proof.Machine.execAliveQuietExpiry s
  | .railsSettled => Sys2Proof.Machine.execRailsSettled s

end Sys2Proof.Machine
end

