-- ==== Sys2Proof/Machine/Idle.lean ====
section
/-! DEFINITION. What the block does of its own accord when no command waits: the Command Processor executes the next queued request
(13 R527, R528), else a running engine its next bundle (04 R125, R130); which of the two agents moves first is this model's choice (log
entry 1). -/

namespace Sys2Proof.Machine

/-- The command that executes a request of class 0x01. -/
def instrOf01 (r : Req) : Option Instr :=
  match r.opcode % 256 with
  | 0x01 => some (.sysGetCaps r)
  | 0x02 => some (.sysGetStatus r)
  | 0x03 => some (.sysSetMode r)
  | 0x04 => some (.sysSetTimebase r)
  | 0x05 => some (.sysReset r)
  | 0x06 => some (.sysMuteAll r)
  | 0x07 => some (.sysRelay r)
  | 0x20 => some (.placeSetPolicy r)
  | 0x21 => some (.placeGetPolicy r)
  | 0x22 => some (.placeGetEngines r)
  | 0x23 => some (.placeGetEvents r)
  | 0x24 => some (.placeClearStats r)
  | 0x30 => some (.memGetStatus r)
  | 0x31 => some (.heathSetPolicy r)
  | 0x32 => some (.memClearEcc r)
  | _ => none

/-- The command that executes a request of class 0x02. -/
def instrOf02 (r : Req) : Option Instr :=
  match r.opcode % 256 with
  | 0x01 => some (.swardSetNodes r)
  | 0x02 => some (.swardFill r)
  | 0x03 => some (.swardDropStaged r)
  | 0x04 => some (.swardGetNodes r)
  | 0x05 => some (.swardGetColumns r)
  | 0x06 => some (.swardGetClip r)
  | 0x07 => some (.swardClearClip r)
  | 0x08 => some (.swardGetTiles r)
  | _ => none

/-- The command that executes a request of class 0x03. -/
def instrOf03 (r : Req) : Option Instr :=
  match r.opcode % 256 with
  | 0x01 => some (.chainLoadBegin r)
  | 0x02 => some (.chainLoadData r)
  | 0x03 => some (.chainLoadEnd r)
  | 0x04 => some (.chainUnload r)
  | 0x05 => some (.chainSetParams r)
  | 0x06 => some (.chainSetTaps r)
  | 0x07 => some (.chainGetStatus r)
  | 0x08 => some (.chainClearCounters r)
  | 0x09 => some (.mapSet r)
  | 0x0A => some (.mapGet r)
  | 0x0B => some (.chainWriteState r)
  | 0x0C => some (.chainReadState r)
  | 0x0D => some (.chainSetPlacement r)
  | 0x20 => some (.dynConfig r)
  | 0x21 => some (.dynSetParams r)
  | 0x22 => some (.dynGet r)
  | 0x40 => some (.lineAlloc r)
  | 0x41 => some (.lineFree r)
  | 0x42 => some (.lineGet r)
  | _ => none

/-- The command that executes a request of class 0x04. -/
def instrOf04 (r : Req) : Option Instr :=
  match r.opcode % 256 with
  | 0x01 => some (.spConfig r)
  | 0x02 => some (.spGetStatus r)
  | 0x03 => some (.spSetMclk r)
  | 0x04 => some (.spClear r)
  | 0x10 => some (.aeConfig r)
  | 0x11 => some (.aeGetStatus r)
  | 0x20 => some (.drvConfig r)
  | 0x21 => some (.drvSetFreq r)
  | 0x22 => some (.drvRearm r)
  | 0x23 => some (.drvGetStatus r)
  | 0x30 => some (.slpSetListen r)
  | 0x31 => some (.slpTone r)
  | 0x32 => some (.slpGetEvents r)
  | 0x40 => some (.tgSet r)
  | 0x41 => some (.tgGet r)
  | _ => none

/-- The command that executes a request of class 0x05. -/
def instrOf05 (r : Req) : Option Instr :=
  match r.opcode % 256 with
  | 0x01 => some (.linkSetNode r)
  | 0x02 => some (.linkConfig r)
  | 0x03 => some (.linkGetStatus r)
  | 0x04 => some (.flowOutSet r)
  | 0x05 => some (.flowOutDelete r)
  | 0x06 => some (.flowInSet r)
  | 0x07 => some (.flowInDelete r)
  | 0x08 => some (.flowGetStatus r)
  | 0x09 => some (.groupSet r)
  | 0x0A => some (.groupDelete r)
  | 0x0B => some (.dirSet r)
  | 0x0C => some (.dirGet r)
  | 0x0D => some (.ringSet r)
  | 0x10 => some (.aoipSenderSet r)
  | 0x11 => some (.aoipReceiverSet r)
  | 0x12 => some (.aoipGetStatus r)
  | 0x20 => some (.mgConfig r)
  | 0x21 => some (.mgSetWake r)
  | 0x30 => some (.alConfig r)
  | 0x31 => some (.alFrameTx r)
  | 0x32 => some (.alFrameRx r)
  | 0x33 => some (.alGetStatus r)
  | 0x40 => some (.linkClear r)
  | _ => none

/-- The command that executes a request of class 0x06. -/
def instrOf06 (r : Req) : Option Instr :=
  match r.opcode % 256 with
  | 0x01 => some (.clkSetRef r)
  | 0x02 => some (.clkSetSelect r)
  | 0x03 => some (.clkSetDco r)
  | 0x04 => some (.clkSetHoldover r)
  | 0x05 => some (.clkGetStatus r)
  | 0x06 => some (.clkClearHist r)
  | 0x10 => some (.ptpConfig r)
  | 0x11 => some (.ptpGetStatus r)
  | 0x20 => some (.pulseConfig r)
  | 0x30 => some (.almanacSet r)
  | 0x31 => some (.almanacGet r)
  | 0x40 => some (.timeGet r)
  | 0x41 => some (.timeStep r)
  | 0x42 => some (.timeSetEpoch r)
  | 0x43 => some (.timeGetStamps r)
  | _ => none

/-- The command that executes a request of class 0x07. -/
def instrOf07 (r : Req) : Option Instr :=
  match r.opcode % 256 with
  | 0x01 => some (.capVolumeFormat r)
  | 0x02 => some (.capVolumeGet r)
  | 0x03 => some (.capSetPolicy r)
  | 0x04 => some (.capGetDrives r)
  | 0x05 => some (.capDriveJoin r)
  | 0x10 => some (.capJobSet r)
  | 0x11 => some (.capRecord r)
  | 0x12 => some (.capStop r)
  | 0x13 => some (.capGetJobs r)
  | 0x20 => some (.capReplay r)
  | 0x21 => some (.capReplayStop r)
  | 0x30 => some (.capFind r)
  | 0x31 => some (.capRead r)
  | 0x32 => some (.capProtect r)
  | 0x33 => some (.capDelete r)
  | _ => none

/-- The command that executes a request of class 0x08. -/
def instrOf08 (r : Req) : Option Instr :=
  match r.opcode % 256 with
  | 0x01 => some (.meterGetInfo r)
  | 0x02 => some (.meterSetPoint r)
  | 0x03 => some (.meterGetPoints r)
  | 0x04 => some (.meterSeal r)
  | 0x05 => some (.meterUnseal r)
  | 0x06 => some (.meterRead r)
  | 0x07 => some (.meterAckExport r)
  | 0x08 => some (.meterGetLive r)
  | 0x09 => some (.meterLoudReset r)
  | 0x0A => some (.meterSetExport r)
  | 0x0B => some (.meterFwLoad r)
  | 0x0C => some (.meterFwEnd r)
  | 0x0D => some (.meterFwRemove r)
  | 0x80 => some (.meterOpSet r)
  | 0x81 => some (.meterOpRead r)
  | 0x90 => some (.silenceSet r)
  | 0x91 => some (.silenceGet r)
  | _ => none

/-- The command that executes a request of class 0x09. -/
def instrOf09 (r : Req) : Option Instr :=
  match r.opcode % 256 with
  | 0x01 => some (.pwrSetPolicy r)
  | 0x02 => some (.pwrGetPolicy r)
  | 0x03 => some (.pwrSetDormant r)
  | 0x04 => some (.pwrGetStatus r)
  | _ => none

/-- The command that executes a request of class 0x0A. -/
def instrOf0A (r : Req) : Option Instr :=
  match r.opcode % 256 with
  | 0x01 => some (.pairConfig r)
  | 0x02 => some (.pairSetKey r)
  | 0x03 => some (.pairGetStatus r)
  | 0x04 => some (.pairRelinquish r)
  | 0x05 => some (.pairResync r)
  | _ => none

/-- The command that executes a request of class 0x0B. -/
def instrOf0B (r : Req) : Option Instr :=
  match r.opcode % 256 with
  | 0x01 => some (.faultGetStatus r)
  | 0x02 => some (.faultGetLog r)
  | 0x03 => some (.faultAck r)
  | 0x04 => some (.faultGetCounters r)
  | 0x05 => some (.faultClear r)
  | 0x06 => some (.faultSetReaction r)
  | 0x07 => some (.faultSetQuiet r)
  | 0x0F => some (.faultInject r)
  | _ => none

/-- The command that executes a request of class 0x0C. -/
def instrOf0C (r : Req) : Option Instr :=
  match r.opcode % 256 with
  | 0x01 => some (.fwBegin r)
  | 0x02 => some (.fwData r)
  | 0x03 => some (.fwEnd r)
  | 0x04 => some (.fwActivate r)
  | 0x05 => some (.fwCommit r)
  | 0x06 => some (.fwFallback r)
  | 0x07 => some (.fwGetStatus r)
  | 0x10 => some (.setSave r)
  | _ => none

/-- The command that executes a request of class 0x0D. -/
def instrOf0D (r : Req) : Option Instr :=
  match r.opcode % 256 with
  | 0x01 => some (.credSet r)
  | 0x02 => some (.credClear r)
  | 0x03 => some (.credList r)
  | 0x10 => some (.auditRead r)
  | 0x11 => some (.auditStatus r)
  | 0x20 => some (.lcGet r)
  | 0x21 => some (.lcAdvance r)
  | 0x30 => some (.tamperSet r)
  | 0x31 => some (.tamperGet r)
  | 0x40 => some (.trustSet r)
  | _ => none

/-- The command that executes a request of class 0x0F. -/
def instrOf0F (r : Req) : Option Instr :=
  match r.opcode % 256 with
  | 0x01 => some (.optGet r)
  | 0x02 => some (.optSet r)
  | _ => none

/-- The command that executes an accepted request (13 R550 and the command tables of each chapter). -/
def instrOf (r : Req) : Option Instr :=
  match r.opcode / 256 with
  | 0x01 => instrOf01 r
  | 0x02 => instrOf02 r
  | 0x03 => instrOf03 r
  | 0x04 => instrOf04 r
  | 0x05 => instrOf05 r
  | 0x06 => instrOf06 r
  | 0x07 => instrOf07 r
  | 0x08 => instrOf08 r
  | 0x09 => instrOf09 r
  | 0x0A => instrOf0A r
  | 0x0B => instrOf0B r
  | 0x0C => instrOf0C r
  | 0x0D => instrOf0D r
  | 0x0F => instrOf0F r
  | _ => none

/-- The request that the Command Processor executes next: the oldest of the highest non-empty queue, but one of P3 once that has waited
through 64 executions (13 R528). -/
def nextRequest (c : Cp) : Option Req :=
  if 64 ≤ c.p3Wait ∧ !c.p3.isEmpty then c.p3.head? else (c.p0 ++ c.p1 ++ c.p2 ++ c.p3).head?

/-- The first engine that has a bundle to execute or a block to swap in. -/
def nextEngine (s : State) : Option Nat := ((s.eng.engines.map (·.1)).filter fun e => engRuns s e || blockMayArrive s e).head?

/-- A queued request that names no operation, which step 6 of 13 R520 lets none do: the Command Processor has found an inconsistency in its own state
(13 R525; log entry 39). -/
def lostRequest (r : Req) (s : State) : State := raise 0x0D01 0 (finish r INTERNAL_ERROR 0 0 false false [] (dequeue r s))

/-- One act of the block of its own accord. With nothing to do it idles. -/
def idle (s : State) : Host.Outcome State Fault Refusal :=
  match (if cpListens s then nextRequest s.cp else none) with
  | some r => (match instrOf r with
    | some i => exec i s
    | none => .next (settle (lostRequest r s)))
  | none => (match nextEngine s with
    | some e => .next (settle (if blockMayArrive s e then modEng e (fun g => { g with swapWait := false }) s else stepEngine e s))
    | none =>
      if awake s && anyReady s then .next (settle (serveReady s))
      else match nextPort s with
        | some p => .next (settle (sendNext p s))
        | none => .next s)

end Sys2Proof.Machine
end

