-- ==== Sys2Proof/WellFormed.lean ====
section
/-! DEFINITION. Which commands are well formed: every operand that names a unit or fills a field of the spec lies in its range. The meanings are
total and do not rest on it. -/

namespace Sys2Proof

/-- Whether a number lies below a bound. -/
def below (n x : Nat) : Bool := decide (x < n)

/-- Whether an accepted request fits its packet fields (13 R514) and carries the opcode of its row. -/
def reqOk (op : Nat) (r : Req) : Bool :=
  r.opcode == op && (r.ver == 1 || r.ver == 2) && below (2 ^ 8) r.flags && below (2 ^ 16) r.tag && below (2 ^ 32) r.seq
    && below 3 r.role && below 8 r.slot && below (2 ^ 64) r.applyAt && below (2 ^ 32) r.crc && below 65536 r.params.length

/-- Whether the argument fields of an M-slot operation fit the bundle (04 R131). -/
def mArgsOk (x : MArgs) : Bool := below 4 x.pq && below 32 x.md && below 32 x.ma && below 32 x.mb && below 32 x.mi

/-- Whether the argument fields of an L-slot operation fit the bundle (04 R132). -/
def lArgsOk (x : LArgs) : Bool := below 4 x.pq && below 32 x.ld && below 8 x.lp && below (2 ^ 13) x.lx

/-- Whether an M slot fits the bundle (04 R131). -/
def mSlotOk (x : MSlot) : Bool := below 128 x.op && mArgsOk x.x

/-- Whether an L slot fits the bundle (04 R132). -/
def lSlotOk (x : LSlot) : Bool := below 64 x.op && lArgsOk x.x

/-- Whether an optional long immediate fits the bundle (04 R130). -/
def immOk (x : Option Nat) : Bool := match x with | some v => below (2 ^ 31) v | none => true

/-- Whether a fabric access names a master, an address and a burst of the fabric (07 R266, R269, R270). -/
def accessOk (x : Access) : Bool := below 32 x.m && below (2 ^ 40) x.addr && below 17 x.n

/-- Well-formed commands. -/
def Instr.wf : Instr → Bool
  | .gcpRequestReceived _ ret _ => below (2 ^ 48) ret.1 && below (2 ^ 16) ret.2
  | .ringEnable _ _ => true
  | .ringDisable _ => true
  | .winReqProdWrite v mem => below (2 ^ 32) v && mem.all fun d => d.1.length == 16
  | .winRplProdWrite v bufs => below (2 ^ 32) v && bufs.all fun d => d.1.length == 16
  | .winIntStatClear v => below (2 ^ 32) v
  | .winRstcauseClear v => below (2 ^ 32) v
  | .heathCtrlWrite n v => below 20 n && below (2 ^ 32) v
  | .pwrVcoreTargetWrite mv => below (2 ^ 16) mv
  | .clkHistClear v => below (2 ^ 32) v
  | .registerWrite _ m _ v => below 32 m && below (2 ^ 32) v
  | .udpDatagram port _ source ident _ _ _ => below 3 port && below (2 ^ 32) source.1 && below (2 ^ 16) source.2 && below (2 ^ 16) ident
  | .reassemblyTimeout port ip ident => below 3 port && below (2 ^ 32) ip && below (2 ^ 16) ident
  | .relayReply node _ => below (2 ^ 16) node
  | .relayTimeout _ => true
  | .sysGetCaps r => reqOk 0x0101 r
  | .sysGetStatus r => reqOk 0x0102 r
  | .sysSetMode r => reqOk 0x0103 r
  | .sysSetTimebase r => reqOk 0x0104 r
  | .sysReset r => reqOk 0x0105 r
  | .sysMuteAll r => reqOk 0x0106 r
  | .sysRelay r => reqOk 0x0107 r
  | .placeSetPolicy r => reqOk 0x0120 r
  | .placeGetPolicy r => reqOk 0x0121 r
  | .placeGetEngines r => reqOk 0x0122 r
  | .placeGetEvents r => reqOk 0x0123 r
  | .placeClearStats r => reqOk 0x0124 r
  | .memGetStatus r => reqOk 0x0130 r
  | .heathSetPolicy r => reqOk 0x0131 r
  | .memClearEcc r => reqOk 0x0132 r
  | .swardSetNodes r => reqOk 0x0201 r
  | .swardFill r => reqOk 0x0202 r
  | .swardDropStaged r => reqOk 0x0203 r
  | .swardGetNodes r => reqOk 0x0204 r
  | .swardGetColumns r => reqOk 0x0205 r
  | .swardGetClip r => reqOk 0x0206 r
  | .swardClearClip r => reqOk 0x0207 r
  | .swardGetTiles r => reqOk 0x0208 r
  | .chainLoadBegin r => reqOk 0x0301 r
  | .chainLoadData r => reqOk 0x0302 r
  | .chainLoadEnd r => reqOk 0x0303 r
  | .chainUnload r => reqOk 0x0304 r
  | .chainSetParams r => reqOk 0x0305 r
  | .chainSetTaps r => reqOk 0x0306 r
  | .chainGetStatus r => reqOk 0x0307 r
  | .chainClearCounters r => reqOk 0x0308 r
  | .mapSet r => reqOk 0x0309 r
  | .mapGet r => reqOk 0x030A r
  | .chainWriteState r => reqOk 0x030B r
  | .chainReadState r => reqOk 0x030C r
  | .chainSetPlacement r => reqOk 0x030D r
  | .dynConfig r => reqOk 0x0320 r
  | .dynSetParams r => reqOk 0x0321 r
  | .dynGet r => reqOk 0x0322 r
  | .lineAlloc r => reqOk 0x0340 r
  | .lineFree r => reqOk 0x0341 r
  | .lineGet r => reqOk 0x0342 r
  | .spConfig r => reqOk 0x0401 r
  | .spGetStatus r => reqOk 0x0402 r
  | .spSetMclk r => reqOk 0x0403 r
  | .spClear r => reqOk 0x0404 r
  | .aeConfig r => reqOk 0x0410 r
  | .aeGetStatus r => reqOk 0x0411 r
  | .drvConfig r => reqOk 0x0420 r
  | .drvSetFreq r => reqOk 0x0421 r
  | .drvRearm r => reqOk 0x0422 r
  | .drvGetStatus r => reqOk 0x0423 r
  | .slpSetListen r => reqOk 0x0430 r
  | .slpTone r => reqOk 0x0431 r
  | .slpGetEvents r => reqOk 0x0432 r
  | .tgSet r => reqOk 0x0440 r
  | .tgGet r => reqOk 0x0441 r
  | .linkSetNode r => reqOk 0x0501 r
  | .linkConfig r => reqOk 0x0502 r
  | .linkGetStatus r => reqOk 0x0503 r
  | .flowOutSet r => reqOk 0x0504 r
  | .flowOutDelete r => reqOk 0x0505 r
  | .flowInSet r => reqOk 0x0506 r
  | .flowInDelete r => reqOk 0x0507 r
  | .flowGetStatus r => reqOk 0x0508 r
  | .groupSet r => reqOk 0x0509 r
  | .groupDelete r => reqOk 0x050A r
  | .dirSet r => reqOk 0x050B r
  | .dirGet r => reqOk 0x050C r
  | .ringSet r => reqOk 0x050D r
  | .aoipSenderSet r => reqOk 0x0510 r
  | .aoipReceiverSet r => reqOk 0x0511 r
  | .aoipGetStatus r => reqOk 0x0512 r
  | .mgConfig r => reqOk 0x0520 r
  | .mgSetWake r => reqOk 0x0521 r
  | .alConfig r => reqOk 0x0530 r
  | .alFrameTx r => reqOk 0x0531 r
  | .alFrameRx r => reqOk 0x0532 r
  | .alGetStatus r => reqOk 0x0533 r
  | .linkClear r => reqOk 0x0540 r
  | .clkSetRef r => reqOk 0x0601 r
  | .clkSetSelect r => reqOk 0x0602 r
  | .clkSetDco r => reqOk 0x0603 r
  | .clkSetHoldover r => reqOk 0x0604 r
  | .clkGetStatus r => reqOk 0x0605 r
  | .clkClearHist r => reqOk 0x0606 r
  | .ptpConfig r => reqOk 0x0610 r
  | .ptpGetStatus r => reqOk 0x0611 r
  | .pulseConfig r => reqOk 0x0620 r
  | .almanacSet r => reqOk 0x0630 r
  | .almanacGet r => reqOk 0x0631 r
  | .timeGet r => reqOk 0x0640 r
  | .timeStep r => reqOk 0x0641 r
  | .timeSetEpoch r => reqOk 0x0642 r
  | .timeGetStamps r => reqOk 0x0643 r
  | .capVolumeFormat r => reqOk 0x0701 r
  | .capVolumeGet r => reqOk 0x0702 r
  | .capSetPolicy r => reqOk 0x0703 r
  | .capGetDrives r => reqOk 0x0704 r
  | .capDriveJoin r => reqOk 0x0705 r
  | .capJobSet r => reqOk 0x0710 r
  | .capRecord r => reqOk 0x0711 r
  | .capStop r => reqOk 0x0712 r
  | .capGetJobs r => reqOk 0x0713 r
  | .capReplay r => reqOk 0x0720 r
  | .capReplayStop r => reqOk 0x0721 r
  | .capFind r => reqOk 0x0730 r
  | .capRead r => reqOk 0x0731 r
  | .capProtect r => reqOk 0x0732 r
  | .capDelete r => reqOk 0x0733 r
  | .meterOpSet r => reqOk 0x0880 r
  | .meterOpRead r => reqOk 0x0881 r
  | .silenceSet r => reqOk 0x0890 r
  | .silenceGet r => reqOk 0x0891 r
  | .meterGetInfo r => reqOk 0x0801 r
  | .meterSetPoint r => reqOk 0x0802 r
  | .meterGetPoints r => reqOk 0x0803 r
  | .meterSeal r => reqOk 0x0804 r
  | .meterUnseal r => reqOk 0x0805 r
  | .meterRead r => reqOk 0x0806 r
  | .meterAckExport r => reqOk 0x0807 r
  | .meterGetLive r => reqOk 0x0808 r
  | .meterLoudReset r => reqOk 0x0809 r
  | .meterSetExport r => reqOk 0x080A r
  | .meterFwLoad r => reqOk 0x080B r
  | .meterFwEnd r => reqOk 0x080C r
  | .meterFwRemove r => reqOk 0x080D r
  | .pwrSetPolicy r => reqOk 0x0901 r
  | .pwrGetPolicy r => reqOk 0x0902 r
  | .pwrSetDormant r => reqOk 0x0903 r
  | .pwrGetStatus r => reqOk 0x0904 r
  | .pairConfig r => reqOk 0x0A01 r
  | .pairSetKey r => reqOk 0x0A02 r
  | .pairGetStatus r => reqOk 0x0A03 r
  | .pairRelinquish r => reqOk 0x0A04 r
  | .pairResync r => reqOk 0x0A05 r
  | .faultGetStatus r => reqOk 0x0B01 r
  | .faultGetLog r => reqOk 0x0B02 r
  | .faultAck r => reqOk 0x0B03 r
  | .faultGetCounters r => reqOk 0x0B04 r
  | .faultClear r => reqOk 0x0B05 r
  | .faultSetReaction r => reqOk 0x0B06 r
  | .faultSetQuiet r => reqOk 0x0B07 r
  | .faultInject r => reqOk 0x0B0F r
  | .fwBegin r => reqOk 0x0C01 r
  | .fwData r => reqOk 0x0C02 r
  | .fwEnd r => reqOk 0x0C03 r
  | .fwActivate r => reqOk 0x0C04 r
  | .fwCommit r => reqOk 0x0C05 r
  | .fwFallback r => reqOk 0x0C06 r
  | .fwGetStatus r => reqOk 0x0C07 r
  | .setSave r => reqOk 0x0C10 r
  | .optGet r => reqOk 0x0F01 r
  | .optSet r => reqOk 0x0F02 r
  | .credSet r => reqOk 0x0D01 r
  | .credClear r => reqOk 0x0D02 r
  | .credList r => reqOk 0x0D03 r
  | .auditRead r => reqOk 0x0D10 r
  | .auditStatus r => reqOk 0x0D11 r
  | .lcGet r => reqOk 0x0D20 r
  | .lcAdvance r => reqOk 0x0D21 r
  | .tamperSet r => reqOk 0x0D30 r
  | .tamperGet r => reqOk 0x0D31 r
  | .trustSet r => reqOk 0x0D40 r
  | .tickBoundary _ => true
  | .rampEnd col => below 4096 col
  | .tileWakeDone t => below 64 t
  | .concealExpiry _ _ => true
  | .coarseBlockEnd meter => below 256 meter
  | .slowPathReady meter => below 256 meter
  | .silenceHoldExpiry space slot => below 4 space && below (2 ^ 13) slot
  | .parkHoldExpiry h => below (2 ^ 16) h
  | .decisionPeriodEnd _ _ _ => true
  | .precopyRoundDone h _ => below (2 ^ 16) h
  | .finalCopyDone h _ => below (2 ^ 16) h
  | .twinRunCompare h _ _ => below (2 ^ 16) h
  | .admissionCopyDone h => below (2 ^ 16) h
  | .engineWakeDone e => below 192 e
  | .selfTestSlice e _ => below 192 e
  | .fabricRead x => accessOk x
  | .fabricWrite x => accessOk x
  | .atomicAdd x => accessOk x
  | .atomicSwap x => accessOk x
  | .lockedSequence m _ => below 32 m
  | .lockLimitExpiry _ m => below 32 m
  | .homePortAccess x => accessOk x
  | .heathScrub n _ _ => below 20 n
  | .dramScrub _ _ => true
  | .heathIdleTimeout n => below 20 n
  | .bankWakeDone n => below 20 n
  | .heathZeroingDone n => below 20 n
  | .frameForward port _ fcs => below 4 port && below (2 ^ 32) fcs
  | .audioFrame port _ fcs _ => below 4 port && below (2 ^ 32) fcs
  | .controlFrame port _ fcs => below 4 port && below (2 ^ 32) fcs
  | .announceFrame port _ fcs => below 4 port && below (2 ^ 32) fcs
  | .ringHello port _ fcs => below 4 port && below (2 ^ 32) fcs
  | .ringFault port _ fcs => below 4 port && below (2 ^ 32) fcs
  | .ringRestore port _ fcs => below 4 port && below (2 ^ 32) fcs
  | .directoryEntryExpiry node => below (2 ^ 16) node
  | .ringHelloTimer port => below 4 port
  | .segmentLoss port => below 4 port
  | .wtrExpiry port => below 4 port
  | .linkTrained port => below 4 port
  | .crcRateTrip port => below 4 port
  | .crcRateRecovery port => below 4 port
  | .aoipPacket port _ _ _ _ => below 4 port
  | .arpRequest port _ _ ip => below 7 port && below (2 ^ 32) ip
  | .icmpEcho _ ip _ => below (2 ^ 32) ip
  | .ptpEventMessage port _ _ _ => below 5 port
  | .ptpSync _ _ => true
  | .mgPauseFrame quanta => below (2 ^ 16) quanta
  | .wakePatternMatch _ _ => true
  | .alFrameReceived port _ => below 2 port
  | .plcaBeaconLoss port => below 2 port
  | .missingEdge c _ => below 13 c
  | .freqMonitorUpdate c _ => below 13 c
  | .candidateQualified c => below 13 c
  | .wMeanRecord _ => true
  | .servoMeasurement _ _ => true
  | .pulseEdge pulse _ => below 4 pulse
  | .refinTimestamp input _ => below 4 input
  | .almanacFire e => below 32 e
  | .powerOnReset bootSel clkMode _ => below 4 bootSel && below 4 clkMode
  | .brownOut _ => true
  | .thermalTrip _ => true
  | .dramTrainingDone _ => true
  | .linkDown port => below 4 port
  | .ptpGeneralMessage _ => true
  | .ptpIntervalTimer kind _ => below 3 kind
  | .spLock port _ _ => below 8 port
  | .spClockLoss port _ => below 8 port
  | .spUnderrun x => below 8 x.port
  | .spOverrun port => below 8 port
  | .aeLockLoss port _ _ => below 4 port
  | .aeRelock port _ _ => below 4 port
  | .aeSubframe port ch _ _ _ => below 4 port && below 2 ch
  | .aeChannelStatusBlock port _ => below 4 port
  | .asrcRelock _ port _ => below 8 port
  | .dcTrip c => below 32 c
  | .drvFault _ => true
  | .fbLost c => below 32 c
  | .slpClassify _ => true
  | .stageWrite _ => true
  | .driveWriteComplete _ d _ => below 4 d
  | .driveFail d => below 4 d
  | .driveCommandTimeout d => below 4 d
  | .driveReturn d => below 4 d
  | .readaheadFilled job => below 16 job
  | .beat port _ fcs => below 4 port && below (2 ^ 32) fcs
  | .mirror port _ fcs => below 4 port && below (2 ^ 32) fcs
  | .ack port _ fcs => below 4 port && below (2 ^ 32) fcs
  | .relinquish port _ fcs => below 4 port && below (2 ^ 32) fcs
  | .vigil port _ fcs => below 4 port && below (2 ^ 32) fcs
  | .resyncRequest port _ fcs => below 4 port && below (2 ^ 32) fcs
  | .resyncData port _ fcs _ => below 4 port && below (2 ^ 32) fcs
  | .partnerReset port _ fcs => below 4 port && below (2 ^ 32) fcs
  | .partnerResetTimeout _ => true
  | .pairPathTimeout _ => true
  | .mirrorResend seq => below (2 ^ 32) seq
  | .pairListenTimeout _ => true
  | .tamperDetect src => below 4 src
  | .tamperRearm src => below 4 src
  | .meterMinuteBoundary _ => true
  | .meterSerialGetInfo arg crc => below (2 ^ 32) arg && below (2 ^ 16) crc
  | .meterSerialRead arg crc => below (2 ^ 32) arg && below (2 ^ 16) crc
  | .meterSerialAckExport arg crc => below (2 ^ 32) arg && below (2 ^ 16) crc
  | .meterSerialGetLive arg crc => below (2 ^ 32) arg && below (2 ^ 16) crc
  | .meterAlarmRepeat code => below 256 code
  | .meterPowerLoss _ => true
  | .nvmeDriveDetected d _ _ _ _ _ _ _ _ _ => below 4 d
  | .driveHealthReport d _ _ _ => below 4 d
  | .aliveWatchTimeout _ => true
  | .nop e m l => below 192 e && mArgsOk m && lArgsOk l
  | .vadd e m l => below 192 e && mArgsOk m && lSlotOk l
  | .vadds e m l => below 192 e && mArgsOk m && lSlotOk l
  | .vsub e m l => below 192 e && mArgsOk m && lSlotOk l
  | .vsubs e m l => below 192 e && mArgsOk m && lSlotOk l
  | .vnegs e m l => below 192 e && mArgsOk m && lSlotOk l
  | .vabss e m l => below 192 e && mArgsOk m && lSlotOk l
  | .vmax e m l => below 192 e && mArgsOk m && lSlotOk l
  | .vmin e m l => below 192 e && mArgsOk m && lSlotOk l
  | .vand e m l => below 192 e && mArgsOk m && lSlotOk l
  | .vor e m l => below 192 e && mArgsOk m && lSlotOk l
  | .vxor e m l => below 192 e && mArgsOk m && lSlotOk l
  | .vshls e m l => below 192 e && mArgsOk m && lSlotOk l
  | .vshrr e m l => below 192 e && mArgsOk m && lSlotOk l
  | .vshr e m l => below 192 e && mArgsOk m && lSlotOk l
  | .vsatn e m l => below 192 e && mArgsOk m && lSlotOk l
  | .vcmp e m l => below 192 e && mArgsOk m && lSlotOk l
  | .vmulr e m l => below 192 e && mArgsOk m && lSlotOk l
  | .vmac e m l => below 192 e && mArgsOk m && lSlotOk l
  | .vmsu e m l => below 192 e && mArgsOk m && lSlotOk l
  | .vmul e m l => below 192 e && mArgsOk m && lSlotOk l
  | .aclr e m l => below 192 e && mArgsOk m && lSlotOk l
  | .aadd e m l => below 192 e && mArgsOk m && lSlotOk l
  | .asum e m l => below 192 e && mArgsOk m && lSlotOk l
  | .vtoa e m l => below 192 e && mArgsOk m && lSlotOk l
  | .ext e m l => below 192 e && mArgsOk m && lSlotOk l
  | .bq e m l => below 192 e && mArgsOk m && lSlotOk l
  | .firs e m l => below 192 e && mArgsOk m && lSlotOk l
  | .lin e m l => below 192 e && mArgsOk m && lSlotOk l
  | .gmul e m l => below 192 e && mArgsOk m && lSlotOk l
  | .gmac e m l => below 192 e && mArgsOk m && lSlotOk l
  | .log2 e m l => below 192 e && mArgsOk m && lSlotOk l
  | .exp2 e m l => below 192 e && mArgsOk m && lSlotOk l
  | .sadd e m l => below 192 e && mArgsOk m && lSlotOk l
  | .ssub e m l => below 192 e && mArgsOk m && lSlotOk l
  | .sadds e m l => below 192 e && mArgsOk m && lSlotOk l
  | .smul e m l => below 192 e && mArgsOk m && lSlotOk l
  | .sand e m l => below 192 e && mArgsOk m && lSlotOk l
  | .sor e m l => below 192 e && mArgsOk m && lSlotOk l
  | .sxor e m l => below 192 e && mArgsOk m && lSlotOk l
  | .sshl e m l => below 192 e && mArgsOk m && lSlotOk l
  | .sshr e m l => below 192 e && mArgsOk m && lSlotOk l
  | .saddi e m l => below 192 e && mArgsOk m && lSlotOk l
  | .smovi e m l imm => below 192 e && mArgsOk m && lSlotOk l && immOk imm
  | .scmp e m l => below 192 e && mArgsOk m && lSlotOk l
  | .qset e m l => below 192 e && mArgsOk m && lSlotOk l
  | .vbc e m l => below 192 e && mArgsOk m && lSlotOk l
  | .vget e m l => below 192 e && mArgsOk m && lSlotOk l
  | .vput e m l => below 192 e && mArgsOk m && lSlotOk l
  | .vmov e m l => below 192 e && mArgsOk m && lSlotOk l
  | .vrot e m l => below 192 e && mArgsOk m && lSlotOk l
  | .vimm e m imm => below 192 e && mArgsOk m && below (2 ^ 31) imm
  | .ldv e l m => below 192 e && lArgsOk l && mSlotOk m
  | .ldvp e l m => below 192 e && lArgsOk l && mSlotOk m
  | .stv e l m => below 192 e && lArgsOk l && mSlotOk m
  | .stvp e l m => below 192 e && lArgsOk l && mSlotOk m
  | .lds e l m => below 192 e && lArgsOk l && mSlotOk m
  | .ldsp e l m => below 192 e && lArgsOk l && mSlotOk m
  | .sts e l m => below 192 e && lArgsOk l && mSlotOk m
  | .stsp e l m => below 192 e && lArgsOk l && mSlotOk m
  | .lda e l m => below 192 e && lArgsOk l && mSlotOk m
  | .sta e l m => below 192 e && lArgsOk l && mSlotOk m
  | .padd e l m => below 192 e && lArgsOk l && mSlotOk m
  | .pset e l imm => below 192 e && lArgsOk l && below (2 ^ 31) imm
  | .plen e l imm => below 192 e && lArgsOk l && below (2 ^ 31) imm
  | .pget e l m => below 192 e && lArgsOk l && mSlotOk m
  | .pput e l m => below 192 e && lArgsOk l && mSlotOk m
  | .wrdc e l m => below 192 e && lArgsOk l && mSlotOk m
  | .wrds e l m => below 192 e && lArgsOk l && mSlotOk m
  | .wrdcx e l m => below 192 e && lArgsOk l && mSlotOk m
  | .wrdsx e l m => below 192 e && lArgsOk l && mSlotOk m
  | .wwrc e l m => below 192 e && lArgsOk l && mSlotOk m
  | .wwrs e l m => below 192 e && lArgsOk l && mSlotOk m
  | .wwrcx e l m => below 192 e && lArgsOk l && mSlotOk m
  | .wwrsx e l m => below 192 e && lArgsOk l && mSlotOk m
  | .trdc e l m => below 192 e && lArgsOk l && mSlotOk m
  | .trds e l m => below 192 e && lArgsOk l && mSlotOk m
  | .trdcx e l m => below 192 e && lArgsOk l && mSlotOk m
  | .trdsx e l m => below 192 e && lArgsOk l && mSlotOk m
  | .dwrc e l m => below 192 e && lArgsOk l && mSlotOk m
  | .dwrs e l m => below 192 e && lArgsOk l && mSlotOk m
  | .dwrcx e l m => below 192 e && lArgsOk l && mSlotOk m
  | .dwrsx e l m => below 192 e && lArgsOk l && mSlotOk m
  | .br e l m => below 192 e && lArgsOk l && mSlotOk m
  | .brl e l imm => below 192 e && lArgsOk l && below (2 ^ 31) imm
  | .loop e l m => below 192 e && lArgsOk l && mSlotOk m
  | .loopi e l imm => below 192 e && lArgsOk l && below (2 ^ 31) imm
  | .loopCountExpiry e => below 192 e
  | .tend e l m => below 192 e && lArgsOk l && mSlotOk m
  | .fence e l m => below 192 e && lArgsOk l && mSlotOk m
  | .sysrd e l m => below 192 e && lArgsOk l && mSlotOk m
  | .windowDataArrival e => below 192 e
  | .swapBlockArrival e => below 192 e
  | .winFf0ValidClear => true
  | .forcedClear => true
  | .remapSet => true
  | .perst => true
  | .chainDeadline => true
  | .drvClockError => true
  | .drvClockRestore => true
  | .drvFreqChange => true
  | .slpInsertion => true
  | .slpRemoval => true
  | .slpPress => true
  | .slpPressRelease => true
  | .slpSequenceReport => true
  | .slpLongPress => true
  | .slpToneEnd => true
  | .limpAnnounce => true
  | .announceTimer => true
  | .ptpAnnounceTimeout => true
  | .mgPauseLimit => true
  | .xoFault => true
  | .hoLimitReached => true
  | .servoLock => true
  | .clkModeTimeout => true
  | .volumeMount => true
  | .vigilTimer => true
  | .vigilTimeout => true
  | .dstCheck => true
  | .pairActInLow => true
  | .handover => true
  | .takeover => true
  | .resyncRequestTimer => true
  | .resyncStepDone => true
  | .resyncTimeout => true
  | .faultStateExit => true
  | .faultInjectFire => true
  | .shedLevelUp => true
  | .shedLevelDown => true
  | .mgmtWatchdog => true
  | .cpWatchdog => true
  | .vaonLoss => true
  | .resetNAssert => true
  | .resetNRelease => true
  | .thermalRelease => true
  | .planeReset => true
  | .planeRestart => true
  | .crystalStartupDone => true
  | .optionLoadDone => true
  | .pllLock => true
  | .bootRomDone => true
  | .settingsLoaded => true
  | .dataPlaneStart => true
  | .trialHealthy => true
  | .pwrfail => true
  | .shutdownCaptureDone => true
  | .supplyReturn => true
  | .avsRequest => true
  | .avsSlewDone => true
  | .avsTimeout => true
  | .sealIndTimer => true
  | .meterMailboxTimeout => true
  | .meterPowerReturn => true
  | .testEnFall => true
  | .tickBoundaryLate => true
  | .meterBatteryLow => true
  | .slpHeldPressThreshold => true
  | .drvRampDownDone => true
  | .mgPauseEnd => true
  | .mgPauseIgnoreEnd => true
  | .aliveQuietExpiry => true
  | .railsSettled => true

end Sys2Proof
end

