-- ==== Sys2Proof/Safety.lean ====
section
/-! DEFINITION. The terms the statements use: when an operation is accepted and what answering, staging and refusing it are; what a bundle
of an engine does; and the conditions that every step keeps. -/

namespace Sys2Proof.Safety

open Sys2Proof.Machine

/-- What a command answers. -/
abbrev Answer := Host.Outcome State Fault Refusal

/-- The command answers this state, once the reactions that faults ask for are carried out (16 R612). -/
def ends (s : State) : Answer := .next (settle s)

/-! ## Operations of the command protocol -/

/-- The request as its operation runs it: with the handle that it will create (04 R181) and the moment of its execution (14 R567). -/
def asRun (r : Req) (s : State) : Req := { r with made := madeFor s r, ran := some (cal s, s.clock.now) }

/-- Whether a forced audio-interrupting change is carried (01 R34, R35). -/
def forcedIn (r : Req) (s : State) : Bool := bit r.flags 3 && interrupting s r && guardedMode s

/-- Whether step 12 of 13 R520 runs an operation, judged once the request has left its queue: no audio-interrupting change without FORCE in
a guarded mode (01 R35), the unit present (00 R4), the mode allowed (13 R525), the length and every field and relation right (13 R733,
R734), and no copy to a partner to be sent (13 R534). On the link control channel the payload of a read fits a frame (13 R547). -/
def accepts (op : Nat) (plan : State → Req → Plan) (r : Req) (s : State) : Bool :=
  let u := dequeue r s
  let q := asRun r u
  let p := plan u q
  r.opcode == op && !(interrupting u r && guardedMode u && !bit r.flags 3) && !absentUnit u r && opMode u r && !wantsMirror u r
    && p.len && (headChecks u q ++ p.checks).all (·.1)
    && !(decide (r.src = .link) && isRead op && decide (1440 < (p.act u).payload.length))

/-- An operation answered at once with OK: its payload and its effect, both from the state in which the request has left its queue. -/
def answered (r : Req) (s : State) (payload : State → List Byte) (effect : State → State) : Answer :=
  let u := dequeue r s
  let q := asRun r u
  ends (finish q OK 0 0 false (forcedIn q u) (payload u) (setForced (forcedIn q u) (effect u)))

/-- Whether the Commit Gate takes the record of an accepted staged operation (02 R71, 18 R672). -/
def stageable (op : Nat) (plan : State → Req → Plan) (r : Req) (s : State) : Bool :=
  let u := dequeue r s
  accepts op plan r s && !u.gate.frozen && gateRoom u (stagedOf u (asRun r u))

/-- An operation staged in the Commit Gate (02 R70, 13 R530): the record with the payload and the choice made for it, and what execution
does beside. One that waits on an Almanac entry is answered with ACCEPTED_PENDING, and says so where a forced change waits (11 R467, 01 R35). -/
def stagedAs (r : Req) (s : State) (payload : State → List Byte) (note : State → List Nat) (effect : State → State) : Answer :=
  let u := dequeue r s
  let q := asRun r u
  let g := { stagedOf u q with mirr := false, forced := forcedIn q u, payload := payload u, note := note u }
  let t := stage g (effect u)
  ends (if g.alm.isSome then finish q ACCEPTED_PENDING 0 0 false (forcedIn q u) [] t else sendAck q OK t)

/-- A staged operation whose whole effect is at its binding. -/
def stagedOnly (r : Req) (s : State) : Answer := stagedAs r s (fun _ => []) (fun _ => []) id

/-- An operation whose answer comes with another command, or whose own effect includes its reply: the state it leaves. -/
def holding (r : Req) (s : State) (effect : Req → State → State) : Answer :=
  let u := dequeue r s
  ends (effect (asRun r u) u)

/-! ## Bundles of an engine -/

/-- Whether engine `e` executes bundle `b` with both slots sound: it runs, the bundle's words are readable, its fields are legal and it lies
in the code image (04 R125, R128, R130, R137). The state is the one with the back edges at its address taken (04 R153). -/
def executes (e : Nat) (b : Bundle) (s : State) : Bool :=
  let u := takeEdges e s
  let g := engAt u e
  engRuns s e && !(b.m.x.fe || b.l.x.fe || (chainD u g.cur).badCode.contains (g.pc / 8)) && bundleOk b
    && decide (g.pc + 8 ≤ (chainD u g.cur).desc.codeBytes)

/-- The registers that a bundle of engine `e` reads (04 R134). -/
def regsOf (e : Nat) (s : State) : Regs := (engAt (takeEdges e s) e).regs

/-- The chain that engine `e` runs. -/
def chainOf (e : Nat) (s : State) : Chain := let u := takeEdges e s; chainD u (engAt u e).cur

/-- Whether the M slot's predicate lets it act (04 R133). -/
def mActs (e : Nat) (b : Bundle) (s : State) : Bool := allows (regsOf e s) b.m.x.pe b.m.x.pn b.m.x.pq

/-- Whether the L slot's predicate lets it act (04 R133). -/
def lActs (e : Nat) (b : Bundle) (s : State) : Bool := allows (regsOf e s) b.l.x.pe b.l.x.pn b.l.x.pq

/-- What the M slot of a bundle does: nothing where its predicate stops it (04 R133). -/
def mDoes (e : Nat) (b : Bundle) (s : State) : Eff :=
  if mActs e b s then mSem b.m.op b.m.x (if b.fmt = 1 then some b.imm else none) (regsOf e s) (chainOf e s) else {}

/-- What the L slot of a bundle does: nothing where its predicate stops it (04 R133). -/
def lDoes (e : Nat) (b : Bundle) (s : State) : Eff :=
  if lActs e b s then lSem b.l.op b.l.x b.imm (regsOf e s) (chainOf e s) (takeEdges e s) e else {}

/-- Whether a slot's effect completes: no wait for a window, no failed access, no uncorrectable word named, and a loop that it begins is
legal (04 R128, R152, R153, R158). -/
def completes (e : Nat) (s : State) (x : Eff) : Bool :=
  !x.wait && x.bad == 0 && x.ue.isEmpty
    && match x.go with | some (.loop_ lc _ body) => loopOk (engAt (takeEdges e s) e) lc body | _ => true

/-- A bundle completes with the effects of its two slots: its cycles are counted, stores and window writes land, registers are written,
the L slot's first so that the M slot's result is kept, and the next bundle follows (04 R134, R136). -/
def issues (e : Nat) (b : Bundle) (me le : Eff) (s : State) : Answer :=
  let u := takeEdges e s
  ends (commitBundle e (engAt u e).cur me le (modEng e (fun g => { g with
    cycles := g.cycles + (max (mCycles b.m.op) (lCycles b.l.op) + le.plus), ce := g.ce + b.m.x.ce + b.l.x.ce }) u))

/-! ## The operations and bundle rows, as tables -/

/-- An operation of the command protocol: its opcode, its command and its plan. -/
structure Operation where
  op   : Nat
  make : Req → Instr
  plan : State → Req → Plan

/-- Operations of class 0x01. -/
def operations01 : List Operation :=
  [⟨0x0101, .sysGetCaps, planSysGetCaps⟩,
   ⟨0x0102, .sysGetStatus, planSysGetStatus⟩,
   ⟨0x0103, .sysSetMode, planSysSetMode⟩,
   ⟨0x0104, .sysSetTimebase, planSysSetTimebase⟩,
   ⟨0x0105, .sysReset, planSysReset⟩,
   ⟨0x0106, .sysMuteAll, planSysMuteAll⟩,
   ⟨0x0107, .sysRelay, planSysRelay⟩,
   ⟨0x0120, .placeSetPolicy, planPlaceSetPolicy⟩,
   ⟨0x0121, .placeGetPolicy, planPlaceGetPolicy⟩,
   ⟨0x0122, .placeGetEngines, planPlaceGetEngines⟩,
   ⟨0x0123, .placeGetEvents, planPlaceGetEvents⟩,
   ⟨0x0124, .placeClearStats, planPlaceClearStats⟩,
   ⟨0x0130, .memGetStatus, planMemGetStatus⟩,
   ⟨0x0131, .heathSetPolicy, planHeathSetPolicy⟩,
   ⟨0x0132, .memClearEcc, planMemClearEcc⟩]

/-- Operations of class 0x02. -/
def operations02 : List Operation :=
  [⟨0x0201, .swardSetNodes, planSwardSetNodes⟩,
   ⟨0x0202, .swardFill, planSwardFill⟩,
   ⟨0x0203, .swardDropStaged, planSwardDropStaged⟩,
   ⟨0x0204, .swardGetNodes, planSwardGetNodes⟩,
   ⟨0x0205, .swardGetColumns, planSwardGetColumns⟩,
   ⟨0x0206, .swardGetClip, planSwardGetClip⟩,
   ⟨0x0207, .swardClearClip, planSwardClearClip⟩,
   ⟨0x0208, .swardGetTiles, planSwardGetTiles⟩]

/-- Operations of class 0x03. -/
def operations03 : List Operation :=
  [⟨0x0301, .chainLoadBegin, planChainLoadBegin⟩,
   ⟨0x0302, .chainLoadData, planChainLoadData⟩,
   ⟨0x0303, .chainLoadEnd, planChainLoadEnd⟩,
   ⟨0x0304, .chainUnload, planChainUnload⟩,
   ⟨0x0305, .chainSetParams, planChainSetParams⟩,
   ⟨0x0306, .chainSetTaps, planChainSetTaps⟩,
   ⟨0x0307, .chainGetStatus, planChainGetStatus⟩,
   ⟨0x0308, .chainClearCounters, planChainClearCounters⟩,
   ⟨0x0309, .mapSet, planMapSet⟩,
   ⟨0x030A, .mapGet, planMapGet⟩,
   ⟨0x030B, .chainWriteState, planChainWriteState⟩,
   ⟨0x030C, .chainReadState, planChainReadState⟩,
   ⟨0x030D, .chainSetPlacement, planChainSetPlacement⟩,
   ⟨0x0320, .dynConfig, planDynConfig⟩,
   ⟨0x0321, .dynSetParams, planDynSetParams⟩,
   ⟨0x0322, .dynGet, planDynGet⟩,
   ⟨0x0340, .lineAlloc, planLineAlloc⟩,
   ⟨0x0341, .lineFree, planLineFree⟩,
   ⟨0x0342, .lineGet, planLineGet⟩]

/-- Operations of class 0x04. -/
def operations04 : List Operation :=
  [⟨0x0401, .spConfig, planSpConfig⟩,
   ⟨0x0402, .spGetStatus, planSpGetStatus⟩,
   ⟨0x0403, .spSetMclk, planSpSetMclk⟩,
   ⟨0x0404, .spClear, planSpClear⟩,
   ⟨0x0410, .aeConfig, planAeConfig⟩,
   ⟨0x0411, .aeGetStatus, planAeGetStatus⟩,
   ⟨0x0420, .drvConfig, planDrvConfig⟩,
   ⟨0x0421, .drvSetFreq, planDrvSetFreq⟩,
   ⟨0x0422, .drvRearm, planDrvRearm⟩,
   ⟨0x0423, .drvGetStatus, planDrvGetStatus⟩,
   ⟨0x0430, .slpSetListen, planSlpSetListen⟩,
   ⟨0x0431, .slpTone, planSlpTone⟩,
   ⟨0x0432, .slpGetEvents, planSlpGetEvents⟩,
   ⟨0x0440, .tgSet, planTgSet⟩,
   ⟨0x0441, .tgGet, planTgGet⟩]

/-- Operations of class 0x05. -/
def operations05 : List Operation :=
  [⟨0x0501, .linkSetNode, planLinkSetNode⟩,
   ⟨0x0502, .linkConfig, planLinkConfig⟩,
   ⟨0x0503, .linkGetStatus, planLinkGetStatus⟩,
   ⟨0x0504, .flowOutSet, planFlowOutSet⟩,
   ⟨0x0505, .flowOutDelete, planFlowOutDelete⟩,
   ⟨0x0506, .flowInSet, planFlowInSet⟩,
   ⟨0x0507, .flowInDelete, planFlowInDelete⟩,
   ⟨0x0508, .flowGetStatus, planFlowGetStatus⟩,
   ⟨0x0509, .groupSet, planGroupSet⟩,
   ⟨0x050A, .groupDelete, planGroupDelete⟩,
   ⟨0x050B, .dirSet, planDirSet⟩,
   ⟨0x050C, .dirGet, planDirGet⟩,
   ⟨0x050D, .ringSet, planRingSet⟩,
   ⟨0x0510, .aoipSenderSet, planAoipSenderSet⟩,
   ⟨0x0511, .aoipReceiverSet, planAoipReceiverSet⟩,
   ⟨0x0512, .aoipGetStatus, planAoipGetStatus⟩,
   ⟨0x0520, .mgConfig, planMgConfig⟩,
   ⟨0x0521, .mgSetWake, planMgSetWake⟩,
   ⟨0x0530, .alConfig, planAlConfig⟩,
   ⟨0x0531, .alFrameTx, planAlFrameTx⟩,
   ⟨0x0532, .alFrameRx, planAlFrameRx⟩,
   ⟨0x0533, .alGetStatus, planAlGetStatus⟩,
   ⟨0x0540, .linkClear, planLinkClear⟩]

/-- Operations of class 0x06. -/
def operations06 : List Operation :=
  [⟨0x0601, .clkSetRef, planClkSetRef⟩,
   ⟨0x0602, .clkSetSelect, planClkSetSelect⟩,
   ⟨0x0603, .clkSetDco, planClkSetDco⟩,
   ⟨0x0604, .clkSetHoldover, planClkSetHoldover⟩,
   ⟨0x0605, .clkGetStatus, planClkGetStatus⟩,
   ⟨0x0606, .clkClearHist, planClkClearHist⟩,
   ⟨0x0610, .ptpConfig, planPtpConfig⟩,
   ⟨0x0611, .ptpGetStatus, planPtpGetStatus⟩,
   ⟨0x0620, .pulseConfig, planPulseConfig⟩,
   ⟨0x0630, .almanacSet, planAlmanacSet⟩,
   ⟨0x0631, .almanacGet, planAlmanacGet⟩,
   ⟨0x0640, .timeGet, planTimeGet⟩,
   ⟨0x0641, .timeStep, planTimeStep⟩,
   ⟨0x0642, .timeSetEpoch, planTimeSetEpoch⟩,
   ⟨0x0643, .timeGetStamps, planTimeGetStamps⟩]

/-- Operations of class 0x07. -/
def operations07 : List Operation :=
  [⟨0x0701, .capVolumeFormat, planCapVolumeFormat⟩,
   ⟨0x0702, .capVolumeGet, planCapVolumeGet⟩,
   ⟨0x0703, .capSetPolicy, planCapSetPolicy⟩,
   ⟨0x0704, .capGetDrives, planCapGetDrives⟩,
   ⟨0x0705, .capDriveJoin, planCapDriveJoin⟩,
   ⟨0x0710, .capJobSet, planCapJobSet⟩,
   ⟨0x0711, .capRecord, planCapRecord⟩,
   ⟨0x0712, .capStop, planCapStop⟩,
   ⟨0x0713, .capGetJobs, planCapGetJobs⟩,
   ⟨0x0720, .capReplay, planCapReplay⟩,
   ⟨0x0721, .capReplayStop, planCapReplayStop⟩,
   ⟨0x0730, .capFind, planCapFind⟩,
   ⟨0x0731, .capRead, planCapRead⟩,
   ⟨0x0732, .capProtect, planCapProtect⟩,
   ⟨0x0733, .capDelete, planCapDelete⟩]

/-- Operations of class 0x08. -/
def operations08 : List Operation :=
  [⟨0x0801, .meterGetInfo, planMeterGetInfo⟩,
   ⟨0x0802, .meterSetPoint, planMeterSetPoint⟩,
   ⟨0x0803, .meterGetPoints, planMeterGetPoints⟩,
   ⟨0x0804, .meterSeal, planMeterSeal⟩,
   ⟨0x0805, .meterUnseal, planMeterUnseal⟩,
   ⟨0x0806, .meterRead, planMeterRead⟩,
   ⟨0x0807, .meterAckExport, planMeterAckExport⟩,
   ⟨0x0808, .meterGetLive, planMeterGetLive⟩,
   ⟨0x0809, .meterLoudReset, planMeterLoudReset⟩,
   ⟨0x080A, .meterSetExport, planMeterSetExport⟩,
   ⟨0x080B, .meterFwLoad, planMeterFwLoad⟩,
   ⟨0x080C, .meterFwEnd, planMeterFwEnd⟩,
   ⟨0x080D, .meterFwRemove, planMeterFwRemove⟩,
   ⟨0x0880, .meterOpSet, planMeterOpSet⟩,
   ⟨0x0881, .meterOpRead, planMeterOpRead⟩,
   ⟨0x0890, .silenceSet, planSilenceSet⟩,
   ⟨0x0891, .silenceGet, planSilenceGet⟩]

/-- Operations of class 0x09. -/
def operations09 : List Operation :=
  [⟨0x0901, .pwrSetPolicy, planPwrSetPolicy⟩,
   ⟨0x0902, .pwrGetPolicy, planPwrGetPolicy⟩,
   ⟨0x0903, .pwrSetDormant, planPwrSetDormant⟩,
   ⟨0x0904, .pwrGetStatus, planPwrGetStatus⟩]

/-- Operations of class 0x0A. -/
def operations0A : List Operation :=
  [⟨0x0A01, .pairConfig, planPairConfig⟩,
   ⟨0x0A02, .pairSetKey, planPairSetKey⟩,
   ⟨0x0A03, .pairGetStatus, planPairGetStatus⟩,
   ⟨0x0A04, .pairRelinquish, planPairRelinquish⟩,
   ⟨0x0A05, .pairResync, planPairResync⟩]

/-- Operations of class 0x0B. -/
def operations0B : List Operation :=
  [⟨0x0B01, .faultGetStatus, planFaultGetStatus⟩,
   ⟨0x0B02, .faultGetLog, planFaultGetLog⟩,
   ⟨0x0B03, .faultAck, planFaultAck⟩,
   ⟨0x0B04, .faultGetCounters, planFaultGetCounters⟩,
   ⟨0x0B05, .faultClear, planFaultClear⟩,
   ⟨0x0B06, .faultSetReaction, planFaultSetReaction⟩,
   ⟨0x0B07, .faultSetQuiet, planFaultSetQuiet⟩,
   ⟨0x0B0F, .faultInject, planFaultInject⟩]

/-- Operations of class 0x0C. -/
def operations0C : List Operation :=
  [⟨0x0C01, .fwBegin, planFwBegin⟩,
   ⟨0x0C02, .fwData, planFwData⟩,
   ⟨0x0C03, .fwEnd, planFwEnd⟩,
   ⟨0x0C04, .fwActivate, planFwActivate⟩,
   ⟨0x0C05, .fwCommit, planFwCommit⟩,
   ⟨0x0C06, .fwFallback, planFwFallback⟩,
   ⟨0x0C07, .fwGetStatus, planFwGetStatus⟩,
   ⟨0x0C10, .setSave, planSetSave⟩]

/-- Operations of class 0x0D. -/
def operations0D : List Operation :=
  [⟨0x0D01, .credSet, planCredSet⟩,
   ⟨0x0D02, .credClear, planCredClear⟩,
   ⟨0x0D03, .credList, planCredList⟩,
   ⟨0x0D10, .auditRead, planAuditRead⟩,
   ⟨0x0D11, .auditStatus, planAuditStatus⟩,
   ⟨0x0D20, .lcGet, planLcGet⟩,
   ⟨0x0D21, .lcAdvance, planLcAdvance⟩,
   ⟨0x0D30, .tamperSet, planTamperSet⟩,
   ⟨0x0D31, .tamperGet, planTamperGet⟩,
   ⟨0x0D40, .trustSet, planTrustSet⟩]

/-- Operations of class 0x0F. -/
def operations0F : List Operation :=
  [⟨0x0F01, .optGet, planOptGet⟩,
   ⟨0x0F02, .optSet, planOptSet⟩]

/-- Every operation of the command protocol. -/
def operations : List Operation :=
  operations01 ++ operations02 ++ operations03 ++ operations04 ++ operations05 ++ operations06 ++ operations07
    ++ operations08 ++ operations09 ++ operations0A ++ operations0B ++ operations0C ++ operations0D ++ operations0F

/-- A property of every row of the M slot, by its code and its command (04 R142). -/
def AllM (P : Nat → (Nat → MArgs → LSlot → Instr) → Prop) : Prop :=
  P 1 .vadd ∧ P 2 .vadds ∧ P 3 .vsub ∧ P 4 .vsubs ∧ P 5 .vnegs
    ∧ P 6 .vabss ∧ P 7 .vmax ∧ P 8 .vmin ∧ P 9 .vand ∧ P 10 .vor
    ∧ P 11 .vxor ∧ P 12 .vshls ∧ P 13 .vshrr ∧ P 14 .vshr ∧ P 15 .vsatn
    ∧ P 16 .vcmp ∧ P 17 .vmulr ∧ P 24 .vmac ∧ P 25 .vmsu ∧ P 26 .vmul
    ∧ P 27 .aclr ∧ P 28 .aadd ∧ P 29 .asum ∧ P 30 .vtoa ∧ P 31 .ext
    ∧ P 40 .bq ∧ P 41 .firs ∧ P 42 .lin ∧ P 43 .gmul ∧ P 44 .gmac
    ∧ P 45 .log2 ∧ P 46 .exp2 ∧ P 48 .sadd ∧ P 49 .ssub ∧ P 50 .sadds
    ∧ P 51 .smul ∧ P 52 .sand ∧ P 53 .sor ∧ P 54 .sxor ∧ P 55 .sshl
    ∧ P 56 .sshr ∧ P 57 .saddi ∧ P 59 .scmp ∧ P 60 .qset ∧ P 64 .vbc
    ∧ P 65 .vget ∧ P 66 .vput ∧ P 67 .vmov ∧ P 68 .vrot

/-- A property of every row of the L slot, by its code and its command (04 R150). -/
def AllL (P : Nat → (Nat → LArgs → MSlot → Instr) → Prop) : Prop :=
  P 1 .ldv ∧ P 2 .ldvp ∧ P 3 .stv ∧ P 4 .stvp ∧ P 5 .lds
    ∧ P 6 .ldsp ∧ P 7 .sts ∧ P 8 .stsp ∧ P 9 .lda ∧ P 10 .sta
    ∧ P 11 .padd ∧ P 14 .pget ∧ P 15 .pput ∧ P 16 .wrdc ∧ P 17 .wrds
    ∧ P 18 .wrdcx ∧ P 19 .wrdsx ∧ P 20 .wwrc ∧ P 21 .wwrs ∧ P 22 .wwrcx
    ∧ P 23 .wwrsx ∧ P 24 .trdc ∧ P 25 .trds ∧ P 26 .trdcx ∧ P 27 .trdsx
    ∧ P 28 .dwrc ∧ P 29 .dwrs ∧ P 30 .dwrcx ∧ P 31 .dwrsx ∧ P 32 .br
    ∧ P 34 .loop ∧ P 36 .tend ∧ P 37 .fence ∧ P 39 .sysrd

/-! ## What every step keeps -/

/-- Nothing that a fault asked for is left undone between commands (16 R612). -/
def Quiet (s : State) : Prop := s.flt.due = 0 ∧ s.flt.rel = 0

/-! ## Requests and transactions that go through -/

/-- A node that has taken note of a request's SEQ (13 R521). -/
def seqNoted (r : Req) (s : State) : State :=
  { s with sec := { s.sec with lastSeq := tset s.sec.lastSeq (credIx r.role r.slot) r.seq } }

/-- Whether a packet on a transport passes steps 1 to 10 of 13 R520 and finds room in its queue. -/
def admits (src : Src) (ret : Nat × Nat) (p : List Byte) (s : State) : Bool :=
  let r := parseReq src ret p
  let u := seqNoted r s
  cpListens s && src != .pair && (src != .link || s.links.node != 0) && lengthOk src p && crc32c (p.take (p.length - 4)) == r.crc && fieldsOk p
    && (locallyTrusted s src r.role r.slot (authField p) || authOk s r p) && seqOk s r && opcodeOk r && roleOk r
    && (modeStatus u { r with trust := locallyTrusted s src r.role r.slot (authField p) }).isNone
    && !absentUnit u { r with trust := locallyTrusted s src r.role r.slot (authField p) }
    && decide (queueLen u (queueOf r) < queueCap (queueOf r))

/-- The node with the request of an admitted packet in its queue (13 R520 step 11). -/
def admitted (src : Src) (ret : Nat × Nat) (p : List Byte) (s : State) : State :=
  let r := parseReq src ret p
  enqueue { r with trust := locallyTrusted s src r.role r.slot (authField p) } (seqNoted r s)

/-- Whether a fabric access is granted as soon as it comes: the core runs, the master exists, nothing refuses it, no locked sequence and no
bank holds it up, it belongs to no locked sequence, and nothing else waits (07 R269-R274, R282, 08 R293). -/
def granted (s : State) (x : Access) : Bool :=
  awake s && masterHere s x.m && !x.lock && !x.home && refused s x == 0 && !lockedOut s x && !bankBusy s x && s.fab.waiting.isEmpty

/-- Whether an access of Heath or of the line pool meets no error, no mark and no lost write (08 R289, R291, R305). -/
def cleanAt (s : State) (x : Access) : Bool :=
  let p := physAddr s x.addr
  let g := rangeAt s x.addr
  x.ue.isEmpty && x.ce == 0 && x.lost.isEmpty && (g == 2 || g == 3 || (g == 10 && decide (poolBase ≤ x.addr)))
    && (List.range ((lengthOf x + 7) / 8)).all fun i => !marked s (p / 8 + i) && !s.mem.dramBad.contains (p / 8 + i)

/-- What an access ends with when all goes well: OKAY on every beat, and the data (07 R272). -/
def okay (x : Access) (data : List Byte) : Out :=
  { kind := .fabric, a := 0, b := x.m, c := x.addr, bytes := data, codes := List.replicate (beatsOf x) 0 }

/-- The bytes of an access written by lanes, 64-bit word by word (07 R270, 08 R289). -/
def laneWrite (x : Access) (p : Nat) (s : State) : State :=
  (List.range (8 * x.n)).foldl (fun t i =>
    if (lanesOf x i).any id then
      memWrites (p + 8 * i) (mergeLanes (lanesOf x i) (fit 8 ((x.data.drop (8 * i)).take 8)) (memReads t (p + 8 * i) 8)) t
    else t) s

/-- The new word of ATOMIC_ADD or ATOMIC_SWAP (07 R271). -/
def atomicNew (x : Access) (old : List Byte) : List Byte :=
  toLE x.n (if x.kind = 2 then (ofLE old + le x.data 0 x.n) % 2 ^ (8 * x.n) else le x.data 0 x.n)

/-- A target that has granted an access of a master over the fabric (07 R274): who was granted last, and the grants left in its rounds. -/
def turn (s : State) (x : Access) (round : Tab (List (Nat × Nat))) : State :=
  { s with fab := { s.fab with last := tset s.fab.last (targetOf s x.addr) x.m, round := round } }

/-- Whether an access is one that a home master may make through its own port: whole bytes of its bank (08 R287). -/
def homeOk (s : State) (x : Access) : Bool :=
  awake s && decide (0 < lengthOf x) && (rangeAt s x.addr == 2 || rangeAt s x.addr == 3)
    && bankOfAddr (physAddr s (x.addr + lengthOf x - 1)) == bankOfAddr (physAddr s x.addr)
    && rangeAt s (x.addr + lengthOf x - 1) == rangeAt s x.addr && x.m == homeMaster (bankOfAddr (physAddr s x.addr)) && masterHere s x.m

/-! ## Frames and pair messages that go through -/

/-- The node once a whole frame on a port that is up is counted and forwarded (10 R395). -/
def passed (p : Nat) (frame : List Byte) (s : State) : State := forward p frame true (countFrame p true s)

/-- Whether a frame that comes whole on a port is for this node and of a TYPE (10 R375, R378, R395). -/
def consumes (p ty : Nat) (frame : List Byte) (s : State) : Bool :=
  linkUp s p && forUs s true frame && frameType frame == ty

/-- The number and the body of a pair message that one frame carries (15 R583). -/
def messageSeq (frame : List Byte) : Nat := be (framePayload frame) 4 4

def messageBody (frame : List Byte) : List Byte :=
  let p := framePayload frame
  (p.drop 16).take (be p 2 2)

/-- Whether a frame that comes whole brings a whole pair message, one fragment, from the partner, authentic and new, that this node accepts (15 R583-R586). -/
def message (p msg : Nat) (frame : List Byte) (s : State) : Bool :=
  let u := passed p frame s
  let d := framePayload frame
  consumes p 3 frame s && paired u && byteAt d 0 == msg && byteAt d 1 == 1 && frameSource frame == u.pair.cfg.partner && pairAuth u frame
    && pairNew u (be d 14 2) (be d 4 4) && (match u.pair.frag with | some x => x.1 != be d 4 4 | none => true)

/-- The node once it has accepted that message, before it obeys it. -/
def heard (p msg : Nat) (frame : List Byte) (s : State) : State :=
  let d := framePayload frame
  let u := passed p frame s
  modPair (fun x => { x with frag := none, seenBoot := be d 14 2, seenSeq := some (be d 4 4) }) (if msg = 1 then pathHeard p u else u)

end Sys2Proof.Safety
end

