-- ==== Sys2Proof/Certificates/Slice0/Obligations.lean ====
section
/-! DEFINITION. The statements about the model that are to be proved. -/

open Sys2Proof Sys2Proof.Machine Sys2Proof.Safety

/-- For every command and state, the step of a state with the command at the front of its queue is the command's execution on the state
with the rest of the queue. That the block is driven by a queue of commands is the model's choice. Rests on the model's own choices in log
entries 1 (notes/assumptions). (R528) -/
def Obligations.StepTakesTheFrontCommand : Prop :=
  ∀ c rest s, s.pending = c :: rest → step s = exec c { s with pending := rest }

/-- With no command waiting and the Command Processor listening, a step executes the oldest request of the highest non-empty queue; once
P3 has waited through 64 executions, its oldest request comes first. Taking a request from P3 restarts that count, any other execution
counts one more while P3 waits. Each request is one execution, complete before the next step. That the Command Processor runs in a step on
an empty command queue is the choice of log entry 1. Rests on the model's own choices in log entries 1 (notes/assumptions). (R528) -/
def Obligations.QueueOrder : Prop :=
  ∀ s r i, s.pending = [] → cpListens s → instrOf r = some i →
    ((64 ≤ s.cp.p3Wait ∧ ∃ l, s.cp.p3 = r :: l)
      ∨ (s.cp.p3Wait < 64 ∨ s.cp.p3 = []) ∧
        ((∃ l, s.cp.p0 = r :: l)
          ∨ s.cp.p0 = [] ∧ ((∃ l, s.cp.p1 = r :: l)
            ∨ s.cp.p1 = [] ∧ ((∃ l, s.cp.p2 = r :: l)
              ∨ s.cp.p2 = [] ∧ ∃ l, s.cp.p3 = r :: l)))) →
    step s = exec i s
    ∧ (dequeue r s).cp.p3Wait =
        if s.cp.p3.any fun x => x.acc == r.acc && decide (x.src = .pair) == decide (r.src = .pair) then 0 else if s.cp.p3 = [] then 0 else min 64 (s.cp.p3Wait + 1)

/-- For every operation of the command protocol: an audio-interrupting change without FORCE in a guarded mode and a mode that does not
allow it answer MODE_DENIED, an absent unit UNIT_ABSENT, a wrong length BAD_PARAM with offset 0xFFFF, the first failing check its own
status and offset, and a staged operation that needs a 65th future tick BUSY; each leaves the state with the request taken from its queue
and the reply sent, nothing else. (R4, R35, R71, R525, R733, R734) -/
def Obligations.RefusedOperations : Prop :=
  (∀ x ∈ operations, ∀ r s, r.opcode = x.op →
    let u := dequeue r s
    let q := asRun r u
    let p := x.plan u r
    let c := interrupting u r && guardedMode u && !bit r.flags 3
    (c → exec (x.make r) s = ends (finish r MODE_DENIED 0 0 false false [] u))
    ∧ (!c → absentUnit u r → exec (x.make r) s = ends (finish r UNIT_ABSENT 0 0 false false [] u))
    ∧ (!c → absentUnit u r = false → p.len → opMode u r = false → exec (x.make r) s = ends (finish r MODE_DENIED 0 0 false false [] u))
    ∧ (!c → absentUnit u r = false → (p.len = false ∨ opMode u r) → wantsMirror u r = false → (x.plan u q).len = false →
        exec (x.make r) s = ends (finish q BAD_PARAM 0xFFFF 0 false false [] u))
    ∧ (∀ st off, !c → absentUnit u r = false → (p.len = false ∨ opMode u r) → wantsMirror u r = false → (x.plan u q).len →
        ((headChecks u q ++ (x.plan u q).checks).find? fun k => !k.1) = some (false, st, off) →
        exec (x.make r) s = ends (finish q st (if st = BAD_PARAM then off else 0) 0 false false [] u)))
  ∧ (∀ x ∈ operations, isStaged x.op → ∀ r s,
    accepts x.op x.plan r s → s.gate.frozen = false →
    64 < (pendTicks (cal (dequeue r s)) (s.gate.staged ++ [stagedOf (dequeue r s) (asRun r (dequeue r s))])).length →
    exec (x.make r) s = ends (finish (asRun r (dequeue r s)) BUSY 0 0 false false [] (dequeue r s)))

/-- For every staged operation whose unit, mode and length are right and that needs no copy to a partner, an apply-at tick more than
16,777,216 ticks after the Calendar count answers BAD_PARAM and stages nothing; at the default tick of 2 samples at 48 kHz that is 699 s.
(R70) -/
def Obligations.ApplyAtLimit : Prop :=
  (∀ x ∈ operations, isStaged x.op → ∀ r s, r.opcode = x.op →
    let u := dequeue r s
    (interrupting u r && guardedMode u && !bit r.flags 3) = false → absentUnit u r = false → opMode u r → wantsMirror u r = false →
    (x.plan u (asRun r u)).len → r.applyAt < 2 ^ 63 → cal s + 16777216 < r.applyAt →
    exec (x.make r) s = ends (finish (asRun r u) BAD_PARAM 0xFFFF 0 false false [] u))
  ∧ tickNs 1 2 16777216 / 10 ^ 9 = 699

/-- On a paired Active node in Run-Active a mirrored operation of right length and mode first sends its copy with its apply-at tick (the
Calendar count plus 2 where it gives none and takes effect at a boundary), remembers it for the acknowledgement, and then is carried out
with that tick, its reply marked as mirrored. Rests on the model's own choices in log entries 22 (notes/assumptions). (R534, R535, R586)
-/
def Obligations.MirroredCopyComesFirst : Prop :=
  ∀ x ∈ operations, ∀ r s, r.opcode = x.op →
    let u := dequeue r s
    (interrupting u r && guardedMode u && !bit r.flags 3) = false → absentUnit u r = false → (x.plan u r).len → opMode u r →
    paired u → u.mode.mode = 6 → u.pair.state = 1 → r.src ≠ .pair → isMirrored x.op →
    exec (x.make r) s =
      let q := { asRun r u with applyAt := if r.applyAt = 0 ∧ (isStaged x.op ∨ boundaryOp x.op) then cal s + 2 else r.applyAt }
      let t := sendPair 2 (mirrorBody q) u
      let t := { t with pair := { t.pair with
        lastMir := u.pair.seq, out := t.pair.out ++ [{ seq := u.pair.seq, req := q, due := q.applyAt, bytes := mirrorBody q }] } }
      ends (carryOut q true (x.plan t q) t)

/-- For every operation of both slots and of the long formats: a bundle whose slot is predicated false answers what the bundle with no
effect of that slot answers, its cycles counted all the same; and a bundle whose LOOP, LOOPI or TEND has PE = 1 is not legal. (R133) -/
def Obligations.PredicatedSlots : Prop :=
  AllM (fun op c => ∀ e m l s, (let b : Bundle := { m := { op := op, x := m }, l := l }
      executes e b s && !mActs e b s && completes e s (lDoes e b s)) →
    exec (c e m l) s = (let b : Bundle := { m := { op := op, x := m }, l := l }; issues e b {} (lDoes e b s) s))
  ∧ AllL (fun op c => ∀ e l m s, (let b : Bundle := { m := m, l := { op := op, x := l } }
      executes e b s && !lActs e b s && completes e s (mDoes e b s)) →
    exec (c e l m) s = (let b : Bundle := { m := m, l := { op := op, x := l } }; issues e b (mDoes e b s) {} s))
  ∧ (∀ x ∈ ([(0x0C, .pset), (0x0D, .plen), (0x21, .brl)] : List (Nat × (Nat → LArgs → Nat → Instr))), ∀ e l imm s,
      (let b : Bundle := { fmt := 2, l := { op := x.1, x := l }, imm := imm }
      executes e b s && !lActs e b s) →
      exec (x.2 e l imm) s = issues e { fmt := 2, l := { op := x.1, x := l }, imm := imm } {} {} s)
  ∧ (∀ e m l imm s, (let b : Bundle := { fmt := if imm.isSome then 1 else 0, m := { op := 0x3A, x := m }, l := l, imm := imm.getD 0 }
      executes e b s && !mActs e b s && completes e s (lDoes e b s)) →
      exec (.smovi e m l imm) s =
        (let b : Bundle := { fmt := if imm.isSome then 1 else 0, m := { op := 0x3A, x := m }, l := l, imm := imm.getD 0 }
         issues e b {} (lDoes e b s) s))
  ∧ (∀ e m imm s, (let b : Bundle := { fmt := 1, m := { op := 0x45, x := m }, imm := imm }
      executes e b s && !mActs e b s) →
      exec (.vimm e m imm) s = issues e { fmt := 1, m := { op := 0x45, x := m }, imm := imm } {} {} s)
  ∧ (∀ b : Bundle, b.l.op = 0x22 ∨ b.l.op = 0x23 ∨ b.l.op = 0x24 → b.l.x.pe → bundleOk b = false)

/-- For every operation of both slots, a bundle that is not legal or does not lie within the code image fails the tick with cause 2 and
has no other effect; and a reserved format, a pointer operation or FIRS that would write P7 is not legal. (R122, R125, R130, R137) -/
def Obligations.IllegalBundles : Prop :=
  AllM (fun op c => ∀ e m l s, engRuns s e → (m.fe || l.x.fe || (chainOf e s).badCode.contains ((engAt (takeEdges e s) e).pc / 8)) = false →
      bundleOk { m := { op := op, x := m }, l := l } = false ∨ (chainOf e s).desc.codeBytes < (engAt (takeEdges e s) e).pc + 8 →
    exec (c e m l) s = ends (failTick e 2 (takeEdges e s)))
  ∧ AllL (fun op c => ∀ e l m s, engRuns s e → (m.x.fe || l.fe || (chainOf e s).badCode.contains ((engAt (takeEdges e s) e).pc / 8)) = false →
      bundleOk { m := m, l := { op := op, x := l } } = false ∨ (chainOf e s).desc.codeBytes < (engAt (takeEdges e s) e).pc + 8 →
    exec (c e l m) s = ends (failTick e 2 (takeEdges e s)))
  ∧ (∀ b : Bundle, 3 ≤ b.fmt → bundleOk b = false)
  ∧ (∀ b : Bundle, b.l.x.lp = 7 → b.l.op = 0x0B ∨ b.l.op = 0x0C ∨ b.l.op = 0x0D ∨ b.l.op = 0x0F ∨ b.l.op = 0x02 ∨ b.l.op = 0x04
      ∨ b.l.op = 0x06 ∨ b.l.op = 0x08 → bundleOk b = false)
  ∧ (∀ b : Bundle, b.m.op = 0x29 → b.m.x.mb = 7 → bundleOk b = false)

/-- For every load and store of 32, 128 and 4 bytes at its effective address, and for each of the eight words of FIRS: when the access
does not lie wholly within 0 to STATE_BYTES - 1, or is not aligned to 32 bytes (vectors and accumulators) or 4 bytes (words), the tick
fails with cause 3 and neither slot has an effect. (R152) -/
def Obligations.OutOfBlockAccesses : Prop :=
  (∀ x ∈ ([(0x01, .ldv, 32, 32, 32), (0x02, .ldvp, 0, 32, 32), (0x03, .stv, 32, 32, 32), (0x04, .stvp, 0, 32, 32), (0x05, .lds, 4, 4, 4),
      (0x06, .ldsp, 0, 4, 4), (0x07, .sts, 4, 4, 4), (0x08, .stsp, 0, 4, 4), (0x09, .lda, 32, 128, 32), (0x0A, .sta, 32, 128, 32)]
      : List (Nat × (Nat → LArgs → MSlot → Instr) × Int × Nat × Nat)),
    ∀ e l m s, (let b : Bundle := { m := m, l := { op := x.1, x := l } }
      executes e b s && lActs e b s && completes e s (mDoes e b s)) →
      (let a : Int := (gp (regsOf e s) l.lp).addr.toNat + x.2.2.1 * signed 13 l.lx
       ¬ (0 ≤ a ∧ a + x.2.2.2.1 ≤ (chainOf e s).desc.stateBytes ∧ a % x.2.2.2.2 = 0)) →
    exec (x.2.1 e l m) s = ends (failTick e 3 (modEng e (fun g => { g with
      cycles := g.cycles + max (mCycles m.op) (lCycles x.1), ce := g.ce + m.x.ce + l.ce }) (takeEdges e s))))
  ∧ (∀ e m l s i, (let b : Bundle := { m := { op := 0x29, x := m }, l := l }
      executes e b s && mActs e b s && completes e s (lDoes e b s)) → i < 8 →
      (let a := (advance (gp (regsOf e s) m.mb) (4 * (i : Nat))).addr.toNat
       ¬ (a + 4 ≤ (chainOf e s).desc.stateBytes ∧ a % 4 = 0)) →
    exec (.firs e m l) s = ends (failTick e 3 (modEng e (fun g => { g with
      cycles := g.cycles + (max (mCycles 0x29) (lCycles l.op) + (lDoes e { m := { op := 0x29, x := m }, l := l } s).plus),
      ce := g.ce + m.ce + l.x.ce }) (takeEdges e s))))

/-- An advance by d sets the address to base + ((address - base + d) mod length) when length is non-zero, to address + d otherwise, in 18
bits, and keeps base and length; PSET, PLEN and PPUT set their field without the modulo rule, and PADD advances by its scalar. (R150,
R151) -/
def Obligations.PointerAdvance : Prop :=
  (∀ p : Ptr, ∀ d : Int, p.len ≠ 0 →
    ((advance p d).addr.toNat : Int) = (p.base.toNat + (p.addr.toNat - p.base.toNat + d) % (p.len.toNat : Int)) % 2 ^ 18)
  ∧ (∀ p : Ptr, ∀ d : Int, p.len = 0 → ((advance p d).addr.toNat : Int) = (p.addr.toNat + d) % 2 ^ 18)
  ∧ (∀ p : Ptr, ∀ d : Int, (advance p d).base = p.base ∧ (advance p d).len = p.len)
  ∧ (∀ x g c s e i, (lPset x i g c s e).w = [.p x.lp { gp g x.lp with addr := BitVec.ofNat 18 i, base := BitVec.ofNat 18 i }]
      ∧ (lPlen x i g c s e).w = [.p x.lp { gp g x.lp with len := BitVec.ofNat 18 i }]
      ∧ (lPput x i g c s e).w = [.p x.lp { gp g x.lp with addr := BitVec.ofNat 18 (gs g x.ld).toNat }])
  ∧ (∀ x i g c s e, (lPadd x i g c s e).w = [.p x.lp (advance (gp g x.lp) (gs g x.ld).toInt)])

/-- When an engine goes on to the next chain of its list, every vector, accumulator, scalar and loop counter is zero, every predicate
false, every pointer zero in address, base and length; and P7 reads as zero in all three at any time and keeps no write. (R120) -/
def Obligations.TickEntryRegisters : Prop :=
  ∀ e s h rest, (engAt s e).todo = h :: rest →
    let g := (engAt (nextChain e s) e).regs
    (engAt (nextChain e s) e).cur = h
    ∧ (∀ i, gv g i = osame 0) ∧ (∀ i, ga g i = osame 0) ∧ (∀ i, gs g i = 0) ∧ (∀ i, tgetD g.lc i 0 = 0) ∧ (∀ i, gq g i = false)
    ∧ (∀ i, gp g i = { addr := 0, base := 0, len := 0 })
    ∧ (∀ (t : Regs) x, gp t 7 = { addr := 0, base := 0, len := 0 } ∧ putReg t (.p 7 x) = t)

/-- A store clears poison from exactly the words that it covers whole; the 32-byte and 128-byte stores, at the only addresses where they
are let through, cover every word they write; a 4-byte store covers none. (R129) -/
def Obligations.StoresAndPoison : Prop :=
  (∀ c a bs w, a ≤ 8 * w → 8 * w + 8 ≤ a + bs.length → w ∉ (putBlock a bs c).poison)
  ∧ (∀ c a bs w, ¬ (a ≤ 8 * w ∧ 8 * w + 8 ≤ a + bs.length) → (w ∈ (putBlock a bs c).poison ↔ w ∈ c.poison))
  ∧ (∀ c (a : Int) (n w : Nat), n = 32 ∨ n = 128 → within c a n 32 → a.toNat < 8 * w + 8 → 8 * w < a.toNat + n →
      a.toNat ≤ 8 * w ∧ 8 * w + 8 ≤ a.toNat + n)
  ∧ (∀ (a w : Nat), ¬ (a ≤ 8 * w ∧ 8 * w + 8 ≤ a + 4))

/-- On a memory in canonical form, after a write each byte of the written range reads as written and every other byte as before, after a
clear each byte of the range reads as unlisted memory does and every other as before, the form is kept, and memories that read alike are
equal. What unlisted memory reads as is the choice of log entry 12. Rests on the model's own choices in log entries 12
(notes/assumptions). (R291, R305, 08_heath_and_delay_memory) -/
def Obligations.MemoryBytes : Prop :=
  (∀ s a bs i, Memory.wf s.mem.cells → Memory.wf (memWrites a bs s).mem.cells
      ∧ memRead (memWrites a bs s) i = if a ≤ i ∧ i < a + bs.length then bs.getD (i - a) 0 else memRead s i)
  ∧ (∀ s lo hi i, Memory.wf s.mem.cells → Memory.wf (memClear lo hi s).mem.cells
      ∧ memRead (memClear lo hi s) i = if lo ≤ i ∧ i < hi then unlisted i else memRead s i)
  ∧ (∀ s t : State, Memory.wf s.mem.cells → Memory.wf t.mem.cells → (∀ i, memRead s i = memRead t i) → s.mem.cells = t.mem.cells)

/-- For every non-mute gain code the coefficient is m * 2^(e-23) with 2^23 <= m < 2^24 and e from -32 to 10; a sample s adds s * m shifted
right by 23 - e, rounded to the nearest with ties away from zero and negated under the polarity bit, at most 2^42 in size; code 0 adds
zero, code 0xC000 adds the sample itself, and the packed coefficient of 0xBA00 is 0x804DCFFF. Rests on the model's own choices in log
entries 15 (notes/assumptions). (R88, R89, R90, R146, R147) -/
def Obligations.NodeContribution : Prop :=
  (∀ code : Nat, 0 < code → code < 65536 →
    let m := (linOf code).toNat / 256
    let e := signed 8 (linOf code).toNat
    2 ^ 23 ≤ m ∧ m < 2 ^ 24 ∧ -32 ≤ e ∧ e ≤ 10
    ∧ ∀ (s : W32) (pol : Bool),
      nodeTerm s.toInt code pol =
        (if pol then -1 else 1) * (s.toInt.sign * ((s.toInt.natAbs * m + 2 ^ ((22 : Int) - e).toNat) / 2 ^ ((23 : Int) - e).toNat : Nat))
      ∧ (nodeTerm s.toInt code pol).natAbs ≤ 2 ^ 42)
  ∧ (∀ s pol, nodeTerm s 0 pol = 0)
  ∧ linOf 0xC000 = 0x80000000#32 ∧ linOf 0xBA00 = 0x804DCFFF#32
  ∧ (∀ s : Int, nodeTerm s 0xC000 false = s ∧ nodeTerm s 0xC000 true = -s)

/-- At step p of a ramp of length L a node uses CURRENT + trunc((TARGET - CURRENT) p / L); each pass moves a running ramp one step; at its
end every node of the column has CURRENT = TARGET and the column is idle; an idle column uses CURRENT. (R92) -/
def Obligations.RampCodes : Prop :=
  (∀ (n : Node) (p len : Nat), 1 ≤ p → p ≤ len →
    (liveCode { on := true, pos := p, len := len } n : Int) = n.cur + (((n.tgt : Int) - n.cur) * p).tdiv len)
  ∧ (∀ (w : Sward) (j : Nat), (rampAt w j).on → (rampAt (stepRamps w) j).pos = (rampAt w j).pos + 1)
  ∧ (∀ s j, (rampAt s.sward j).on → (rampAt s.sward j).len ≤ (rampAt s.sward j).pos →
      exec (.rampEnd j) s = ends { s with sward := finishCol j s.sward }
      ∧ (∀ k n, tget s.sward.nodes k = some n → k / 4096 = j → tget (finishCol j s.sward).nodes k = some { n with cur := n.tgt })
      ∧ (rampAt (finishCol j s.sward) j).on = false)
  ∧ (∀ (x : Ramp) (n : Node), x.on = false → liveCode x n = n.cur)

/-- The k-th tick after EPOCH is the one running at time t after EPOCH exactly when k is the number of whole ticks of n samples that fit
into the time at the sample rate: the count is floor(t * rate / (n * 10^9)). Rests on the model's own choices in log entries 8
(notes/assumptions). (R454) -/
def Obligations.CalendarCount : Prop :=
  ∀ rate n k t : Nat, 0 < n → (tickNs rate n k ≤ t ∧ t < tickNs rate n (k + 1) ↔ k = t * rateHz rate / (n * 10 ^ 9))

/-- Saturation gives a value from -(2^31 - 1) to 2^31 - 1, the value itself within that range and the nearer bound outside; it never gives
0x8000_0000. (R51, R139) -/
def Obligations.SampleRange : Prop :=
  ∀ v : Int, -(2 ^ 31 - 1) ≤ (sat v).toInt ∧ (sat v).toInt ≤ 2 ^ 31 - 1
    ∧ (-(2 ^ 31 - 1) ≤ v → v ≤ 2 ^ 31 - 1 → (sat v).toInt = v)
    ∧ (2 ^ 31 - 1 < v → (sat v).toInt = 2 ^ 31 - 1) ∧ (v < -(2 ^ 31 - 1) → (sat v).toInt = -(2 ^ 31 - 1))

/-- After a Cold or System reset all nodes are mute with polarity 0, no column ramps, clip counters are zero and staged sets are gone;
after a Warm reset gains are kept with every ramp completed, staged sets discarded and clip counters zero; a Plane reset keeps gains,
staged sets and clip counters, and at the restart every ramp completes. Rests on the model's own choices in log entries 24
(notes/assumptions). (R101) -/
def Obligations.SwardAfterReset : Prop :=
  ∀ c s,
    (∀ d, d = 3 ∨ d = 4 → (resetTo d c s).sward = { nodes := [], ramps := [], bound := [], clips := [] } ∧ (resetTo d c s).gate.staged = [])
    ∧ ((resetTo 2 c s).gate.staged = [] ∧ (resetTo 2 c s).sward.clips = [] ∧ (resetTo 2 c s).sward.bound = []
      ∧ (s.sward.bound = [] → ∀ k n, tget s.sward.nodes k = some n → tget (resetTo 2 c s).sward.nodes k = some { n with cur := n.tgt })
      ∧ (∀ j, (rampAt (resetTo 2 c s).sward j).on = false))
    ∧ ((planeReset c s).sward = s.sward ∧ (∀ g ∈ s.gate.staged, g.req.opcode / 256 = 2 → g ∈ (planeReset c s).gate.staged)
      ∧ (∀ r, (startPlane r s).sward.clips = s.sward.clips ∧ (startPlane r s).gate.staged = s.gate.staged
        ∧ (∀ j, (rampAt (startPlane r s).sward j).on = false)
        ∧ (s.sward.bound = [] → ∀ k n, tget s.sward.nodes k = some n → tget (startPlane r s).sward.nodes k = some { n with cur := n.tgt })))

/-- Cold and System resets restore the default policy; Warm and Plane resets keep the policy. (R196) -/
def Obligations.PolicyAfterReset : Prop :=
  ∀ c s,
    (∀ d, d = 3 ∨ d = 4 → (resetTo d c s).place.policy =
      { freeze := 0, slackTarget := 100, slackEmerg := 30, packMargin := 100, thermTarget := 95, thermEmerg := 105, maxMigr := 4,
        copierRate := 38, residence := 16, swapMiB := 2, flags := 3 })
    ∧ (resetTo 2 c s).place.policy = s.place.policy ∧ (planeReset c s).place.policy = s.place.policy

/-- The first-error register takes a fault when it is empty, is replaced by one of higher class with MORE set, and only sets MORE for any
other; a power-on clears it, writing its VALID bit clears it, and no reset changes it. A reset adds its cause to the cause register and
writes its depth, a power-on leaves POR alone, and writing 1 clears a bit. (R618, R619, R638, R639) -/
def Obligations.FirstErrorAndResetCause : Prop :=
  (∀ id cls detail x s, s.flt.ff.valid = false → (capture id cls detail x s).flt.ff.valid
      ∧ (capture id cls detail x s).flt.ff.id = id ∧ (capture id cls detail x s).flt.ff.more = false)
  ∧ (∀ id cls detail x s, s.flt.ff.valid → s.flt.ff.cls < cls → (capture id cls detail x s).flt.ff.valid
      ∧ (capture id cls detail x s).flt.ff.id = id ∧ (capture id cls detail x s).flt.ff.cls = cls ∧ (capture id cls detail x s).flt.ff.more)
  ∧ (∀ id cls detail x s, s.flt.ff.valid → cls ≤ s.flt.ff.cls → (capture id cls detail x s).flt.ff = { s.flt.ff with more := true })
  ∧ (∀ bs cm te s, (powerOn bs cm te s).flt.ff = {})
  ∧ (∀ s, awake s → exec .winFf0ValidClear s = ends { s with flt := { s.flt with ff := {} } })
  ∧ (∀ d c s, (resetTo d c s).flt.ff = s.flt.ff)
  ∧ (∀ d c s, (resetTo d c s).boot.cause = s.boot.cause ||| c ∧ (resetTo d c s).boot.depth = d)
  ∧ (∀ bs cm te s, (powerOn bs cm te s).boot.cause = 1)
  ∧ (∀ v s i, awake s → i < 16 → exec (.winRstcauseClear v) s = ends (clearCause v s)
      ∧ bit (clearCause v s).boot.cause i = (bit s.boot.cause i && !bit v i))

/-- The increment of a cycle is 4 ns (1 + w / 10^12) in units of 2^-48 ns, rounded down (the rounding is the choice of the model, log
entry 57); in each cycle the clock moves by exactly that, since what the 32.32 increment leaves out is the residue that the next cycle
takes in; and the clock reaches a time in the least number of cycles that does. Rests on the model's own choices in log entries 57
(notes/assumptions). (R428, R429) -/
def Obligations.LocalClockCycles : Prop :=
  (∀ k : Clock, (dcoCycle k).now = k.now ∧ (dcoCycle k).cycles = k.cycles + 1 ∧ (dcoCycle k).sub = k.sub + dcoInc k.w)
  ∧ (∀ inc res, res < 65536 → (dcoStep inc res).1 * 65536 + (dcoStep inc res).2 = inc + res ∧ (dcoStep inc res).2 < 65536)
  ∧ (∀ w : Int, -500000000 ≤ w → w ≤ 500000000 →
      (dcoInc w : Int) * 10 ^ 12 ≤ 4 * 2 ^ 48 * (10 ^ 12 + w) ∧ 4 * 2 ^ 48 * (10 ^ 12 + w) < ((dcoInc w : Int) + 1) * 10 ^ 12)
  ∧ (∀ t (k : Clock), -500000000 ≤ k.w → k.w ≤ 500000000 → k.now ≤ t → (clockTo t k).now = t ∧ k.cycles ≤ (clockTo t k).cycles
      ∧ (clockTo t k).sub + (t - k.now) * 2 ^ 48 = k.sub + ((clockTo t k).cycles - k.cycles) * dcoInc k.w
      ∧ (k.cycles < (clockTo t k).cycles → (clockTo t k).sub < dcoInc k.w))

/-- In the reset state no reset or relinquishment that a fault asked for is outstanding, the memory has its canonical form and no command
waits. Rests on the model's own choices in log entries 1, 2 (notes/assumptions). (R612, R635) -/
def Obligations.ResetIsQuiet : Prop :=
  Quiet State.reset ∧ Memory.wf State.reset.mem.cells ∧ State.reset.pending = []

/-- If no reset and no relinquishment that a fault asked for is outstanding, none is outstanding after a step, whatever the step does: a
command, a queued request, a bundle of an engine or nothing. Rests on the model's own choices in log entries 1 (notes/assumptions). (R611,
R612) -/
def Obligations.QuietIsKept : Prop :=
  ∀ s t, Quiet s → step s = .next t → Quiet t

/-- For every command and every state, execution answers a next state, never a fault or a refusal, and one in which nothing that a fault
asked for is outstanding. (R528, R612) -/
def Obligations.EveryCommandCompletes : Prop :=
  ∀ c s, ∃ t, exec c s = .next t ∧ Quiet t

/-- Every legal bundle is the bundle of its 64-bit word, and every 64-bit word that encodes a legal bundle is the word of that bundle: no
bit of an encoding is dropped or given a second meaning. (R130, R131, R132, R133, R137) -/
def Obligations.BundleWords : Prop :=
  (∀ b, bundleOk b → bundlePlain b → bundleOf (bundleWord b) = b ∧ bundleWord b < 2 ^ 64)
  ∧ (∀ w, w < 2 ^ 64 → bundleOk (bundleOf w) → bundlePlain (bundleOf w) ∧ bundleWord (bundleOf w) = w)

/-- For each operation of SYS 0x0101 to 0x0107 an accepted request answers a next state with its reply and its effect: the two reads
answer their payload, mode change, time base and mute-all enter the Commit Gate, a reset replies and resets (or asks the partner), and a
relay sends its payload to the node and holds its reply. Rests on the model's own choices in log entries 11, 24 (notes/assumptions).
(R550, R551, R552, R548, R43, R36, R34, R50, R73, R74, R605, R594) -/
def Obligations.SystemOperations : Prop :=
    (∀ r s, accepts 0x0101 planSysGetCaps r s = true →
      exec (.sysGetCaps r) s = answered r s caps id)
    ∧ (∀ r s, accepts 0x0102 planSysGetStatus r s = true → exec (.sysGetStatus r) s = answered r s statusPayload
      fun s => { s with cp := { s.cp with
        hw0 := s.cp.p0.length, hw1 := s.cp.p1.length, hw2 := s.cp.p2.length, hw3 := s.cp.p3.length,
        authAll := { s.cp.authAll with sat := false }, staleAll := { s.cp.staleAll with sat := false }, qFull := { s.cp.qFull with sat := false } } })
    ∧ (∀ r s, stageable 0x0103 planSysSetMode r s = true → exec (.sysSetMode r) s = stagedOnly r s)
    ∧ (∀ r s, stageable 0x0104 planSysSetTimebase r s = true → exec (.sysSetTimebase r) s = stagedOnly r s)
    ∧ (∀ r s, accepts 0x0105 planSysReset r s = true → par r 1 1 = 0 → exec (.sysReset r) s = holding r s fun q u => commandReset (resetDepth (par r 0 1)) (finish q OK 0 0 false (forcedIn q u) [] (setForced (forcedIn q u) u)))
    ∧ (∀ r s, accepts 0x0105 planSysReset r s = true → par r 1 1 = 1 → exec (.sysReset r) s = holding r s fun q u => { sendPair 8 (toBE 1 (par r 0 1)) u with
        cp := { u.cp with partner := u.cp.partner ++ [{ req := q, node := u.pair.seq, forced := forcedIn q u }] } })
    ∧ (∀ r s, stageable 0x0106 planSysMuteAll r s = true → exec (.sysMuteAll r) s = stagedOnly r s)
    ∧ (∀ r s, accepts 0x0107 planSysRelay r s = true → exec (.sysRelay r) s = holding r s fun q u => sendNode (par r 0 2) 2 0 (r.params.drop 4)
        { u with cp := { u.cp with relays := u.cp.relays ++ [{ req := q, node := par r 0 2 }] } })

/-- For each operation of the PLACE and MEM groups an accepted request answers a next state: a policy waits for the next period, the reads
answer the policy, engine, event and bank records, the clears zero their counters, and HEATH_SET_POLICY sets a bank. Rests on the model's
own choices in log entries 21 (notes/assumptions). (R194, R195, R196, R235, R238, R239, R322, R323, R324) -/
def Obligations.PlacementAndMemoryOperations : Prop :=
    (∀ r s, accepts 0x0120 planPlaceSetPolicy r s = true → exec (.placeSetPolicy r) s =
      answered r s (fun _ => []) fun s =>
        let p := policyOf r
        { s with place := { s.place with next := some p } })
    ∧ (∀ r s, accepts 0x0121 planPlaceGetPolicy r s = true →
      exec (.placeGetPolicy r) s = answered r s (fun s =>
          policyBytes s.place.policy s.place.hold ++ (List.range 15).flatMap (fun i => toBE 2 (placeStat s i).n)
            ++ toBE 2 (ofBits ((List.range 15).filter fun i => (placeStat s i).sat))) id)
    ∧ (∀ r s, accepts 0x0122 planPlaceGetEngines r s = true → exec (.placeGetEngines r) s =
      answered r s (fun s =>
        (List.range (par r 2 2)).flatMap fun i => engineRecord s (par r 0 2 + i)) id)
    ∧ (∀ r s, accepts 0x0123 planPlaceGetEvents r s = true → exec (.placeGetEvents r) s = answered r s (fun s =>
        let first := max (par r 0 4) (s.place.idx - 4096)
        toBE 4 (s.place.idx - 4096) ++ toBE 4 s.place.idx ++ toBE 2 s.place.ovf.n ++ toBE 1 (b2n s.place.ovf.sat) ++ zeroBytes 5
          ++ ((List.range (min 255 (s.place.idx - first))).map (first + ·)).flatMap fun i => (tgetD s.place.log i ([], false)).1)
      fun s =>
        let first := max (par r 0 4) (s.place.idx - 4096)
        let ix := (List.range (min 255 (s.place.idx - first))).map (first + ·)
        { s with place := { s.place with log := ix.foldl (fun t i => tupd t i fun e => (e.1, true)) s.place.log } })
    ∧ (∀ r s, accepts 0x0124 planPlaceClearStats r s = true → exec (.placeClearStats r) s =
      answered r s (fun _ => []) fun s =>
        { s with place := { s.place with stats := [], ovf := {} } })
    ∧ (∀ r s, accepts 0x0130 planMemGetStatus r s = true →
      exec (.memGetStatus r) s = answered r s (fun s =>
          ((List.range 20).flatMap (heathRegs s) ++ dramRegs s).flatMap (toBE 4)) id)
    ∧ (∀ r s, accepts 0x0131 planHeathSetPolicy r s = true → exec (.heathSetPolicy r) s =
      answered r s (fun _ => []) fun s =>
        let n := par r 0 1
        let v := par r 1 1
        setBank n (v % 4) (bit v 7) s)
    ∧ (∀ r s, accepts 0x0132 planMemClearEcc r s = true → exec (.memClearEcc r) s =
      answered r s (fun _ => []) fun s =>
        { s with mem := { s.mem with
          banks := tmap (fun (b : Bank) => { b with ce := 0, ue := 0, ceSat := false, ueSat := false }) s.mem.banks,
          dramCe := 0, dramUe := 0, dramOvf := false, dramCeSat := false, dramUeSat := false } })

/-- For each operation of class 0x02 an accepted request answers a next state: node sets and fills enter the Commit Gate, a drop voids the
staged sets that its value names and counts their records, the reads answer nodes, columns, clip counters and tiles, and a clear zeroes
the clip counters of the columns. Rests on the model's own choices in log entries 24 (notes/assumptions). (R91, R98, R100, R112, R113,
R114, R115, R116, R531) -/
def Obligations.SwardOperations : Prop :=
    (∀ r s, stageable 0x0201 planSwardSetNodes r s = true → exec (.swardSetNodes r) s = stagedOnly r s)
    ∧ (∀ r s, stageable 0x0202 planSwardFill r s = true → exec (.swardFill r) s = stagedOnly r s)
    ∧ (∀ r s, accepts 0x0203 planSwardDropStaged r s = true → exec (.swardDropStaged r) s = answered r s (fun s =>
        let v := par r 0 8
        let hit := fun (g : Staged) => isSward g && (if bit v 63 then g.alm == some (v % 32) else g.alm.isNone && g.due == v)
        toBE 4 (lsum ((s.gate.staged.filter hit).map swCount)))
      fun s =>
        let v := par r 0 8
        let hit := fun (g : Staged) => isSward g && (if bit v 63 then g.alm == some (v % 32) else g.alm.isNone && g.due == v)
        { s with gate := { s.gate with staged :=
          (s.gate.staged.filter fun g => !(hit g && g.alm.isSome)).map fun g => if hit g then { g with note := [1] } else g } })
    ∧ (∀ r s, accepts 0x0204 planSwardGetNodes r s = true → exec (.swardGetNodes r) s =
      answered r s (fun s =>
        let r0 := par r 0 2
        let r1 := par r 2 2
        let c0 := par r 4 2
        let c1 := par r 6 2
        (List.range (c1 + 1 - c0)).flatMap fun j => (List.range (r1 + 1 - r0)).flatMap fun i =>
          nodeRecord s.sward (c0 + j) (r0 + i)) id)
    ∧ (∀ r s, accepts 0x0205 planSwardGetColumns r s = true → exec (.swardGetColumns r) s =
      answered r s (fun s =>
        colWords r fun j => rampWord (rampAt s.sward j)) id)
    ∧ (∀ r s, accepts 0x0206 planSwardGetClip r s = true → exec (.swardGetClip r) s =
      answered r s (fun s =>
        colWords r fun j => clipWord (tgetD s.sward.clips j {})) id)
    ∧ (∀ r s, accepts 0x0207 planSwardClearClip r s = true → exec (.swardClearClip r) s =
      answered r s (fun _ => []) fun s =>
        { s with sward := { s.sward with
          clips := s.sward.clips.filter fun c => !(decide (par r 0 2 ≤ c.1) && decide (c.1 ≤ par r 2 2)) } })
    ∧ (∀ r s, accepts 0x0208 planSwardGetTiles r s = true → exec (.swardGetTiles r) s =
      answered r s (fun s =>
        let f := par r 0 1
        let n := par r 1 1
        (List.range n).flatMap fun i => toBE 4 (tileWord s (f + i))) id)

/-- For each operation 0x0301 to 0x030D an accepted request answers a next state: a load begins, fills and ends a chain, the staged ones
enter the Commit Gate, the reads answer status, map words and state words, and a placement is taken at once or starts a migration and
holds its reply. Rests on the model's own choices in log entries 13, 21 (notes/assumptions). (R175, R176, R180, R181, R182, R183, R184,
R186, R187, R188, R203, R206) -/
def Obligations.ChainOperations : Prop :=
    (∀ r s, accepts 0x0301 planChainLoadBegin r s = true → exec (.chainLoadBegin r) s =
      let h := (madeFor (dequeue r s) r).getD 0
      let d := descOf r
      answered r s (fun _ => toBE 2 h) fun s => { s with eng := { s.eng with
        chains := tset s.eng.chains h { desc := d, taps := d.taps.map fun t => t.2.2 } } })
    ∧ (∀ r s, accepts 0x0302 planChainLoadData r s = true → exec (.chainLoadData r) s =
      answered r s (fun _ => []) (fun s =>
        let h := par r 0 2
        let off := par r 4 4
        let data := r.params.drop 8
        (modChain h fun c =>
          if par r 2 1 = 0 then { c with image := wrCells zeroAt c.image off data, codeGot := c.codeGot ++ [(off, data.length)] }
          else { c with init := wrCells zeroAt c.init off data }) s))
    ∧ (∀ r s, stageable 0x0303 planChainLoadEnd r s = true → exec (.chainLoadEnd r) s =
      stagedAs r s (fun _ => []) (fun _ => []) fun s =>
        let h := par r 0 2
        match admitTo s h with
          | none => s
          | some e =>
            let s := putOn e h (modChain h (fun c => { c with st := 2, blk := c.init, cum := [] }) s)
            { s with place := { s.place with migr := s.place.migr ++ [{ handle := h, src := 0xFFFF, dst := e, phase := 3, start := cal s }] } })
    ∧ (∀ r s, stageable 0x0304 planChainUnload r s = true → exec (.chainUnload r) s =
      stagedAs r s (fun _ => []) (fun _ => []) (fun s =>
        let h := par r 0 2
        (modChain h fun c => { c with prev := c.st, st := 6 }) s))
    ∧ (∀ r s, stageable 0x0305 planChainSetParams r s = true → exec (.chainSetParams r) s = stagedOnly r s)
    ∧ (∀ r s, stageable 0x0306 planChainSetTaps r s = true → exec (.chainSetTaps r) s = stagedOnly r s)
    ∧ (∀ r s, accepts 0x0307 planChainGetStatus r s = true → exec (.chainGetStatus r) s =
      answered r s (fun s =>
        chainStatus s (par r 0 2)) id)
    ∧ (∀ r s, accepts 0x0308 planChainClearCounters r s = true → exec (.chainClearCounters r) s =
      answered r s (fun _ => []) fun s =>
        let h := par r 0 2
        { s with eng := { s.eng with chains := tmapK (fun k (c : Chain) =>
          if h = 0 ∨ k = h then { c with misses := {}, fails := {}, overrun := false, cycMax := 0 } else c) s.eng.chains } })
    ∧ (∀ r s, stageable 0x0309 planMapSet r s = true → exec (.mapSet r) s = stagedOnly r s)
    ∧ (∀ r s, accepts 0x030A planMapGet r s = true → exec (.mapGet r) s =
      answered r s (fun s =>
        let sp := par r 0 1
        let n := par r 4 2
        (List.range n).flatMap fun i => toBE 4 (mapWord (mapOf s.pipe.live sp (par r 2 2 + i)))) id)
    ∧ (∀ r s, stageable 0x030B planChainWriteState r s = true → exec (.chainWriteState r) s = stagedOnly r s)
    ∧ (∀ r s, accepts 0x030C planChainReadState r s = true → exec (.chainReadState r) s =
      answered r s (fun s =>
        let h := par r 0 2
        let off := par r 4 4
        let n := par r 8 2
        (List.range (n / 4)).flatMap fun i => toBE 4 (readWord (settledBlk s h) [] (off + 4 * i)).toNat) id)
    ∧ (∀ r s, accepts 0x030D planChainSetPlacement r s = true →
      (bit (par r 2 1) 0 = false ∨ (chainD s (par r 0 2)).engine = 0xFFFF ∨ (chainD s (par r 0 2)).engine = par r 4 2) →
      (∀ m ∈ s.place.migr, m.handle ≠ par r 0 2) → (chainD s (par r 0 2)).pinReq = none →
      exec (.chainSetPlacement r) s = answered r s (fun _ => []) (modChain (par r 0 2) fun c =>
        { c with desc := { c.desc with flags := c.desc.flags / 4 * 4 + par r 2 1, pinEngine := par r 4 2, affinity := par r 3 1 },
                 displaced := false, pinWait := false, pinReq := none }))
    ∧ (∀ r s, accepts 0x030D planChainSetPlacement r s = true → bit (par r 2 1) 0 = true →
      (chainD s (par r 0 2)).engine ≠ 0xFFFF → (chainD s (par r 0 2)).engine ≠ par r 4 2 →
      (∀ m ∈ s.place.migr, m.handle ≠ par r 0 2) → (chainD s (par r 0 2)).pinReq = none →
      qualifies (dequeue r s) (par r 0 2) (par r 4 2) false true = true →
      exec (.chainSetPlacement r) s = holding r s fun q u =>
        let t := modChain (par r 0 2) (fun c => { c with pinReq := some q }) (modChain (par r 0 2) (fun c =>
          { c with desc := { c.desc with flags := c.desc.flags / 4 * 4 + par r 2 1, pinEngine := par r 4 2, affinity := par r 3 1 },
                   displaced := false, pinWait := false, pinReq := none }) u)
        if pinWaits t (par r 0 2) (par r 4 2) then t else startMigr (par r 0 2) (par r 4 2) false true t)

/-- For each operation on the fixed blocks and delay lines an accepted request answers a next state: configurations enter the Commit Gate
or wait quietly for the next boundary, the reads answer their records and restart what a read restarts, a line is placed by best fit with
its length, base and mark, and a free releases it. Rests on the model's own choices in log entries 13, 16 (notes/assumptions). (R242,
R243, R244, R255, R256, R257, R258, R259, R261, R263, R317, R318) -/
def Obligations.FixedBlockAndLineOperations : Prop :=
    (∀ r s, stageable 0x0320 planDynConfig r s = true → exec (.dynConfig r) s = stagedOnly r s)
    ∧ (∀ r s, stageable 0x0321 planDynSetParams r s = true → exec (.dynSetParams r) s = stagedOnly r s)
    ∧ (∀ r s, accepts 0x0322 planDynGet r s = true → exec (.dynGet r) s = answered r s (fun s =>
        let b := dynShown s.fixed (par r 0 2)
        let d := tgetD s.fixed.dyn (dynKey (par r 0 2) b.1) {}
        dynCfgBytes (par r 0 2) b.1 ++ dynParBytes (par r 0 2) b.2 ++ toBES 2 (rnd d.g 16) ++ toBES 2 (tgetD s.fixed.dyn (par r 0 2) {}).maxRed)
      fun s =>
        { s with fixed := { s.fixed with dyn := tupd s.fixed.dyn (par r 0 2) fun d => { d with maxRed := 0 } } })
    ∧ (∀ r s b, accepts 0x0340 planLineAlloc r s = true → bestFit s (4 * lineCap (par r 4 4)) = some b →
      exec (.lineAlloc r) s = answered r s
        (fun s => toBE 4 (lineCap (par r 4 4)) ++ toBE 8 (poolBase + b) ++ toBE 4 (largestFree (putLine (par r 0 2) (par r 4 4) b (cal s + 1) s)))
        fun s => putLine (par r 0 2) (par r 4 4) b (cal s + 1) s)
    ∧ (∀ r s, accepts 0x0341 planLineFree r s = true → exec (.lineFree r) s =
      answered r s (fun _ => []) fun s =>
        let id := par r 0 2
        { s with lines := { s.lines with tab := tdel s.lines.tab id } })
    ∧ (∀ r s, accepts 0x0342 planLineGet r s = true → exec (.lineGet r) s =
      answered r s (fun s =>
        let id := par r 0 2
        let l := tgetD s.lines.tab id { len := 0, cap := 0, base := 0, mark := 0 }
        let w := match s.eng.chains.find? fun c => c.2.desc.lines.contains id with | some c => c.1 | none => 0
        let t := lsum (s.eng.chains.map fun c => (c.2.desc.taps.filter fun t => t.1 == id).length)
        toBE 2 id ++ toBE 2 w ++ toBE 4 l.len ++ toBE 4 l.cap ++ toBE 2 t ++ toBE 2 0 ++ toBE 6 l.mark ++ toBE 2 0) id)
    ∧ (∀ r s, accepts 0x0880 planMeterOpSet r s = true → exec (.meterOpSet r) s =
      answered r s (fun _ => []) (stageQuiet (asRun r (dequeue r s))))
    ∧ (∀ r s, accepts 0x0881 planMeterOpRead r s = true → exec (.meterOpRead r) s =
      let read := fun (s : State) => (List.range (par r 2 2)).foldl (fun (a : List Byte × State) i =>
        let y := meterRecord (par r 0 2 + i) a.2; (a.1 ++ y.1, y.2)) ([], s)
      answered r s (fun s => (read s).1) fun s => (read s).2)
    ∧ (∀ r s, accepts 0x0890 planSilenceSet r s = true → exec (.silenceSet r) s =
      answered r s (fun _ => []) (stageQuiet (asRun r (dequeue r s))))
    ∧ (∀ r s, accepts 0x0891 planSilenceGet r s = true → exec (.silenceGet r) s =
      answered r s (fun s =>
        let sp := par r 0 1
        (List.range 512).map (fun i => BitVec.ofNat 8 (ofBits ((List.range 8).filter fun j => isSilent s sp (8 * i + j))))
          ++ toBE 4 (quietLevel s)) id)

/-- For each operation of class 0x04 an accepted request answers a next state: port, drive and tone configurations enter the Commit Gate,
the reads answer port, drive, event and tone records, the clears zero counters and flags, and re-arm, listen, clock and tone commands
change the unit they name. Rests on the model's own choices in log entries 28 (notes/assumptions). (R325, R326, R331, R334, R335, R336,
R337, R342, R345, R347, R354, R361) -/
def Obligations.PortOperations : Prop :=
    (∀ r s, stageable 0x0401 planSpConfig r s = true → exec (.spConfig r) s = stagedOnly r s)
    ∧ (∀ r s, accepts 0x0402 planSpGetStatus r s = true →
      exec (.spGetStatus r) s = answered r s (fun s => (List.range 8).flatMap (spRecord s)) id)
    ∧ (∀ r s, accepts 0x0403 planSpSetMclk r s = true → exec (.spSetMclk r) s =
      answered r s (fun _ => []) fun s =>
        { s with ports := { s.ports with slp := { s.ports.slp with mclk := par r 0 1 } } })
    ∧ (∀ r s, accepts 0x0404 planSpClear r s = true → exec (.spClear r) s =
      answered r s (fun _ => []) fun s =>
        { s with ports := { s.ports with
          sp := tmap (fun (p : SpSt) => { p with under := {}, overr := {}, loss := {} }) s.ports.sp,
          ae := tmap (fun (p : AeSt) => { p with parity := {}, crcc := {}, slips := {}, losses := {}, cons := false, valid := false, crccEv := false }) s.ports.ae } })
    ∧ (∀ r s, stageable 0x0410 planAeConfig r s = true → exec (.aeConfig r) s = stagedOnly r s)
    ∧ (∀ r s, accepts 0x0411 planAeGetStatus r s = true → exec (.aeGetStatus r) s = answered r s (fun s => (List.range 4).flatMap (aeRecord s))
      fun s =>
        { s with ports := { s.ports with ae := tmap (fun (p : AeSt) => { p with valid := false, crccEv := false }) s.ports.ae } })
    ∧ (∀ r s, stageable 0x0420 planDrvConfig r s = true → exec (.drvConfig r) s = stagedOnly r s)
    ∧ (∀ r s, stageable 0x0421 planDrvSetFreq r s = true → exec (.drvSetFreq r) s = stagedOnly r s)
    ∧ (∀ r s, accepts 0x0422 planDrvRearm r s = true → exec (.drvRearm r) s =
      answered r s (fun _ => []) fun s =>
        let m := par r 0 4
        let g := bit (par r 4 1) 0
        let s := (bitList m 32).foldl (fun t c => modDrv c (fun x => { x with trip := false }) t) s
        if g then { s with ports := { s.ports with drv := { s.ports.drv with fault := false } } } else s)
    ∧ (∀ r s, accepts 0x0423 planDrvGetStatus r s = true →
      exec (.drvGetStatus r) s = answered r s (fun s =>
          let d := s.ports.drv
          toBE 1 d.code ++ toBE 1 (b2n (drvEn s) + 2 * b2n d.faultN + 4 * b2n d.clkErr) ++ zeroBytes 2 ++ (List.range 32).flatMap (drvRecord s)) id)
    ∧ (∀ r s, accepts 0x0430 planSlpSetListen r s = true → exec (.slpSetListen r) s =
      answered r s (fun _ => []) (stageQuiet (asRun r (dequeue r s))))
    ∧ (∀ r s, accepts 0x0431 planSlpTone r s = true → exec (.slpTone r) s =
      answered r s (fun _ => []) (playTone (par r 0 2) (par r 2 2) (par r 4 2)))
    ∧ (∀ r s, accepts 0x0432 planSlpGetEvents r s = true → exec (.slpGetEvents r) s = answered r s (fun s => toBE 1 s.ports.slp.queue.length ++ toBE 1 (b2n s.ports.slp.ovf.sat) ++ toBE 2 s.ports.slp.ovf.n
          ++ s.ports.slp.queue.flatMap (fun e => toBE 1 e.code ++ toBE 1 e.detail ++ toBE 6 e.cal))
      fun s =>
        { s with ports := { s.ports with slp := { s.ports.slp with queue := [] } } })
    ∧ (∀ r s, stageable 0x0440 planTgSet r s = true → exec (.tgSet r) s = stagedOnly r s)
    ∧ (∀ r s, accepts 0x0441 planTgGet r s = true → exec (.tgGet r) s =
      answered r s (fun s =>
        let n := par r 0 1
        let g := tgetD s.pipe.live.tg n {}
        toBE 1 n ++ toBE 1 g.flags ++ toBE 1 g.signal ++ toBE 1 g.channels ++ toBE 2 g.srcBase ++ toBE 2 g.level ++ toBE 4 g.arg ++ zeroBytes 4) id)

/-- For each operation of class 0x05 an accepted request answers a next state: node, link, flow, group, directory, ring, AoIP,
service-port and auxiliary-port settings, their status reads, the frame queues and the clearing of counters. Rests on the model's own
choices in log entries 16, 28 (notes/assumptions). (R370, R371, R381, R386, R388, R399, R400, R406, R416, R417, R421, R425) -/
def Obligations.LinkOperations : Prop :=
    (∀ r s, accepts 0x0501 planLinkSetNode r s = true → exec (.linkSetNode r) s =
      answered r s (fun _ => []) fun s =>
        { s with links := { s.links with nodeSet := some (par r 0 2, par r 2 2, par r 4 4) } })
    ∧ (∀ r s, stageable 0x0502 planLinkConfig r s = true → exec (.linkConfig r) s = stagedOnly r s)
    ∧ (∀ r s, accepts 0x0503 planLinkGetStatus r s = true →
      exec (.linkGetStatus r) s = answered r s (fun s =>
          toBE 2 s.links.node ++ toBE 2 s.links.ether ++ toBE 1 (ringCode s 0) ++ toBE 1 (ringCode s 1) ++ zeroBytes 2
            ++ (List.range 4).flatMap (linkRecord s)) id)
    ∧ (∀ r s, stageable 0x0504 planFlowOutSet r s = true → exec (.flowOutSet r) s =
      stagedAs r s (fun _ => []) (fun u => (flowPorts u (asRun r u)).getD []) id)
    ∧ (∀ r s, stageable 0x0505 planFlowOutDelete r s = true → exec (.flowOutDelete r) s = stagedOnly r s)
    ∧ (∀ r s, stageable 0x0506 planFlowInSet r s = true → exec (.flowInSet r) s = stagedOnly r s)
    ∧ (∀ r s, stageable 0x0507 planFlowInDelete r s = true → exec (.flowInDelete r) s = stagedOnly r s)
    ∧ (∀ r s, accepts 0x0508 planFlowGetStatus r s = true → exec (.flowGetStatus r) s =
      answered r s (fun s =>
        ((s.pipe.live.flowIn.drop (par r 0 2)).take (par r 2 2)).flatMap fun f => flowRecord s f.1 f.2) id)
    ∧ (∀ r s, accepts 0x0509 planGroupSet r s = true → exec (.groupSet r) s =
      answered r s (fun _ => []) fun s =>
        let g := par r 0 2
        { s with links := { s.links with
          groups := tset s.links.groups g { isLocal := bit (par r 2 1) 0, ports := par r 3 1, protect := par r 4 1 } } })
    ∧ (∀ r s, accepts 0x050A planGroupDelete r s = true → exec (.groupDelete r) s =
      answered r s (fun _ => []) fun s =>
        let g := par r 0 2
        { s with links := { s.links with groups := tdel s.links.groups g } })
    ∧ (∀ r s, accepts 0x050B planDirSet r s = true → exec (.dirSet r) s =
      answered r s (fun _ => []) fun s =>
        let v := par r 0 2
        let pin := bit (par r 2 1) 0
        let e := tgetD s.links.dir v {}
        let dir := if pin then tset s.links.dir v { e with pinned := true, prim := par r 3 1, primH := par r 5 1, alt := par r 4 1, altH := 0 }
          else if e.ports.isEmpty then tdel s.links.dir v else tset s.links.dir v (dirRoutes { e with pinned := false })
        { s with links := { s.links with dir := dir } })
    ∧ (∀ r s, accepts 0x050C planDirGet r s = true → exec (.dirGet r) s =
      answered r s (fun s =>
        ((s.links.dir.filter fun e => decide (par r 0 2 ≤ e.1)).take (par r 2 2)).flatMap fun e => dirRecord e.1 e.2) id)
    ∧ (∀ r s, accepts 0x050D planRingSet r s = true → exec (.ringSet r) s =
      answered r s (fun _ => []) fun s =>
        let i := par r 0 1
        let a := par r 2 1
        let b := par r 3 1
        let n : Ring := { enabled := bit (par r 1 1) 0, portA := a, portB := b, wtr := par r 4 2 }
        let s := ringNormal n (ringNormal (tgetD s.links.rings i {}) s)
        { s with links := { s.links with rings := tset s.links.rings i n } })
    ∧ (∀ r s, stageable 0x0510 planAoipSenderSet r s = true → exec (.aoipSenderSet r) s = stagedOnly r s)
    ∧ (∀ r s, stageable 0x0511 planAoipReceiverSet r s = true → exec (.aoipReceiverSet r) s = stagedOnly r s)
    ∧ (∀ r s, accepts 0x0512 planAoipGetStatus r s = true → exec (.aoipGetStatus r) s =
      answered r s (fun s =>
        let f := par r 1 1
        let n := par r 2 1
        (List.range n).flatMap fun i => aoipRecord s (par r 0 1 == 1) (f + i)) id)
    ∧ (∀ r s, accepts 0x0520 planMgConfig r s = true → exec (.mgConfig r) s =
      answered r s (fun _ => []) fun s =>
        { s with links := { s.links with mg := { s.links.mg with
          flags := par r 0 1, plen := par r 1 1, limit := par r 2 2, ip := par r 4 4, gw := par r 8 4, mac := par r 12 6 } } })
    ∧ (∀ r s, accepts 0x0521 planMgSetWake r s = true → exec (.mgSetWake r) s =
      answered r s (fun _ => []) fun s =>
        { s with links := { s.links with mg := { s.links.mg with
          wake := tset s.links.mg.wake (par r 0 1) (bit (par r 1 1) 0, par r 2 2, le r.params 4 16) } } })
    ∧ (∀ r s, accepts 0x0530 planAlConfig r s = true → exec (.alConfig r) s =
      answered r s (fun _ => []) fun s => alBeacon (par r 0 1) (modAl (par r 0 1) (fun a => { a with
          flags := par r 1 1, plcaId := par r 2 1, plcaN := par r 3 1, ip := par r 4 4, plen := par r 8 1, mac := par r 10 6, fell := false }) s))
    ∧ (∀ r s, accepts 0x0531 planAlFrameTx r s = true → exec (.alFrameTx r) s =
      answered r s (fun _ => []) fun s =>
        let p := par r 0 1
        if bit (alAt s p).flags 0 then alSend p { kind := .eth, a := 1 + p, bytes := withFcs true (r.params.drop 4) } s else s)
    ∧ (∀ r s, accepts 0x0532 planAlFrameRx r s = true → exec (.alFrameRx r) s = answered r s (fun s =>
        let x := takeFrames ((if r.src = .link then 1440 else 4096) - 4) (alAt s (par r 0 1)).queue
        toBE 1 x.1.length ++ toBE 1 (b2n (alAt s (par r 0 1)).ovf.sat) ++ toBE 2 (alAt s (par r 0 1)).ovf.n
          ++ x.1.flatMap (fun f => toBE 2 f.length ++ f))
      fun s =>
        modAl (par r 0 1) (fun a => { a with
          queue := (takeFrames ((if r.src = .link then 1440 else 4096) - 4) (alAt s (par r 0 1)).queue).2 }) s)
    ∧ (∀ r s, accepts 0x0533 planAlGetStatus r s = true → exec (.alGetStatus r) s =
      answered r s (fun s =>
        let a := alAt s (par r 0 1)
        let l := [a.sent, a.recv, a.coll, a.drop, a.beacon, a.ovf]
        toBE 1 (par r 0 1) ++ toBE 1 (if !bit a.flags 0 then 0 else if !bit a.flags 1 then 1 else if a.fell then 3 else 2)
          ++ l.flatMap (fun c => toBE 2 c.n) ++ toBE 1 (ofBits ((List.range 6).filter fun i => (l.getD i {}).sat)) ++ toBE 1 0) id)
    ∧ (∀ r s, accepts 0x0540 planLinkClear r s = true → exec (.linkClear r) s =
      answered r s (fun _ => []) fun s =>
        { s with links := { s.links with
          ports := tmap (fun (x : LinkSt) => { x with badFcs := {}, hopLimit := {}, unknown := {}, noEntry := {}, portDown := {}, cutShort := {},
                                                      sent := {}, received := {}, annDrop := {} }) s.links.ports,
          flows := tmap (fun (x : FlowRx) => { x with pres := {}, late := {}, early := {}, dup := {}, stby := {}, malf := {}, conc := {}, zero := {} }) s.links.flows,
          mg := { s.links.mg with events := {} },
          al0 := { s.links.al0 with sent := {}, recv := {}, coll := {}, drop := {}, beacon := {}, ovf := {} },
          al1 := { s.links.al1 with sent := {}, recv := {}, coll := {}, drop := {}, beacon := {}, ovf := {} } } })

/-- For each operation of class 0x06 an accepted request answers a next state: references, selection, trim and holdover settings, status,
PTP, pulses, Almanac entries, time steps and epochs (which enter the Commit Gate) and time stamps. Rests on the model's own choices in log
entries 17, 27, 28 (notes/assumptions). (R436, R437, R438, R440, R447, R448, R453, R457, R465, R466, R469, R473) -/
def Obligations.ClockOperations : Prop :=
    (∀ r s, accepts 0x0601 planClkSetRef r s = true → exec (.clkSetRef r) s =
      answered r s (fun _ => []) fun s =>
        let c := par r 0 1
        reselect (modCand c (fun k => { k with cfg := refOf r, qual := false, ppb := none, missed := 0, good := 0, edges := 0, frame := none }) s))
    ∧ (∀ r s, accepts 0x0602 planClkSetSelect r s = true → exec (.clkSetSelect r) s =
      answered r s (fun _ => []) fun s =>
        let l := par r 4 4
        reselect (setW s.clock.w { s with clock := { s.clock with
          mode := par r 0 1, forced := par r 1 1, limit := l, trim := parS r 8 4, jump := par r 12 4 } }))
    ∧ (∀ r s, accepts 0x0603 planClkSetDco r s = true → exec (.clkSetDco r) s =
      answered r s (fun _ => []) fun s =>
        let w := parS r 0 4
        { s with clock := { s.clock with w := w } })
    ∧ (∀ r s, accepts 0x0604 planClkSetHoldover r s = true → exec (.clkSetHoldover r) s =
      answered r s (fun _ => []) fun s =>
        { s with clock := { s.clock with hoUnc := par r 0 4, hoAge := par r 4 4, hoLim := par r 8 4 } })
    ∧ (∀ r s, accepts 0x0605 planClkGetStatus r s = true →
      exec (.clkGetStatus r) s = answered r s (fun s =>
          toBE 4 (clkStat s) ++ toBE 4 s.clock.hist ++ toBES 4 s.clock.w ++ (List.range 13).flatMap (fun c => toBES 4 ((candAt s c).ppb.getD 0))
            ++ (List.range 13).flatMap (fun c => toBE 2 (min 0xFFFF (candAt s c).missed))
            ++ toBE 4 (min 0xFFFFFFFF (holdoverX s))) id)
    ∧ (∀ r s, accepts 0x0606 planClkClearHist r s = true → exec (.clkClearHist r) s =
      answered r s (fun _ => []) (clearHist (par r 0 4)))
    ∧ (∀ r s, accepts 0x0610 planPtpConfig r s = true → exec (.ptpConfig r) s =
      answered r s (fun _ => []) fun s =>
        let t := { s with clock := { s.clock with ptp := { raw := r.params, state := 1, gm := s.clock.ptp.gm, seq := s.clock.ptp.seq } } }
        if s.clock.ptp.state = 3 then rejectCand 8 t else t)
    ∧ (∀ r s, accepts 0x0611 planPtpGetStatus r s = true →
      exec (.ptpGetStatus r) s = answered r s (fun s =>
          let p := s.clock.ptp
          fit 16 p.raw ++ toBE 1 p.state ++ zeroBytes 7 ++ toBE 8 p.gm ++ toBES 8 p.offset ++ toBES 8 p.delay) id)
    ∧ (∀ r s, accepts 0x0620 planPulseConfig r s = true → exec (.pulseConfig r) s =
      answered r s (fun _ => []) fun s =>
        let src := par r 1 1
        let f := par r 2 1
        let code := par r 3 1
        let p : Pulse := { source := src, flags := f, rate := code, divide := par r 4 4, offset := parS r 8 4, width := par r 12 4 }
        if bit f 0 && decide (1 ≤ src) && decide (src ≤ 8) then
          { s with clock := { s.clock with pulseNew := tset s.clock.pulseNew (par r 0 1) (s.clock.now, p) } }
        else
          { s with clock := { s.clock with
            pulses := tset s.clock.pulses (par r 0 1) p, pulseNew := tdel s.clock.pulseNew (par r 0 1) } })
    ∧ (∀ r s, accepts 0x0630 planAlmanacSet r s = true → exec (.almanacSet r) s =
      answered r s (fun _ => []) fun s =>
        let e := par r 0 1
        let a := par r 1 1
        let tick := bit (par r 2 1) 0
        let per := par r 16 8
        let x : Alm :=
          { raw := r.params, action := a, tick := tick, start := almStart r, period := per, count := par r 24 4, arg := par r 28 4,
            left := par r 24 4, next := if a = 0 then none else some (almStart r), late := a != 0 && almPassed s tick (almStart r) }
        { s with clock := { s.clock with alm := tset s.clock.alm e x } })
    ∧ (∀ r s, accepts 0x0631 planAlmanacGet r s = true →
      exec (.almanacGet r) s = answered r s (fun s => (List.range 32).flatMap fun i =>
          let e := tgetD s.clock.alm i {}
          (if e.raw.isEmpty then fit 32 (toBE 1 i) else e.raw) ++ toBE 4 e.left ++ toBE 6 e.last) id)
    ∧ (∀ r s, accepts 0x0640 planTimeGet r s = true →
      exec (.timeGet r) s = answered r s (fun s =>
          timeBytes s.clock.now ++ toBE 6 (cal s) ++ toBES 10 s.clock.epoch ++ toBES 4 s.clock.w ++ toBES 4 (s.clock.phase.getD 0)) id)
    ∧ (∀ r s, stageable 0x0641 planTimeStep r s = true → exec (.timeStep r) s = stagedOnly r s)
    ∧ (∀ r s, stageable 0x0642 planTimeSetEpoch r s = true → exec (.timeSetEpoch r) s = stagedOnly r s)
    ∧ (∀ r s, accepts 0x0643 planTimeGetStamps r s = true → exec (.timeGetStamps r) s = answered r s (fun s => (candAt s (par r 0 1)).stamps.flatMap timeBytes)
      fun s => modCand (par r 0 1) (fun k => { k with stamps := [] }) s)

/-- For each operation of class 0x07 an accepted request answers a next state: format, policy, join, jobs, recording and replay, find (by
tick or by time), read, protect and delete, with the segments that each selects. Rests on the model's own choices in log entries 29, 60
(notes/assumptions). (R478, R482, R483, R484, R490, R491, R492, R504, R505, R506, R507, R508) -/
def Obligations.CaptureOperations : Prop :=
    (∀ r s, accepts 0x0701 planCapVolumeFormat r s = true → exec (.capVolumeFormat r) s =
      answered r s (fun _ => []) fun s =>
        let m := par r 0 1
        let mir := bit (par r 1 1) 0
        let id := s.part.dieId ^^^ cal s
        let put := fun (d : Nat) (v : Drive) =>
          if bit m d then { v with state := 2, volId := id, volMask := m, volMirr := mir, clean := true }
          else if v.state = 2 then { v with state := 3 } else v
        putSupers ((bitList m 4).foldl (fun t d => zeroMap d (zeroSupers d t)) { s with cap := { s.cap with
            drives := tmapK put s.cap.drives, vol := 3, mirr := mir, mask := m, volId := id, alarm := false, full := false,
            jrnDone := false, opened := false, segs := s.cap.segs.filter fun g => !bit m g.drive,
            marks := s.cap.marks.filter fun x => !bit m (x.1 / 2 ^ 32), groups := [], seq := 0, recNo := 0 } }))
    ∧ (∀ r s, accepts 0x0702 planCapVolumeGet r s = true →
      exec (.capVolumeGet r) s = answered r s (fun s =>
          let c := s.cap
          toBE 1 c.vol ++ toBE 1 (b2n (mounted s && c.mirr) + 2 * b2n c.alarm + 4 * b2n c.full + 8 * b2n (c.policy == 1) + 16 * b2n c.jrnDone)
            ++ toBE 1 (if mounted s then c.mask else 0) ++ toBE 1 (b2n c.gaps.sat + 2 * b2n c.overw.sat + 4 * b2n c.redir.sat)
            ++ toBE 8 (if mounted s then c.volId else 0) ++ toBE 4 (segTotal s) ++ toBE 4 (segUsed s) ++ toBE 2 (capFill s) ++ toBE 2 (lmax c.depth)
            ++ toBE 2 c.gaps.n ++ toBE 2 c.overw.n ++ toBE 2 c.redir.n ++ zeroBytes 2) id)
    ∧ (∀ r s, accepts 0x0703 planCapSetPolicy r s = true → exec (.capSetPolicy r) s =
      answered r s (fun _ => []) fun s =>
        { s with cap := { s.cap with policy := par r 0 1 } })
    ∧ (∀ r s, accepts 0x0704 planCapGetDrives r s = true →
      exec (.capGetDrives r) s = answered r s (fun s => (List.range 4).flatMap (driveRecord s)) id)
    ∧ (∀ r s, accepts 0x0705 planCapDriveJoin r s = true → exec (.capDriveJoin r) s =
      answered r s (fun _ => []) fun s =>
        let d := par r 0 1
        let c := s.cap
        let m := c.mask ||| 2 ^ d
        let put := fun (i : Nat) (v : Drive) =>
          if i = d then { v with state := 2, volId := c.volId, volMask := m, volMirr := c.mirr, clean := !c.opened }
          else if bit c.mask i && v.state == 2 then { v with volMask := m } else v
        let t := { s with cap := { c with
            mask := m, drives := tmapK put c.drives, segs := c.segs.filter fun g => g.drive != d, marks := c.marks.filter fun x => x.1 / 2 ^ 32 != d } }
        fillAlarm (putSupers (zeroMap d (zeroSupers d { t with cap := { t.cap with vol := if allMembers t then 3 else 4 } }))))
    ∧ (∀ r s, accepts 0x0710 planCapJobSet r s = true → exec (.capJobSet r) s =
      answered r s (fun _ => []) fun s =>
        let j := par r 0 1
        { s with cap := { s.cap with
          jobs := tmod s.cap.jobs j {} fun x => { x with defined := true, flags := par r 1 1, dstF := par r 2 2, tracks := par r 4 2 } } })
    ∧ (∀ r s, stageable 0x0711 planCapRecord r s = true → exec (.capRecord r) s = stagedOnly r s)
    ∧ (∀ r s, stageable 0x0712 planCapStop r s = true → exec (.capStop r) s = stagedOnly r s)
    ∧ (∀ r s, accepts 0x0713 planCapGetJobs r s = true →
      exec (.capGetJobs r) s = answered r s (fun s => (List.range 16).flatMap (jobRecord s) ++ (List.range 16).flatMap (replayRecord s)) id)
    ∧ (∀ r s, stageable 0x0720 planCapReplay r s = true → exec (.capReplay r) s = stagedOnly r s)
    ∧ (∀ r s, stageable 0x0721 planCapReplayStop r s = true → exec (.capReplayStop r) s = stagedOnly r s)
    ∧ (∀ r s t g x, accepts 0x0730 planCapFind r s = true → par r 0 1 = 0 → t = par r 12 6 → runAt (segsOf s (par r 4 4)) t = some (g, x) →
      exec (.capFind r) s = answered r s (fun _ => toBE 6 t ++ timeBytes (segTime g t).toNat ++ toBE 6 x.1 ++ toBE 4 x.2) id)
    ∧ (∀ r s t g x, accepts 0x0730 planCapFind r s = true → par r 0 1 = 1 →
      findSome (fun g => segTick g ((par r 8 6 : Int) * 1000000000 + (par r 14 4 : Nat))) (segsOf s (par r 4 4)) = some t →
      runAt (segsOf s (par r 4 4)) t = some (g, x) →
      exec (.capFind r) s = answered r s (fun _ => toBE 6 t ++ timeBytes (segTime g t).toNat ++ toBE 6 x.1 ++ toBE 4 x.2) id)
    ∧ (∀ r s g x, accepts 0x0731 planCapRead r s = true →
      runAt ((segsOf s (par r 0 4)).filter fun g => g.group == par r 4 2 / 64) (par r 8 6) = some (g, x) →
      exec (.capRead r) s =
        let k := min (min (x.1 + x.2 - par r 8 6) (par r 16 4)) (4092 / (4 * par r 6 2 * g.n))
        answered r s (fun _ => toBE 4 k ++ (List.range k).flatMap fun i =>
          (tickWords g (par r 8 6 + i) (par r 4 2 % 64) (par r 6 2)).flatMap fun w => toBE 4 w.toNat) id)
    ∧ (∀ r s, accepts 0x0732 planCapProtect r s = true → exec (.capProtect r) s =
      let on := bit (par r 0 1) 0
      let hit := fun (g : Seg) => g.recNo == par r 4 4 && isMember s g.drive && decide (g.firstT ≤ par r 14 6) && decide (par r 8 6 ≤ g.lastT) && g.prot != on
      answered r s (fun s => toBE 4 (s.cap.segs.filter hit).length) fun s =>
        putEntries (s.cap.segs.filter hit)
          { s with cap := { s.cap with segs := s.cap.segs.map fun g => if hit g then { g with prot := on } else g } })
    ∧ (∀ r s, accepts 0x0733 planCapDelete r s = true → exec (.capDelete r) s =
      let hit := fun (g : Seg) => g.recNo == par r 0 4 && isMember s g.drive && !g.prot
      answered r s (fun s => toBE 4 (s.cap.segs.filter hit).length) fun s =>
        fillAlarm (putEntries (s.cap.segs.filter hit) { s with cap := { s.cap with segs := s.cap.segs.filter fun g => !hit g } }))

/-- For each operation 0x0801 to 0x080D an accepted request, with the meter powered, answers a next state: information, measuring points,
sealing and unsealing, reads and export, live values, loudness restart, export rate, and the loading, ending and removal of an image.
Whether an image is good is uninterpreted. Rests on the model's own choices in log entries 5, 14 (notes/assumptions). (R688, R689, R691,
R692, R693, R702, R703, R704, R707, R711, R712) -/
def Obligations.SealedMeterOperations : Prop :=
    (∀ r s, accepts 0x0801 planMeterGetInfo r s = true → s.meter.vmet = true →
      exec (.meterGetInfo r) s = answered r s meterInfo id)
    ∧ (∀ r s, accepts 0x0802 planMeterSetPoint r s = true → s.meter.vmet = true → exec (.meterSetPoint r) s =
      answered r s (fun _ => []) (modMeter fun m => { m with next := tset m.next (par r 0 1) (pointOf r) }))
    ∧ (∀ r s, accepts 0x0803 planMeterGetPoints r s = true → s.meter.vmet = true →
      exec (.meterGetPoints r) s = answered r s (fun s => (List.range 16).flatMap fun i => pointBytes i (tgetD (pointsThen s.meter) i {})) id)
    ∧ (∀ r s, accepts 0x0804 planMeterSeal r s = true → s.meter.vmet = true → exec (.meterSeal r) s =
      answered r s (fun _ => []) (modMeter fun m => { m with sealSt := 2, sealEv := true }))
    ∧ (∀ r s, accepts 0x0805 planMeterUnseal r s = true → s.meter.vmet = true → exec (.meterUnseal r) s =
      answered r s (fun _ => []) fun s =>
        let s := modMeter (fun m => { m with sealSt := 1, sec := m.sec + 1, sealEv := true, unsealed := true }) s
        meterAlarm 4 false (meterAlarm 7 (decide (4095 ≤ s.meter.sec)) s))
    ∧ (∀ r s, accepts 0x0806 planMeterRead r s = true → s.meter.vmet = true → (meterRead s.meter (par r 0 4) (par r 4 1)).1 = OK →
      exec (.meterRead r) s = answered r s (fun s => (meterRead s.meter (par r 0 4) (par r 4 1)).2) id)
    ∧ (∀ r s, accepts 0x0807 planMeterAckExport r s = true → s.meter.vmet = true → exec (.meterAckExport r) s =
      answered r s (fun _ => []) (ackExport (par r 0 4)))
    ∧ (∀ r s, accepts 0x0808 planMeterGetLive r s = true → s.meter.vmet = true →
      exec (.meterGetLive r) s = answered r s (fun s => (meterLive s).1)
      (fun s => (meterLive s).2))
    ∧ (∀ r s, accepts 0x0809 planMeterLoudReset r s = true → s.meter.vmet = true → exec (.meterLoudReset r) s =
      answered r s (fun _ => []) (modMeter fun m => { m with restart := m.restart ||| par r 0 2 }))
    ∧ (∀ r s, accepts 0x080A planMeterSetExport r s = true → s.meter.vmet = true → exec (.meterSetExport r) s =
      answered r s (fun _ => []) (modMeter fun m => { m with baud := par r 0 1 }))
    ∧ (∀ r s, accepts 0x080B planMeterFwLoad r s = true → s.meter.vmet = true → exec (.meterFwLoad r) s =
      answered r s (fun _ => []) fun s =>
        let data := r.params.drop 4
        exportAlarm (modMeter (fun m => { setRing 14336 m with image := m.image ++ [(par r 0 4, data)], loading := true }) s))
    ∧ (∀ r s, accepts 0x080C planMeterFwEnd r s = true → s.meter.vmet = true → exec (.meterFwEnd r) s =
      let b := imageBytes s.meter.image (par r 0 4)
      if Config.meterImageGood b then
        answered r s (fun _ => []) (modMeter fun m => { m with image := [(0, b)], loading := false, imgNext := some true })
      else ends (finish (asRun r (dequeue r s)) BAD_PARAM 0xFFFF 0 false false []
        (exportAlarm (modMeter (fun m => { setRing 16384 m with image := [], loading := false }) (dequeue r s)))))
    ∧ (∀ r s, accepts 0x080D planMeterFwRemove r s = true → s.meter.vmet = true → exec (.meterFwRemove r) s =
      answered r s (fun _ => []) (modMeter fun m => { m with imgNext := some false }))

/-- For each operation of classes 0x09 and 0x0A an accepted request answers a next state: the power policy waits for the next period,
Dormant is requested, status is read, and the pair is configured, keyed, read, relinquished or resynchronised. Rests on the model's own
choices in log entries 28, 30 (notes/assumptions). (R560, R580, R586, R594, R600, R602, R604, R668, R671, R679) -/
def Obligations.PowerAndPairOperations : Prop :=
    (∀ r s, accepts 0x0901 planPwrSetPolicy r s = true → exec (.pwrSetPolicy r) s =
      answered r s (fun _ => []) fun s =>
        let fx := bit (par r 0 1) 0
        let lo := par r 2 2
        let hi := par r 4 2
        let v := par r 6 2
        { s with power := { s.power with next := some (fx, lo, hi, v, par r 8 2) } })
    ∧ (∀ r s, accepts 0x0902 planPwrGetPolicy r s = true →
      exec (.pwrGetPolicy r) s = answered r s (fun s =>
          let p := s.power
          toBE 1 (b2n p.fixed) ++ toBE 1 0 ++ toBE 2 p.vmin ++ toBE 2 p.vmax ++ toBE 2 p.vfix ++ toBE 2 p.margin ++ zeroBytes 6) id)
    ∧ (∀ r s, accepts 0x0903 planPwrSetDormant r s = true → exec (.pwrSetDormant r) s =
      answered r s (fun _ => []) fun s =>
        { s with mode := { s.mode with dormant := some (bit (par r 0 1) 0) } })
    ∧ (∀ r s, accepts 0x0904 planPwrGetStatus r s = true →
      exec (.pwrGetStatus r) s = answered r s (fun s => powerStatus (readSensors s)) readSensors)
    ∧ (∀ r s, accepts 0x0A01 planPairConfig r s = true → exec (.pairConfig r) s =
      answered r s (fun _ => []) (modPair fun p => { p with next := some (pairCfgOf r) }))
    ∧ (∀ r s, accepts 0x0A02 planPairSetKey r s = true → exec (.pairSetKey r) s =
      answered r s (fun _ => []) (fun s =>
        let k := wrappedKey s r 0
        (modPair fun p => { p with key := fit 32 (k.getD []) }) s))
    ∧ (∀ r s, accepts 0x0A03 planPairGetStatus r s = true →
      exec (.pairGetStatus r) s = answered r s pairStatus id)
    ∧ (∀ r s, accepts 0x0A04 planPairRelinquish r s = true → exec (.pairRelinquish r) s =
      answered r s (fun _ => []) (relinquish 0))
    ∧ (∀ r s, accepts 0x0A05 planPairResync r s = true → exec (.pairResync r) s =
      answered r s (fun _ => []) fun s =>
        if s.pair.state = 1 then serveJoin s else startJoin (modPair (fun p => { p with failed := 0 }) s))

/-- For each operation of class 0x0B an accepted request answers a next state: status, log and counters are read, records acknowledged,
counters cleared, reactions and the quiet time set, and an injection armed. Rests on the model's own choices in log entries 31
(notes/assumptions). (R611, R613, R614, R624, R627, R629) -/
def Obligations.FaultOperations : Prop :=
    (∀ r s, accepts 0x0B01 planFaultGetStatus r s = true →
      exec (.faultGetStatus r) s = answered r s faultStatus id)
    ∧ (∀ r s, accepts 0x0B02 planFaultGetLog r s = true → exec (.faultGetLog r) s =
      let out := fun (s : State) => (s.flt.log.filter fun x => decide (logPos s.flt (par r 0 4) ≤ x.1)).take 127
      answered r s (fun s => (out s).flatMap fun x => x.2.1) fun s =>
        modFlt (fun f => { f with log := (out s).foldl (fun t x => tset t x.1 (x.2.1, x.2.2.1, true)) f.log }) s)
    ∧ (∀ r s, accepts 0x0B03 planFaultAck r s = true → exec (.faultAck r) s =
      answered r s (fun _ => []) fun s =>
        msixFrom (intStat s) (modFlt (fun f => { f with ack := par r 0 4 }) s))
    ∧ (∀ r s, accepts 0x0B04 planFaultGetCounters r s = true → exec (.faultGetCounters r) s =
      answered r s (fun s =>
        (List.range 256).flatMap fun i =>
          let c := tgetD s.flt.counts (256 * par r 0 1 + i) {}
          toBE 2 c.n ++ toBE 1 (b2n c.sat)) id)
    ∧ (∀ r s, accepts 0x0B05 planFaultClear r s = true → exec (.faultClear r) s =
      answered r s (fun _ => []) (modFlt fun f => { f with counts := [], ovf := {}, recov := {} }))
    ∧ (∀ r s, accepts 0x0B06 planFaultSetReaction r s = true → exec (.faultSetReaction r) s =
      answered r s (fun _ => []) (fun s =>
        let id := par r 0 2
        let v := par r 2 1
        (modFlt fun f => { f with react := if v = defaultReact id then tdel f.react id else tset f.react id v }) s))
    ∧ (∀ r s, accepts 0x0B07 planFaultSetQuiet r s = true → exec (.faultSetQuiet r) s =
      answered r s (fun _ => []) (modFlt fun f => { f with quiet := par r 0 2 }))
    ∧ (∀ r s, accepts 0x0B0F planFaultInject r s = true → exec (.faultInject r) s =
      answered r s (fun _ => []) (modFlt fun f =>
          let x : Inject := { id := par r 0 2, left := par r 2 2, gap := par r 4 4, detail := par r 8 5, allow := bit (par r 13 1) 0 }
          { f with inject := some x }))

/-- For each operation of classes 0x0C and 0x0F an accepted request answers a next state: an image is begun, filled, ended (kept if good,
discarded if not), activated, committed or given up, settings are saved, and the option record is read and written to the copy that boot
did not use. Whether an image is good is uninterpreted. Rests on the model's own choices in log entries 14, 33 (notes/assumptions). (R645,
R652, R653, R654, R655, R657, R660, R661) -/
def Obligations.FirmwareAndOptionOperations : Prop :=
    (∀ r s, accepts 0x0C01 planFwBegin r s = true → exec (.fwBegin r) s =
      answered r s (fun _ => []) fun s =>
        match spareSlot s with
          | some i =>
            let s := memClear (slotBase i) (slotBase (i + 1)) s
            modImage i (fun _ => { state := 2, version := par r 4 4, len := par r 0 4 }) s
          | none => s)
    ∧ (∀ r s, accepts 0x0C02 planFwData r s = true → exec (.fwData r) s =
      answered r s (fun _ => []) (fun s =>
        let data := r.params.drop 4
        let i := (openSlot s).getD 0
        (memWrites (slotBase i + par r 0 4) data) s))
    ∧ (∀ r s, accepts 0x0C03 planFwEnd r s = true → exec (.fwEnd r) s =
      let i := (openSlot s).getD 0
      let b := memReads s (slotBase i) (imageAt s i).len
      if Config.imageGood b then
        answered r s (fun _ => []) (modImage i fun m => { m with state := 1, schema := Config.imageSchema b % 65536 })
      else ends (finish (asRun r (dequeue r s)) BAD_PARAM 0xFFFF 0 false false [] (modImage i (fun _ => {}) (dequeue r s))))
    ∧ (∀ r s, accepts 0x0C04 planFwActivate r s = true → exec (.fwActivate r) s = holding r s fun q u =>
        let t := modBoot (fun b => { b with trial := par r 0 1, tries := 0 }) u
        firmReset (finish q OK 0 0 false (forcedIn q u) [] (setForced (forcedIn q u) t)))
    ∧ (∀ r s, accepts 0x0C05 planFwCommit r s = true → exec (.fwCommit r) s =
      answered r s (fun _ => []) fun s =>
        modBoot (fun b => { b with commit := b.trial, trial := 0xFF }) (saveSettings s))
    ∧ (∀ r s, accepts 0x0C06 planFwFallback r s = true → exec (.fwFallback r) s = holding r s fun q u => fallBack (finish q OK 0 0 false false [] u))
    ∧ (∀ r s, accepts 0x0C07 planFwGetStatus r s = true →
      exec (.fwGetStatus r) s = answered r s firmStatus id)
    ∧ (∀ r s, accepts 0x0C10 planSetSave r s = true → exec (.setSave r) s =
      answered r s (fun _ => []) saveSettings)
    ∧ (∀ r s, accepts 0x0F01 planOptGet r s = true →
      exec (.optGet r) s = answered r s (fun s => optCopy s 0 ++ optCopy s 1 ++ optBytes s.boot.opt) id)
    ∧ (∀ r s, accepts 0x0F02 planOptSet r s = true → exec (.optSet r) s =
      answered r s (fun _ => []) fun s =>
        let g := lmax ((optCopies s).map fun x => x.2.gen)
        let to_ := if s.boot.optDef then 0 else if s.boot.fromA then 1 else 0
        memWrites (mramBase + 64 * to_) (optBytes { optOf r.params with gen := (g + 1) % 2 ^ 32 }) s)

/-- For each operation of class 0x0D an accepted request answers a next state: keys are set, cleared and listed (a key that clears itself
is answered first), the audit log is read, the life cycle is read and advanced, and tamper responses and Local Trust are set. Rests on the
model's own choices in log entries 14, 31 (notes/assumptions). (R559, R560, R561, R562, R563, R564, R569, R571, R574, R576) -/
def Obligations.SecurityOperations : Prop :=
    (∀ r s k, accepts 0x0D01 planCredSet r s = true → wrappedKey (dequeue r s) (asRun r (dequeue r s)) 4 = some k → ownSlot r (par r 0 1) (par r 1 1) = false →
      exec (.credSet r) s = answered r s (fun _ => []) (putKey (par r 0 1) (par r 1 1) (fit 32 k)))
    ∧ (∀ r s, accepts 0x0D02 planCredClear r s = true → ownSlot r (par r 0 1) (par r 1 1) = false →
      exec (.credClear r) s = answered r s (fun _ => []) (dropKeys (· == credIx (par r 0 1) (par r 1 1))))
    ∧ (∀ r s, accepts 0x0D02 planCredClear r s = true → ownSlot r (par r 0 1) (par r 1 1) = true →
      exec (.credClear r) s = holding r s fun q u => dropKeys (· == credIx (par r 0 1) (par r 1 1)) (finish q OK 0 0 false false [] u))
    ∧ (∀ r s, accepts 0x0D03 planCredList r s = true →
      exec (.credList r) s = answered r s credList id)
    ∧ (∀ r s, accepts 0x0D10 planAuditRead r s = true → exec (.auditRead r) s =
      let out := fun (s : State) => (s.sec.log.filter fun x => decide (auditPos s.sec (par r 0 8) ≤ x.1)).take 63
      answered r s (fun s => (out s).flatMap fun x => x.2.bytes) fun s =>
        modSec (fun c => { c with log := (out s).foldl (fun t x => tset t x.1 { bytes := x.2.bytes, returned := true }) c.log }) s)
    ∧ (∀ r s, accepts 0x0D11 planAuditStatus r s = true →
      exec (.auditStatus r) s = answered r s auditStatus id)
    ∧ (∀ r s, accepts 0x0D20 planLcGet r s = true →
      exec (.lcGet r) s = answered r s (fun s => toBE 1 s.sec.lc) id)
    ∧ (∀ r s, accepts 0x0D21 planLcAdvance r s = true → exec (.lcAdvance r) s = holding r s fun q u => enterLc (par r 0 1) (finish q OK 0 0 false false [] u))
    ∧ (∀ r s, accepts 0x0D30 planTamperSet r s = true → exec (.tamperSet r) s =
      answered r s (fun _ => []) (modSec fun c => { c with resp1 := par r 0 1, resp2 := par r 1 1, resp3 := par r 2 1 }))
    ∧ (∀ r s, accepts 0x0D31 planTamperGet r s = true →
      exec (.tamperGet r) s = answered r s (fun s =>
          let c := s.sec
          toBE 1 c.resp1 ++ toBE 1 c.resp2 ++ toBE 1 c.resp3 ++ toBE 1 (bits c.level 1 1) ++ toBE 1 (bits c.level 2 2) ++ toBE 1 (bits c.level 3 3)) id)
    ∧ (∀ r s, accepts 0x0D40 planTrustSet r s = true → exec (.trustSet r) s =
      answered r s (fun _ => []) (fun s =>
        let v := par r 0 1
        (modSec fun c => { c with trust := v }) s))

/-- For each of 25 lane operations of the M slot, in every bundle that executes with a completing L slot: the destination vector receives
the lanes the operation table gives, nothing where the predicate is false, and nothing else changes but what the bundle itself does.
(R138, R139, R142, R143, R146, R147, R148, R149) -/
def Obligations.VectorOperations : Prop :=
  ∀ x ∈ ([
    (0x01, .vadd, fun m g => ozip (· + ·) (gv g m.ma) (gv g m.mb)),
    (0x02, .vadds, fun m g => ozip (fun a b => sat (a.toInt + b.toInt)) (gv g m.ma) (gv g m.mb)),
    (0x03, .vsub, fun m g => ozip (· - ·) (gv g m.ma) (gv g m.mb)),
    (0x04, .vsubs, fun m g => ozip (fun a b => sat (a.toInt - b.toInt)) (gv g m.ma) (gv g m.mb)),
    (0x05, .vnegs, fun m g => omap (fun a => sat (-a.toInt)) (gv g m.ma)),
    (0x06, .vabss, fun m g => omap (fun a => sat (if a.toInt < 0 then -a.toInt else a.toInt)) (gv g m.ma)),
    (0x07, .vmax, fun m g => ozip (fun a b => BitVec.ofInt 32 (max a.toInt b.toInt)) (gv g m.ma) (gv g m.mb)),
    (0x08, .vmin, fun m g => ozip (fun a b => BitVec.ofInt 32 (min a.toInt b.toInt)) (gv g m.ma) (gv g m.mb)),
    (0x09, .vand, fun m g => ozip (· &&& ·) (gv g m.ma) (gv g m.mb)),
    (0x0A, .vor, fun m g => ozip (· ||| ·) (gv g m.ma) (gv g m.mb)),
    (0x0B, .vxor, fun m g => ozip (· ^^^ ·) (gv g m.ma) (gv g m.mb)),
    (0x0C, .vshls, fun m g => omap (fun a => sat (a.toInt * 2 ^ m.mi)) (gv g m.ma)),
    (0x0D, .vshrr, fun m g => omap (fun a => BitVec.ofInt 32 (rnd a.toInt m.mi)) (gv g m.ma)),
    (0x0E, .vshr, fun m g => omap (fun a => a.sshiftRight m.mi) (gv g m.ma)),
    (0x0F, .vsatn, fun m g => omap (fun a => BitVec.ofInt 32 (max (-(2 ^ m.mi - 1)) (min (2 ^ m.mi - 1) a.toInt))) (gv g m.ma)),
    (0x11, .vmulr, fun m g => ozip (fun a b => sat (rnd (a.toInt * b.toInt) m.mi)) (gv g m.ma) (gv g m.mb)),
    (0x1F, .ext, fun m g => omap (fun a => sat (rnd a.toInt m.mi)) (ga g m.ma)),
    (0x2A, .lin, fun m g => omap (fun a => linOf (a.toNat % 65536)) (gv g m.ma)),
    (0x2B, .gmul, fun m g => ozip (fun a b => sat (coefMul a.toInt b)) (gv g m.ma) (gv g m.mb)),
    (0x2D, .log2, fun m g => omap (fun a => log2Of a.toInt) (gv g m.ma)),
    (0x2E, .exp2, fun m g => omap (fun a => exp2Of a.toInt) (gv g m.ma)),
    (0x40, .vbc, fun m g => osame (gs g m.ma)),
    (0x42, .vput, fun m g => ogen fun i => if i = m.mi then gs g m.ma else oget (gv g m.md) i),
    (0x43, .vmov, fun m g => gv g m.ma),
    (0x44, .vrot, fun m g => ogen fun i => oget (gv g m.ma) ((i + m.mi) % 8))
    ] : List (Nat × (Nat → MArgs → LSlot → Instr) × (MArgs → Regs → Oct W32))),
  ∀ e m l s, (let b : Bundle := { m := { op := x.1, x := m }, l := l }
    executes e b s && completes e s (lDoes e b s)) →
    exec (x.2.1 e m l) s =
      let b : Bundle := { m := { op := x.1, x := m }, l := l }
      issues e b (if mActs e b s then { w := [.v m.md (x.2.2 m (regsOf e s))] } else {}) (lDoes e b s) s

/-- For each of 22 operations of the M slot that write a predicate, an accumulator or a scalar, in every bundle that executes with a
completing L slot: the destination receives the value the operation table gives, nothing where the predicate is false. (R139, R140, R142,
R143) -/
def Obligations.ScalarAndAccumulatorOperations : Prop :=
  ∀ x ∈ ([
    (0x10, .vcmp, fun m g => .q m.md (
      let l := olist (ozip (Machine.cond (m.mi % 8)) (gv g m.ma) (gv g m.mb))
      if 8 ≤ m.mi then l.all id else l.any id)),
    (0x18, .vmac, fun m g => .a m.md (ogen fun i =>
      BitVec.ofInt 80 ((oget (ga g m.md) i).toInt + (oget (gv g m.ma) i).toInt * (oget (gv g m.mb) i).toInt))),
    (0x19, .vmsu, fun m g => .a m.md (ogen fun i =>
      BitVec.ofInt 80 ((oget (ga g m.md) i).toInt - (oget (gv g m.ma) i).toInt * (oget (gv g m.mb) i).toInt))),
    (0x1A, .vmul, fun m g => .a m.md (ogen fun i => BitVec.ofInt 80 ((oget (gv g m.ma) i).toInt * (oget (gv g m.mb) i).toInt))),
    (0x1B, .aclr, fun m _ => .a m.md (osame 0)),
    (0x1C, .aadd, fun m g => .a m.md (ozip (· + ·) (ga g m.md) (ga g m.ma))),
    (0x1D, .asum, fun m g => .a m.md { osame (0 : A80) with a0 := (olist (ga g m.ma)).foldl (· + ·) 0 }),
    (0x1E, .vtoa, fun m g => .a m.md (omap (fun a => BitVec.ofInt 80 (a.toInt * 2 ^ m.mi)) (gv g m.ma))),
    (0x2C, .gmac, fun m g => .a m.md (ogen fun i =>
      BitVec.ofInt 80 ((oget (ga g m.md) i).toInt + coefMul (oget (gv g m.ma) i).toInt (oget (gv g m.mb) i)))),
    (0x30, .sadd, fun m g => .s m.md (gs g m.ma + gs g m.mb)),
    (0x31, .ssub, fun m g => .s m.md (gs g m.ma - gs g m.mb)),
    (0x32, .sadds, fun m g => .s m.md (sat ((gs g m.ma).toInt + (gs g m.mb).toInt))),
    (0x33, .smul, fun m g => .s m.md (gs g m.ma * gs g m.mb)),
    (0x34, .sand, fun m g => .s m.md (gs g m.ma &&& gs g m.mb)),
    (0x35, .sor, fun m g => .s m.md (gs g m.ma ||| gs g m.mb)),
    (0x36, .sxor, fun m g => .s m.md (gs g m.ma ^^^ gs g m.mb)),
    (0x37, .sshl, fun m g => .s m.md (gs g m.ma <<< ((gs g m.mb).toNat % 32))),
    (0x38, .sshr, fun m g => .s m.md ((gs g m.ma).sshiftRight ((gs g m.mb).toNat % 32))),
    (0x39, .saddi, fun m g => .s m.md (gs g m.ma + BitVec.ofInt 32 (signed 5 m.mi))),
    (0x3B, .scmp, fun m g => .q m.md (Machine.cond m.mi (gs g m.ma) (gs g m.mb))),
    (0x3C, .qset, fun m _ => .q m.md (m.mi == 1)),
    (0x41, .vget, fun m g => .s m.md (oget (gv g m.ma) m.mi))
    ] : List (Nat × (Nat → MArgs → LSlot → Instr) × (MArgs → Regs → RegW))),
  ∀ e m l s, (let b : Bundle := { m := { op := x.1, x := m }, l := l }
    executes e b s && completes e s (lDoes e b s)) →
    exec (x.2.1 e m l) s =
      let b : Bundle := { m := { op := x.1, x := m }, l := l }
      issues e b (if mActs e b s then { w := [x.2.2 m (regsOf e s)] } else {}) (lDoes e b s) s

/-- NOP only occupies its cycle; VIMM and SMOVI write their immediate; BQ computes one biquad step per lane in its stated order; FIRS adds
the eight products with the words at its pointer and advances the pointer under its modulo rule. FIRS is stated for accesses inside the
state block; OutOfBlockAccesses states the others. (R130, R142, R144, R145, R151) -/
def Obligations.FilterAndImmediateOperations : Prop :=
    (∀ e m l s, executes e { m := { x := m }, l := { x := l } } s →
      exec (.nop e m l) s = issues e { m := { x := m }, l := { x := l } } {} {} s)
    ∧ (∀ e m imm s, executes e { fmt := 1, m := { op := 0x45, x := m }, imm := imm } s →
      exec (.vimm e m imm) s =
        let b : Bundle := { fmt := 1, m := { op := 0x45, x := m }, imm := imm }
        issues e b (if mActs e b s then { w := [.v m.md (osame (BitVec.ofInt 32 (signed 31 imm)))] } else {}) {} s)
    ∧ (∀ e m imm s, executes e { fmt := 1, m := { op := 0x3A, x := m }, imm := imm } s →
      exec (.smovi e m {} (some imm)) s =
        let b : Bundle := { fmt := 1, m := { op := 0x3A, x := m }, imm := imm }
        issues e b (if mActs e b s then { w := [.s m.md (BitVec.ofInt 32 (signed 31 imm))] } else {}) {} s)
    ∧ (∀ e m l s, (let b : Bundle := { m := { op := 0x3A, x := m }, l := l }
        executes e b s && completes e s (lDoes e b s)) →
      exec (.smovi e m l none) s =
        let b : Bundle := { m := { op := 0x3A, x := m }, l := l }
        issues e b (if mActs e b s then { w := [.s m.md (BitVec.ofInt 32 (signed 5 m.mi))] } else {}) (lDoes e b s) s)
    ∧ (∀ e m l s, (let b : Bundle := { m := { op := 0x28, x := m }, l := l }
        executes e b s && completes e s (lDoes e b s)) →
      exec (.bq e m l) s =
        let b : Bundle := { m := { op := 0x28, x := m }, l := l }
        let g := regsOf e s
        let v := fun i => (oget (gv g m.ma) i).toInt
        let c := fun j i => (oget (gv g (m.mb + j)) i).toInt
        let s1 := fun i => (oget (ga g m.mi) i).toInt
        let s2 := fun i => (oget (ga g (m.mi + 1)) i).toInt
        let y := fun i => sat32 (rnd (BitVec.ofInt 80 (c 0 i * v i + s1 i)).toInt 29)
        let w := [.a m.mi (ogen fun i => BitVec.ofInt 80 (c 1 i * v i - c 3 i * y i + s2 i)),
                  .a (m.mi + 1) (ogen fun i => BitVec.ofInt 80 (c 2 i * v i - c 4 i * y i)),
                  .v m.md (ogen fun i => BitVec.ofInt 32 (y i))]
        issues e b (if mActs e b s then { w := w } else {}) (lDoes e b s) s)
    ∧ (∀ e m l s, (let b : Bundle := { m := { op := 0x29, x := m }, l := l }
        executes e b s && completes e s (lDoes e b s) && (!mActs e b s || m.ue.isEmpty
          && (List.range 8).all fun i => within (chainOf e s) (advance (gp (regsOf e s) m.mb) (4 * i)).addr.toNat 4 4
               && !meetsBad (chainOf e s) [] (advance (gp (regsOf e s) m.mb) (4 * i)).addr.toNat 4)) →
      exec (.firs e m l) s =
        let b : Bundle := { m := { op := 0x29, x := m }, l := l }
        let g := regsOf e s
        let p := gp g m.mb
        let w := [.a m.md (ogen fun i => BitVec.ofInt 80 ((oget (ga g m.md) i).toInt
                    + (oget (gv g m.ma) i).toInt * (blkWord (chainOf e s).blk (advance p (4 * i)).addr.toNat).toInt)),
                  .p m.mb (advance p (4 * signed 5 m.mi))]
        issues e b (if mActs e b s then { w := w } else {}) (lDoes e b s) s)

/-- For each load, store and pointer operation and FENCE, in every bundle that executes with a completing M slot: a load writes the words
at its address, a store puts its bytes there, the post-modified forms advance their pointer, and nothing happens where the predicate is
false. Stated for aligned accesses inside the state block; OutOfBlockAccesses states the others. (R129, R150, R151, R152) -/
def Obligations.LoadAndStoreOperations : Prop :=
  ∀ x ∈ ([
    (0x01, .ldv, fun l g c =>
      let a := at_ (gp g l.lp) (32 * signed 13 l.lx)
      (within c a 32 32 && !meetsBad c [] a.toNat 32, { w := [.v l.ld (ogen fun i => blkWord c.blk (a.toNat + 4 * i))] })),
    (0x02, .ldvp, fun l g c =>
      let a := at_ (gp g l.lp) 0
      (within c a 32 32 && !meetsBad c [] a.toNat 32,
        { w := [.v l.ld (ogen fun i => blkWord c.blk (a.toNat + 4 * i)), .p l.lp (advance (gp g l.lp) (32 * signed 13 l.lx))] })),
    (0x03, .stv, fun l g c =>
      let a := at_ (gp g l.lp) (32 * signed 13 l.lx)
      (within c a 32 32, { st := [(a.toNat, (olist (gv g l.ld)).flatMap wordBytes)] })),
    (0x04, .stvp, fun l g c =>
      let a := at_ (gp g l.lp) 0
      (within c a 32 32,
        { w := [.p l.lp (advance (gp g l.lp) (32 * signed 13 l.lx))], st := [(a.toNat, (olist (gv g l.ld)).flatMap wordBytes)] })),
    (0x05, .lds, fun l g c =>
      let a := at_ (gp g l.lp) (4 * signed 13 l.lx)
      (within c a 4 4 && !meetsBad c [] a.toNat 4, { w := [.s l.ld (blkWord c.blk a.toNat)] })),
    (0x06, .ldsp, fun l g c =>
      let a := at_ (gp g l.lp) 0
      (within c a 4 4 && !meetsBad c [] a.toNat 4,
        { w := [.s l.ld (blkWord c.blk a.toNat), .p l.lp (advance (gp g l.lp) (4 * signed 13 l.lx))] })),
    (0x07, .sts, fun l g c =>
      let a := at_ (gp g l.lp) (4 * signed 13 l.lx)
      (within c a 4 4 && !meetsBad c [] a.toNat 4, { st := [(a.toNat, wordBytes (gs g l.ld))] })),
    (0x08, .stsp, fun l g c =>
      let a := at_ (gp g l.lp) 0
      (within c a 4 4 && !meetsBad c [] a.toNat 4,
        { w := [.p l.lp (advance (gp g l.lp) (4 * signed 13 l.lx))], st := [(a.toNat, wordBytes (gs g l.ld))] })),
    (0x09, .lda, fun l g c =>
      let a := at_ (gp g l.lp) (32 * signed 13 l.lx)
      (within c a 128 32 && (List.range 8).all (fun i => !meetsBad c [] (a.toNat + 16 * i) 16) && !meetsBad c [] a.toNat 128,
        { w := [.a l.ld (ogen fun i => BitVec.ofNat 80 (ofLE (rdCells zeroAt c.blk (a.toNat + 16 * i) 16)))] })),
    (0x0A, .sta, fun l g c =>
      let a := at_ (gp g l.lp) (32 * signed 13 l.lx)
      (within c a 128 32, { st := [(a.toNat, (olist (ga g l.ld)).flatMap fun x => toLE 16 (wrap 128 x.toInt))] })),
    (0x0B, .padd, fun l g _ => (true, { w := [.p l.lp (advance (gp g l.lp) (gs g l.ld).toInt)] })),
    (0x0E, .pget, fun l g _ => (true, { w := [.s l.ld ((gp g l.lp).addr.setWidth 32)] })),
    (0x0F, .pput, fun l g _ => (true, { w := [.p l.lp { gp g l.lp with addr := (gs g l.ld).setWidth 18 }] })),
    (0x25, .fence, fun _ _ _ => (true, {}))
    ] : List (Nat × (Nat → LArgs → MSlot → Instr) × (LArgs → Regs → Chain → Bool × Eff))),
  ∀ e l m s, (let b : Bundle := { m := m, l := { op := x.1, x := l } }
    executes e b s && completes e s (mDoes e b s) && (!lActs e b s || l.ue.isEmpty && (x.2.2 l (regsOf e s) (chainOf e s)).1)) →
    exec (x.2.1 e l m) s =
      let b : Bundle := { m := m, l := { op := x.1, x := l } }
      issues e b (mDoes e b s) (if lActs e b s then (x.2.2 l (regsOf e s) (chainOf e s)).2 else {}) s

/-- For each of the sixteen window forms: a read gives the samples of the bound windows or taps, zero for a position below zero; a write
puts each lane at its binding and position, 0x8000_0000 written as 0x8000_0001 and any lane outside the bindings or the tick left out. A
read whose data has not arrived waits instead. Rests on the model's own choices in log entries 13 (notes/assumptions). (R141, R150, R154,
R155, R156, R157, R158, R159) -/
def Obligations.WindowOperations : Prop :=
  let pos := fun (l : LArgs) (g : Regs) (indexed : Bool) => (l.lx % 32 : Nat) + if indexed then (gs g l.lp).toInt else 0
  let read := fun (major : Bool) (k : Int) (l : LArgs) (sample : Nat → Nat → W32) =>
    ogen fun (i : Nat) =>
      let p : Int := if major then k + i else k
      if p < 0 then 0 else sample (if major then l.lx / 32 else l.lx / 32 + i) p.toNat
  let write := fun (major line : Bool) (k : Int) (l : LArgs) (v : Oct W32) (count n : Nat) =>
    (List.range 8).filterMap fun (i : Nat) =>
      let p : Int := if major then k + i else k
      let j := if major then l.lx / 32 else l.lx / 32 + i
      if j < count ∧ 0 ≤ p ∧ p < n then
        some (line, j, p.toNat, if oget v i = 0x80000000#32 then 0x80000001#32 else oget v i) else none
  (∀ x ∈ ([(0x10, .wrdc, false, false), (0x11, .wrds, true, false), (0x12, .wrdcx, false, true), (0x13, .wrdsx, true, true)]
      : List (Nat × (Nat → LArgs → MSlot → Instr) × Bool × Bool)),
    ∀ e l m s, (let b : Bundle := { m := m, l := { op := x.1, x := l } }
      executes e b s && completes e s (mDoes e b s) && !(lActs e b s && l.late)) →
    exec (x.2.1 e l m) s =
      let b : Bundle := { m := m, l := { op := x.1, x := l } }
      issues e b (mDoes e b s) (if lActs e b s then
        { w := [.v l.ld (read x.2.2.1 (pos l (regsOf e s) x.2.2.2) l (inSample (takeEdges e s) (chainOf e s)))] }
        else {}) s)
  ∧ (∀ x ∈ ([(0x18, .trdc, false, false), (0x19, .trds, true, false), (0x1A, .trdcx, false, true), (0x1B, .trdsx, true, true)]
      : List (Nat × (Nat → LArgs → MSlot → Instr) × Bool × Bool)),
    ∀ e l m s, (let b : Bundle := { m := m, l := { op := x.1, x := l } }
      executes e b s && completes e s (mDoes e b s) && !(lActs e b s && l.late)) →
    exec (x.2.1 e l m) s =
      let b : Bundle := { m := m, l := { op := x.1, x := l } }
      issues e b (mDoes e b s) (if lActs e b s then
        { w := [.v l.ld (read x.2.2.1 (pos l (regsOf e s) x.2.2.2) l (tapSample (takeEdges e s) (chainOf e s)))] }
        else {}) s)
  ∧ (∀ x ∈ ([(0x14, .wwrc, false, false), (0x15, .wwrs, true, false), (0x16, .wwrcx, false, true), (0x17, .wwrsx, true, true)]
      : List (Nat × (Nat → LArgs → MSlot → Instr) × Bool × Bool)),
    ∀ e l m s, (let b : Bundle := { m := m, l := { op := x.1, x := l } }
      executes e b s && completes e s (mDoes e b s)) →
    exec (x.2.1 e l m) s =
      let b : Bundle := { m := m, l := { op := x.1, x := l } }
      issues e b (mDoes e b s) (if lActs e b s then
        { win := write x.2.2.1 false (pos l (regsOf e s) x.2.2.2) l (gv (regsOf e s) l.ld) (chainOf e s).desc.outs.length (tickN s) }
        else {}) s)
  ∧ (∀ x ∈ ([(0x1C, .dwrc, false, false), (0x1D, .dwrs, true, false), (0x1E, .dwrcx, false, true), (0x1F, .dwrsx, true, true)]
      : List (Nat × (Nat → LArgs → MSlot → Instr) × Bool × Bool)),
    ∀ e l m s, (let b : Bundle := { m := m, l := { op := x.1, x := l } }
      executes e b s && completes e s (mDoes e b s)) →
    exec (x.2.1 e l m) s =
      let b : Bundle := { m := m, l := { op := x.1, x := l } }
      issues e b (mDoes e b s) (if lActs e b s then
        { win := write x.2.2.1 true (pos l (regsOf e s) x.2.2.2) l (gv (regsOf e s) l.ld) (chainOf e s).desc.lines.length (tickN s) }
        else {}) s)

/-- PSET and PLEN set a pointer, BR and BRL branch, LOOP and LOOPI begin a legal loop, TEND ends the tick, SYSRD reads the tick size, the
rate or the tick number, a loop counts out, and an engine that waits for window data or a block goes on when it arrives. (R131, R150,
R151, R153, R158, R168, R172) -/
def Obligations.ControlOperations : Prop :=
    (∀ e l imm s, executes e { fmt := 2, l := { op := 0x0C, x := l }, imm := imm } s → exec (.pset e l imm) s =
      let b : Bundle := { fmt := 2, l := { op := 0x0C, x := l }, imm := imm }
      issues e b {} (if lActs e b s then
        { w := [.p l.lp { gp (regsOf e s) l.lp with addr := BitVec.ofNat 18 imm, base := BitVec.ofNat 18 imm }] } else {}) s)
    ∧ (∀ e l imm s, executes e { fmt := 2, l := { op := 0x0D, x := l }, imm := imm } s → exec (.plen e l imm) s =
      let b : Bundle := { fmt := 2, l := { op := 0x0D, x := l }, imm := imm }
      issues e b {} (if lActs e b s then { w := [.p l.lp { gp (regsOf e s) l.lp with len := BitVec.ofNat 18 imm }] } else {}) s)
    ∧ (∀ e l m s, (let b : Bundle := { m := m, l := { op := 0x20, x := l } }
        executes e b s && completes e s (mDoes e b s)) → 0 ≤ ((engAt (takeEdges e s) e).pc : Int) + 8 * signed 13 l.lx →
      exec (.br e l m) s =
        let b : Bundle := { m := m, l := { op := 0x20, x := l } }
        issues e b (mDoes e b s) (if lActs e b s then
          { go := some (.branch (((engAt (takeEdges e s) e).pc : Int) + 8 * signed 13 l.lx).toNat), plus := 1 } else {}) s)
    ∧ (∀ e l imm s, executes e { fmt := 2, l := { op := 0x21, x := l }, imm := imm } s → exec (.brl e l imm) s =
      let b : Bundle := { fmt := 2, l := { op := 0x21, x := l }, imm := imm }
      issues e b {} (if lActs e b s then { go := some (.branch (8 * (imm % 8192))) } else {}) s)
    ∧ (∀ e l m s, (let b : Bundle := { m := m, l := { op := 0x22, x := l } }
        executes e b s && loopOk (engAt (takeEdges e s) e) l.ld l.lx && completes e s (mDoes e b s)) → exec (.loop e l m) s =
      let b : Bundle := { m := m, l := { op := 0x22, x := l } }
      issues e b (mDoes e b s) { go := some (.loop_ l.ld ((gs (regsOf e s) l.lp).toNat % 65536) l.lx) } s)
    ∧ (∀ e l imm s, executes e { fmt := 2, l := { op := 0x23, x := l }, imm := imm } s → loopOk (engAt (takeEdges e s) e) l.ld l.lx →
      exec (.loopi e l imm) s =
      issues e { fmt := 2, l := { op := 0x23, x := l }, imm := imm } {} { go := some (.loop_ l.ld (imm % 65536) l.lx) } s)
    ∧ (∀ e l m s, (let b : Bundle := { m := m, l := { op := 0x24, x := l } }
        executes e b s && completes e s (mDoes e b s)) → exec (.tend e l m) s =
      let b : Bundle := { m := m, l := { op := 0x24, x := l } }
      issues e b (mDoes e b s) { go := some .tend } s)
    ∧ (∀ e l m s k, (let b : Bundle := { m := m, l := { op := 0x27, x := l } }
        executes e b s && completes e s (mDoes e b s)) → stageTick (takeEdges e s) (chainOf e s).desc.stage = some k →
      exec (.sysrd e l m) s =
        let b : Bundle := { m := m, l := { op := 0x27, x := l } }
        let v := if l.lx = 0 then tickN s else if l.lx = 1 then rate s else if l.lx = 2 then k % 2 ^ 32 else k / 2 ^ 32 % 2 ^ 16
        issues e b (mDoes e b s) (if lActs e b s then { w := [.s l.ld (BitVec.ofNat 32 v)] } else {}) s)
    ∧ (∀ e x rest s, engRuns s e → (engAt s e).loops = x :: rest → (engAt s e).pc = x.stop → x.left ≤ 1 →
      exec (.loopCountExpiry e) s = ends (takeEdges e s))
    ∧ (∀ e b s, (engAt s e).stalled = some b → exec (.windowDataArrival e) s =
      ends (runBundle e b (mSem b.m.op) (lSem b.l.op) (modEng e (fun g => { g with stalled := none }) s)))
    ∧ (∀ e s, blockMayArrive s e → exec (.swapBlockArrival e) s = ends (modEng e (fun g => { g with swapWait := false }) s))

/-- Each step of bring-up, when the node is at that step, does what its step does and goes on to the next; training that fails raises
0x0702, a clock wait that runs out starts free-running, a trial is marked healthy after its time without a Severe fault, and a Plane reset
begins and ends, with a Shadow joining anew after it. Rests on the model's own choices in log entries 2, 33 (notes/assumptions). (R46,
R307, R308, R455, R474, R609, R635, R640, R642, R644, R648, R651) -/
def Obligations.BringUpEvents : Prop :=
    (∀ s, bringingUp s && s.boot.step == 1 && !s.boot.pinLow && !s.boot.hot → s.boot.depth = depthCold →
      exec .crystalStartupDone s = ends (bringUpGate (modBoot (fun b => { b with step := 2 }) s)))
    ∧ (∀ s, bringingUp s && s.boot.step == 1 && !s.boot.pinLow && !s.boot.hot → s.boot.depth ≠ depthCold → s.win.capsOn →
      exec .crystalStartupDone s = ends (bringUpGate (sampleStraps s)))
    ∧ (∀ s, atStep s 2 → exec .optionLoadDone s = ends (sampleStraps (loadOptions s)))
    ∧ (∀ s, atStep s 4 → exec .pllLock s = ends (modBoot (fun b => { b with step := 5 })
        { s with clock := { s.clock with pll := true }, mem := { s.mem with zeroing := s.boot.trainZ } }))
    ∧ (∀ s, atStep s 5 → exec (.dramTrainingDone true) s = ends (dramReady s))
    ∧ (∀ s, atStep s 5 → exec (.dramTrainingDone false) s = ends (raise 0x0702 0 { s with mem := { s.mem with zeroing := false } }))
    ∧ (∀ s, atStep s 6 → exec .bootRomDone s = ends (bootRom s))
    ∧ (∀ s, atStep s 7 → exec .settingsLoaded s = ends (loadSettings s))
    ∧ (∀ s, atStep s 8 → clockReady s → exec .dataPlaneStart s = ends (startNode s))
    ∧ (∀ s, atStep s 8 → clockReady s = false → exec .dataPlaneStart s = ends (modBoot (fun b => { b with waiting := true }) s))
    ∧ (∀ s, atStep s 8 → s.boot.waiting → clockReady s = false → exec .clkModeTimeout s =
        ends (startNode (setSel 0xF { s with clock := { s.clock with
          unset := true, state := 0, w := s.clock.trim, hoFrom := none, err := none, within := none } })))
    ∧ (∀ s, trialRuns s → 4 ≤ s.mode.mode → s.mode.limp = false → s.boot.badSev = false →
        exec .trialHealthy s = ends (modBoot (fun b => { b with healthy := true, tries := 0 }) s))
    ∧ (∀ s, trialRuns s → 4 ≤ s.mode.mode → s.mode.limp = false → s.boot.badSev →
        exec .trialHealthy s = ends (modBoot (fun b => { b with badSev := false }) s))
    ∧ (∀ s, s.boot.planeR = false → 4 ≤ s.mode.mode → exec .planeReset s = ends (faultReset 0x0103 0 depthPlane 0x200 s))
    ∧ (∀ s, s.boot.planeR → exec .planeRestart s =
        let u := modBoot (fun b => { b with planeR := false })
          (let t := startPlane (cal s + 1) s
           { t with fab := { t.fab with isolated := false }, pair := { t.pair with actOut := t.mode.mode == 6 } })
        ends (if u.mode.mode = 7 ∧ (u.pair.state = 2 ∨ u.pair.state = 3 ∨ u.pair.state = 4) ∧ u.pair.paused = false then startJoin u else u))
    ∧ (∀ s, atStep s 8 → s.boot.waiting → clockReady s → exec .clkModeTimeout s = ends (startNode s))

/-- Stage writes, drive completions and errors, drive failure, timeout, return, detection and health, read-ahead and mounting each change
the volume, the drives and the segments as their rule says; a stage write of one tick in the open segment sends its bytes to the place of
that tick. Rests on the model's own choices in log entries 3, 29, 60 (notes/assumptions). (R476, R478, R480, R486, R488, R493, R498, R499,
R501, R502, R506) -/
def Obligations.CaptureEvents : Prop :=
    (∀ k s, thas s.cap.groups k && !s.boot.halted → exec (.stageWrite k) s = ends (sendTicks k 20 64 s))
    ∧ (∀ k s c ws q y, thas s.cap.groups k && !s.boot.halted → (groupAt s k).staged[(groupAt s k).sent]? = some (c, ws) →
        (groupAt s k).staged.length = (groupAt s k).sent + 1 → (groupAt s k).since.getD (groupAt s k).sent 0 + 20000000 ≤ s.clock.now →
        (groupAt s k).seg = some q → (groupAt s k).mseg = none → segAt s q = some y → segFits (groupAt s k) y (groupAt s k).sent c →
        exec (.stageWrite k) s = ends (modGroup k (fun g => { g with sent := g.sent + 1 })
          (nvmeFua q.1 (dataOff s q (tickBytes (groupAt s k)) (groupAt s k).sent) (tickData (groupAt s k) ws) s)))
    ∧ (∀ k d s, writing s k d → exec (.driveWriteComplete k d false) s = ends (writeDone k d s))
    ∧ (∀ k d s, writing s k d → exec (.driveWriteComplete k d true) s =
        ends (leaveGroup d k (modDrive d (fun v => { v with media := inc16 v.media }) s)))
    ∧ (∀ d s, hasCap s → d < 4 → exec (.driveFail d) s = ends (driveFail d s))
    ∧ (∀ d s, hasCap s → d < 4 → (driveAt s d).state ≠ 0 → (driveAt s d).state ≠ 4 → exec (.driveCommandTimeout d) s =
        ends (driveFail d (modDrive d (fun v => { v with timeouts := inc16 v.timeouts }) s)))
    ∧ (∀ d s, hasCap s → d < 4 → (driveAt s d).state = 4 → mounted s = false → exec (.driveReturn d) s =
        let t := modDrive d (fun v => { v with state := 1 }) s
        ends { t with cap := { t.cap with vol := preMount t.cap.drives } })
    ∧ (∀ d s, hasCap s → d < 4 → (driveAt s d).state = 4 → mounted s → isMember s d → exec (.driveReturn d) s =
        let t := modDrive d (fun v => { v with state := 2, clean := v.clean && !s.cap.opened }) s
        ends { t with cap := { t.cap with
          vol := if allMembers t then 3 else 4,
          segs := t.cap.segs.map fun g => if g.drive = d ∧ g.st = 1 then { g with st := 2 } else g } })
    ∧ (∀ d s, hasCap s → d < 4 → (driveAt s d).state = 4 → mounted s → isMember s d = false →
        exec (.driveReturn d) s = ends (modDrive d (fun v => { v with state := 3 }) s))
    ∧ (∀ i s g, unfilled s i = some g → exec (.readaheadFilled i) s =
        ends { s with cap := { s.cap with replays := tmod s.cap.replays i {} fun x => { x with filled := x.filled ++ [reqKey g.req] } } })
    ∧ (∀ s, hasCap s → 4 ≤ s.mode.mode → mounted s = false → exec .volumeMount s = ends (mountVolume s))
    ∧ (∀ d link bytes wear written block rev a b map s, hasCap s → d < 4 → ((driveAt s d).state = 0 ∨ (driveAt s d).state = 4) →
        exec (.nvmeDriveDetected d link bytes wear written block rev a b map) s =
        let v := newDrive link bytes wear written (driveFits bytes block rev) (superOf a b) (if mounted s then 3 else 1)
        let t := remount d (addDrive d v map s)
        ends (if 90 ≤ wear then raise 0x0C06 d t else t))
    ∧ (∀ d wear written warn s, hasCap s → d < 4 → (driveAt s d).state ≠ 0 → exec (.driveHealthReport d wear written warn) s =
        let t := modDrive d (fun v => { v with wear := min 255 wear, written := written, warn := warn }) s
        ends (if (driveAt s d).wear < 90 ∧ 90 ≤ wear then raise 0x0C06 d t else t))

/-- Oscillator faults, missing edges (also of a candidate without lock), frequency checks, qualification, servo measurements, lock,
holdover limits, input time stamps and output pulses, and the messages and timers of the precision time protocol, each change the clock as
their rule says. A time stamp carries the correction and the port's asymmetry; the law by which the servo steers is open. Rests on the
model's own choices in log entries 5, 17, 27, 68 (notes/assumptions). (R431, R432, R433, R434, R435, R442, R444, R447, R448, R451, R459,
R464) -/
def Obligations.ClockEvents : Prop :=
    (∀ s, s.clock.pll → exec .xoFault s = ends (drvClockLost (raise 0x0B01 0 (setHist 0x80
        (modPair (fun p => { p with actOut := false }) { s with clock := { s.clock with pll := false } })))))
    ∧ (∀ c first s, candOn s c → edgesOut s c = false → exec (.missingEdge c first) s =
        let t := modCand c (fun k => { dueEdges (rate s) 1 k with missed := if first then 1 else k.missed + 1, good := 0 }) s
        ends (if (candAt t c).cfg.missE ≤ (candAt t c).missed then rejectCand c t else t))
    ∧ (∀ c first s, candOn s c → edgesOut s c → exec (.missingEdge c first) s =
        let t := modCand c (fun k => { k with came := k.came + 1 }) s
        let t := modCand c (fun k => { dueEdges (rate s) 1 k with missed := k.missed + 1, good := 0 }) t
        ends (if (candAt t c).cfg.missE ≤ (candAt t c).missed then rejectCand c t else t))
    ∧ (∀ c ppb s, candOn s c → edgesOut s c = false → exec (.freqMonitorUpdate c ppb) s =
        let k := (candAt s c).cfg
        let t := modCand c (fun x => { x with ppb := some ppb, good := if ppb.natAbs ≤ 1000 * k.accPpm then x.good + 1 else 0 }) s
        ends (if 1000 * k.rejPpm < ppb.natAbs then rejectCand c t else t))
    ∧ (∀ c s, candOn s c → edgesOut s c = false → (candAt s c).qual = false → 10 * (candAt s c).cfg.accS ≤ (candAt s c).good →
        exec (.candidateQualified c) s = ends (reselect (modCand c (fun k => { k with qual := true }) s)))
    ∧ (∀ err steered s, s.clock.sel < 13 → s.clock.state = 1 ∨ s.clock.state = 2 → s.clock.estab = false → s.clock.sel = 8 →
        s.clock.stepped = false → exec (.servoMeasurement err steered) s = ends (stepToMaster err s))
    ∧ (∀ err steered s, s.clock.sel < 13 → s.clock.state = 1 ∨ s.clock.state = 2 → s.clock.estab → jumps s err steered = false →
        videoAligned s → (candAt s s.clock.sel).frame = none ∨ (candAt s s.clock.sel).frame = some 0 →
        exec (.servoMeasurement err steered) s =
        ends (steer (modCand s.clock.sel (fun k => { k with frame := some 0 }) { s with clock := { s.clock with
          err := some err, fresh := false, phase := some err
          within := if err.natAbs ≤ 100 then some (s.clock.within.getD s.clock.now) else none
          state := if s.clock.state = 2 ∧ 1000 < err.natAbs then 1 else s.clock.state } })))
    ∧ (∀ err steered n s, videoAligned s → (candAt s s.clock.sel).frame = some (n + 1) → exec (.servoMeasurement err steered) s = ends s)
    ∧ (∀ err steered s, s.clock.sel < 13 → s.clock.state = 1 ∨ s.clock.state = 2 → s.clock.estab → jumps s err steered = false →
        videoAligned s = false → exec (.servoMeasurement err steered) s =
        ends (steer { s with clock := { s.clock with
          err := some err, fresh := false,
          within := if errWithin s 100 10 err then some (s.clock.within.getD s.clock.now) else none,
          phase := if phaseAligned s s.clock.sel then some err else s.clock.phase,
          state := if s.clock.state = 2 ∧ errWithin s 1000 100 err = false then 1 else s.clock.state } }))
    ∧ (∀ s since, s.clock.state = 1 → s.clock.within = some since → since + 1000000000 ≤ s.clock.now →
        exec .servoLock s = ends (modCand s.clock.sel (fun k => { k with locked := true }) { s with clock := { s.clock with
          state := 2, wSum := 0, wNs := 0 } }))
    ∧ (∀ (ns : Nat) s, s.clock.state = 2 → s.clock.wNs + (ns : Int) = 1000000000 → exec (.wMeanRecord ns) s =
        ends { s with clock := { s.clock with
          means := ((s.clock.now + ns, nearDiv (s.clock.wSum + s.clock.w * ns) 1000000000) :: s.clock.means).take 80
          wSum := -(s.clock.w * ns), wNs := -(ns : Int) } })
    ∧ (∀ s, s.clock.state = 3 → s.clock.hoDone = false → s.clock.hoLim ≤ holdoverX s → exec .hoLimitReached s =
        ends (raise 0x0B02 0 (setHist 0x8000 { s with clock := { s.clock with hoDone := true } })))
    ∧ (∀ i t s, i < 4 → s.clock.pll → exec (.refinTimestamp i t) s =
        let u := modCand i (fun k => { dueEdges (rate s) 1 k with edges := k.edges + 1, missed := 0 })
          { s with clock := { s.clock with
            pulses := tmap (pulseSees i t) s.clock.pulses, pulseNew := tmap (fun x => (x.1, pulseSees i t x.2)) s.clock.pulseNew } }
        let k := candAt s i
        ends (if bit k.cfg.flags 3 && (k.edges + 1) % k.cfg.stampDiv == 0 then
            (if k.stamps.length < 16 then modCand i (fun k => { k with stamps := k.stamps ++ [t] }) u
             else setHist 0x200 (modCand i (fun k => { k with drops := inc16 k.drops }) u))
          else u))
    ∧ (∀ pulse n t s, thas s.clock.pulseNew pulse = false → pulseTime s 0 (tgetD s.clock.pulses pulse {}) n = some t →
        exec (.pulseEdge pulse n) s =
        let p := tgetD s.clock.pulses pulse {}
        ends (emit {
          kind := .pulse, a := pulse, b := t.toNat,
          c := if bit p.flags 2 && n % 5 == 0 then 2 * p.width else p.width,
          bytes := toBE 1 (b2n (bit p.flags 1)) } s))
    ∧ (∀ port t msg s, s.clock.ptp.state = 4 → port = ptpByte s 1 → byteAt msg.body 0 % 16 = 1 → ptpTaken s msg →
        exec (.ptpEventMessage port t [] msg) s =
        let u := countPtp port s
        ends (sendPtpCorr (beS msg.body 8 8) 9 (ptpSeq msg.body) (ptpInterval u 8)
          (timeBytes (ptpTime u port t) ++ toBE 10 (ptpSender msg.body)) u))
    ∧ (∀ port t o c msg s, port < 4 → linkUp s port → o < 4 → o ≠ port → linkUp s o → port ≠ ptpByte s 1 ∨ ptpTaken s msg = false →
        exec (.ptpEventMessage port t [(o, c)] msg) s = ends (egress o {
          kind := .ptp, a := byteAt msg.body 0 % 16, b := o, c := b2n msg.udp,
          bytes := msg.body.take 8 ++ toBES 8 (beS msg.body 8 8 + ((c : Int) + (linkCfg s o).asym - (linkCfg s port).asym) * 65536)
            ++ msg.body.drop 16 } (countFrame port true s)))
    ∧ (∀ t msg s, ptpTaken s msg → s.clock.ptp.state = 2 ∨ s.clock.ptp.state = 3 → ptpSender msg.body = s.clock.ptp.parent →
        exec (.ptpSync t msg) s =
        let u := countPtp (ptpByte s 1) s
        let e := ptpTime u (ptpByte u 1) t
        let v := modCand 8 (fun k => { k with missed := 0, edges := k.edges + 1 }) u
        ends (if bit (byteAt msg.body 6) 1 then modPtp (fun p => { p with twoStep := some (ptpSeq msg.body, e, ptpCorr msg.body) }) v
          else modPtp (fun p => { p with
            t1 := ptpStamp msg.body, t2 := e, corr := ptpCorr msg.body, twoStep := none
            offset := (e : Int) - ptpStamp msg.body - ptpCorr msg.body - p.delay }) v))
    ∧ (∀ s, 1 ≤ s.clock.ptp.state → s.clock.ptp.state ≤ 3 → exec .ptpAnnounceTimeout s =
        ends (modPtp (fun p => { p with best := [], parent := 0, twoStep := none, delay := 0 })
          (rejectCand 8 (if bit (ptpByte s 2) 0 then becomeMaster s else ptpState 1 s))))
    ∧ (∀ msg s, ptpTaken s msg → byteAt msg.body 0 % 16 = 11 →
        exec (.ptpGeneralMessage msg) s = ends (announcePtp msg.body (countPtp (ptpByte s 1) s)))
    ∧ (∀ msg t2 c s, ptpTaken s msg → byteAt msg.body 0 % 16 = 8 → ptpSender msg.body = s.clock.ptp.parent →
        s.clock.ptp.twoStep = some (ptpSeq msg.body, t2, c) →
        exec (.ptpGeneralMessage msg) s =
        ends (modPtp (fun p => { p with
          t1 := ptpStamp msg.body, t2 := t2, corr := c + ptpCorr msg.body, twoStep := none
          offset := (t2 : Int) - ptpStamp msg.body - (c + ptpCorr msg.body) - p.delay }) (countPtp (ptpByte s 1) s)))
    ∧ (∀ msg s, ptpTaken s msg → byteAt msg.body 0 % 16 = 9 → s.clock.ptp.state = 2 ∨ s.clock.ptp.state = 3 →
        ptpSender msg.body = s.clock.ptp.parent → be msg.body 44 10 = ptpOwn s → exec (.ptpGeneralMessage msg) s =
        ends (ptpState 3 (modPtp (fun p => { p with delay :=
          ((s.clock.ptp.t2 : Int) - s.clock.ptp.t1 - s.clock.ptp.corr + ((ptpStamp msg.body : Int) - ptpCorr msg.body - s.clock.ptp.t3)) / 2 })
          (countPtp (ptpByte s 1) s))))
    ∧ (∀ t s, mgRuns s → s.clock.ptp.state = 4 → exec (.ptpIntervalTimer 0 t) s =
        ends (modPtp (fun p => { p with seq := (s.clock.ptp.seq + 1) % 65536 })
          (sendPtp 11 s.clock.ptp.seq (ptpInterval s 6) (timeBytes t ++ zeroBytes 3 ++ ptpOwnSet s ++ zeroBytes 2 ++ toBE 1 0xA0) s)))
    ∧ (∀ t s, mgRuns s → s.clock.ptp.state = 4 → (ptpByte s 1 = 4 ∨ bit (ptpByte s 2) 2 = false) → exec (.ptpIntervalTimer 1 t) s =
        ends (modPtp (fun p => { p with seq := (s.clock.ptp.seq + 1) % 65536 })
          (sendPtp 8 s.clock.ptp.seq (ptpInterval s 7) (timeBytes (ptpTime s (ptpByte s 1) t))
            (sendPtp 0 s.clock.ptp.seq (ptpInterval s 7) (zeroBytes 10) s))))
    ∧ (∀ t s, mgRuns s → s.clock.ptp.state = 2 ∨ s.clock.ptp.state = 3 → exec (.ptpIntervalTimer 2 t) s =
        ends (modPtp (fun p => { p with seq := (s.clock.ptp.seq + 1) % 65536 })
          (modPtp (fun p => { p with t3 := ptpTime s (ptpByte s 1) t }) (sendPtp 1 s.clock.ptp.seq 0x7F (zeroBytes 10) s))))
    ∧ (∀ pulse n t x s, tget s.clock.pulseNew pulse = some x → pulseTime s x.1 x.2 n = some t →
        exec (.pulseEdge pulse n) s =
        ends (emit {
          kind := .pulse, a := pulse, b := t.toNat,
          c := if bit x.2.flags 2 && n % 5 == 0 then 2 * x.2.width else x.2.width,
          bytes := toBE 1 (b2n (bit x.2.flags 1)) }
          { s with clock := { s.clock with pulses := tset s.clock.pulses pulse x.2, pulseNew := tdel s.clock.pulseNew pulse } }))

/-- An access, atomic or locked sequence of a master that nothing holds up is granted at once: a read returns the bytes that stand there,
a write puts its lanes, an atomic returns the old word and stores the new one, a locked sequence takes the lock of its target, each with
the response OKAY. The end of a lock by its limit frees it; the home port takes only what its rule allows, and answers a misaligned atomic
DENIED with fault 0x0502; scrubs mark and count what they find; idle time-outs, wakes and zeroing change the banks, and the accesses that
waited for a bank are served when it is On. Each register write, by the endpoint window, or granted to a master that may write, does what
that register does and answers OKAY, while a master that may not write gets DENIED and fault 0x0502. Rests on the model's own choices in
log entries 7, 12, 13, 19, 47 (notes/assumptions). (R268, R270, R271, R277, R282, R284, R287, R289, R292, R293, R295, R540) -/
def Obligations.FabricAndMemoryEvents : Prop :=
    (∀ x s, (let y := { x with kind := 0, home := false }; granted s y && cleanAt s y) →
        ∃ round, exec (.fabricRead x) s =
          ends (emit (okay { x with kind := 0 } (memReads s (physAddr s x.addr) (64 * x.n))) (turn s x round)))
    ∧ (∀ x s, (let y := { x with kind := 1, home := false }; granted s y && cleanAt s y) →
        ∃ round, exec (.fabricWrite x) s =
          ends (emit (okay { x with kind := 1 } []) (laneWrite { x with kind := 1 } (physAddr s x.addr) (turn s x round))))
    ∧ (∀ x s, (let y := { x with kind := 2, home := false }; granted s y && cleanAt s y) →
        ∃ round, exec (.atomicAdd x) s =
          let old := memReads s (physAddr s x.addr) x.n
          ends (emit (okay { x with kind := 2 } old)
            (memWrites (physAddr s x.addr) (atomicNew { x with kind := 2 } old) (turn s x round))))
    ∧ (∀ x s, (let y := { x with kind := 3, home := false }; granted s y && cleanAt s y) →
        ∃ round, exec (.atomicSwap x) s =
          let old := memReads s (physAddr s x.addr) x.n
          ends (emit (okay { x with kind := 3 } old)
            (memWrites (physAddr s x.addr) (atomicNew { x with kind := 3 } old) (turn s x round))))
    ∧ (∀ m a s, granted s { kind := 4, m := m, addr := a } →
        ∃ round, exec (.lockedSequence m a) s =
          let x : Access := { kind := 4, m := m, addr := a }
          let u := turn s x round
          let other := fun (l : Lock) => !(l.target == targetOf s a && l.master == m)
          ends (emit (okay x []) { u with fab := { u.fab with
            locks := s.fab.locks.filter other ++ [{ target := targetOf s a, master := m }], ended := s.fab.ended.filter other } }))
    ∧ (∀ t m s, s.fab.waiting = [] → exec (.lockLimitExpiry t m) s =
        let mine := fun (l : Lock) => l.target == t && l.master == m
        ends { s with fab := { s.fab with
          locks := s.fab.locks.filter fun l => !mine l, ended := s.fab.ended ++ s.fab.locks.filter mine } })
    ∧ (∀ x s, homeOk s x → x.kind < 2 ∨ ((x.kind = 2 ∨ x.kind = 3) ∧ (x.n = 4 ∨ x.n = 8) ∧ x.addr % x.n = 0) → s.fab.isolated = false →
        exec (.homePortAccess x) s = ends (access { x with home := true, lock := false, last := false } s))
    ∧ (∀ x s, homeOk s x && cleanAt s x && !bankBusy s x && s.fab.waiting.isEmpty → x.addr % 64 = 0 → s.fab.isolated = false → x.kind = 0 →
        exec (.homePortAccess x) s = ends (emit (okay x (memReads s (physAddr s x.addr) (64 * x.n))) s))
    ∧ (∀ x s, homeOk s x && cleanAt s x && !bankBusy s x && s.fab.waiting.isEmpty → x.addr % 64 = 0 → s.fab.isolated = false → x.kind = 1 →
        exec (.homePortAccess x) s = ends (emit (okay x []) (laneWrite x (physAddr s x.addr) s)))
    ∧ (∀ x s, homeOk s x && cleanAt s x && !bankBusy s x && s.fab.waiting.isEmpty → s.fab.isolated = false → x.kind = 2 ∨ x.kind = 3 →
        x.n = 4 ∨ x.n = 8 → x.addr % x.n = 0 → exec (.homePortAccess x) s =
        let old := memReads s (physAddr s x.addr) x.n
        ends (emit (okay x old) (memWrites (physAddr s x.addr) (atomicNew x old) s)))
    ∧ (∀ x s, awake s → x.m = homeMaster (bankOfAddr (physAddr s x.addr)) → rangeAt s x.addr = 2 ∨ rangeAt s x.addr = 3 → x.kind = 2 ∨ x.kind = 3 →
        x.n = 4 ∨ x.n = 8 → x.addr % x.n ≠ 0 → s.fab.isolated = false → exec (.homePortAccess x) s =
          ends (emit { kind := .fabric, a := 2, b := x.m, c := x.addr, codes := [2] }
            (raiseX 0x0502 x.addr { master := x.m, target := targetOf s x.addr, access := x.kind + 1, resp := 2 } false true s)))
    ∧ (∀ n ue ce s, awake s → n < 20 → (bankAt s n).pstate = 3 → exec (.heathScrub n ue ce) s =
        ends (ue.foldl (fun t w => if inBank n w && !marked t w then foundBad w 0x0602 { target := n, access := 8 } t else t) (countCe n ce s)))
    ∧ (∀ ue ce s, s.mem.ready → s.mem.selfRef = false → exec (.dramScrub ue ce) s =
        ends (ue.foldl (fun t w => if rangeAt t (8 * w) == 10 && !marked t w then foundBad w 0x0701 { target := 0x14, access := 8 } t else t)
          (countCorrected dramBase ce s)))
    ∧ (∀ n s, awake s → n < 16 → (bankAt s n).policy = 0 → (bankAt s n).pstate = 2 ∨ (bankAt s n).pstate = 3 → (bankAt s n).waking = false →
        bankHolds s n = false → ((List.range 12).any fun e => (engAt s (12 * n + e)).pst == 1) = false →
        exec (.heathIdleTimeout n) s = ends (bankOff n s))
    ∧ (∀ n s, awake s → n < 16 → (bankAt s n).policy = 0 → (bankAt s n).pstate = 2 ∨ (bankAt s n).pstate = 3 → (bankAt s n).waking = false →
        bankHolds s n ∨ (List.range 12).any (fun e => (engAt s (12 * n + e)).pst == 1) →
        exec (.heathIdleTimeout n) s = ends (modBank n (fun b => { b with pstate := 2 }) s))
    ∧ (∀ n s, awake s → 18 ≤ n → n < 20 → (bankAt s n).policy = 0 → (bankAt s n).pstate = 3 → (bankAt s n).waking = false →
        exec (.heathIdleTimeout n) s = ends (modBank n (fun b => { b with pstate := 2 }) s))
    ∧ (∀ n s, (bankAt s n).waking → exec (.bankWakeDone n) s =
        ends (serveAll n (modBank n (fun b => { b with waking := false, pstate := 3 }) s)))
    ∧ (∀ n s, (bankAt s n).waking → s.fab.waiting = [] → exec (.bankWakeDone n) s =
        ends (modBank n (fun b => { b with waking := false, pstate := 3 }) s))
    ∧ (∀ n s, n < 20 → (bankAt s n).pstate = 1 → exec (.heathZeroingDone n) s =
        ends (serveAll n (modBank n (fun b => { b with pstate := 3 }) (bankLost n s))))
    ∧ (∀ rpl size s, awake s → exec (.ringEnable rpl size) s = ends (ringWrite rpl (2 ^ 31 + size % 16) s))
    ∧ (∀ rpl s, awake s → exec (.ringDisable rpl) s = ends (ringWrite rpl (if rpl then s.win.rplSize else s.win.reqSize) s))
    ∧ (∀ v s, awake s → exec (.winIntStatClear v) s = ends (winWrite 0x200 v s))
    ∧ (∀ s, awake s → exec .winFf0ValidClear s = ends (winWrite 0x24 (2 ^ 31) s))
    ∧ (∀ v s, awake s → exec (.winRstcauseClear v) s = ends (winWrite 0x20 v s))
    ∧ (∀ s, awake s → exec .forcedClear s = ends (winWrite 0x10 512 s))
    ∧ (∀ s, granted s (regAccess 0x11 0x3000010200 1) → ∃ round, exec .remapSet s =
        ends (emit (okay (regAccess 0x11 0x3000010200 1) []) (fabRegWrite 0x3000010200 1 (turn s (regAccess 0x11 0x3000010200 1) round))))
    ∧ (∀ n v s, n < 20 → v < 2 ^ 32 → granted s (regAccess 0x11 (0x3000020000 + 16 * n) v) → ∃ round, exec (.heathCtrlWrite n v) s =
        ends (emit (okay (regAccess 0x11 (0x3000020000 + 16 * n) v) []) (fabRegWrite (0x3000020000 + 16 * n) v (turn s (regAccess 0x11 (0x3000020000 + 16 * n) v) round))))
    ∧ (∀ mv s, granted s (regAccess 0x11 0x3000040000 (mv % 1024 * 65536)) → ∃ round, exec (.pwrVcoreTargetWrite mv) s =
        ends (emit (okay (regAccess 0x11 0x3000040000 (mv % 1024 * 65536)) []) (fabRegWrite 0x3000040000 (mv % 1024 * 65536) (turn s (regAccess 0x11 0x3000040000 (mv % 1024 * 65536)) round))))
    ∧ (∀ v s, v < 2 ^ 32 → granted s (regAccess 0x11 0x3000030004 v) → ∃ round, exec (.clkHistClear v) s =
        ends (emit (okay (regAccess 0x11 0x3000030004 v) []) (fabRegWrite 0x3000030004 v (turn s (regAccess 0x11 0x3000030004 v) round))))
    ∧ (∀ m a v s, awake s → exec (.registerWrite true m a v) s = ends (winWrite a v s))
    ∧ (∀ m a v s, a % 4 = 0 → v < 2 ^ 32 → rangeAt s (a / 64 * 64) = 8 → granted s (regAccess m a v) → ∃ round, exec (.registerWrite false m a v) s =
        ends (emit (okay (regAccess m a v) []) (fabRegWrite a v (turn s (regAccess m a v) round))))
    ∧ (∀ m a v s, awake s → masterHere s m → s.fab.isolated = false → rangeAt s (a / 64 * 64) = 8 → mayWriteReg s m = false →
        exec (.registerWrite false m a v) s =
        ends (emit { kind := .fabric, a := 2, b := m, c := a / 64 * 64, codes := [2] }
          (raiseX 0x0502 (a / 64 * 64) { master := m, target := 0x17, access := 2, resp := 2 } false true s)))
    ∧ (∀ s, exec .perst s = ends { s with win := { s.win with reqEn := false, rplEn := false, fetched := [], posted := [] } })

/-- Leaving the fault state, a firing injection, shed levels, the watchdogs, the ALIVE watch and tamper detection each change the
collector as their rule says. (R18, R573, R574, R609, R614, R615, R616, R626, R627, R631) -/
def Obligations.FaultEvents : Prop :=
    (∀ s, s.flt.fstate → 3 ≤ s.mode.mode → exec .faultStateExit s = ends { s with flt := { s.flt with fstate := false, recov := inc16 s.flt.recov } })
    ∧ (∀ x s, s.flt.inject = some x → s.mode.mode = 4 → 0 < x.left → exec .faultInjectFire s =
        ends (raiseX x.id x.detail {} true x.allow
          { s with flt := { s.flt with inject := if x.left = 1 then none else some { x with left := x.left - 1 } } }))
    ∧ (∀ s, s.flt.shed < 4 → 3 ≤ s.mode.mode → exec .shedLevelUp s = ends (setShed (s.flt.shed + 1) s))
    ∧ (∀ s, 0 < s.flt.shed → 3 ≤ s.mode.mode → exec .shedLevelDown s = ends (setShed (s.flt.shed - 1) s))
    ∧ (∀ s, 2 ≤ s.mode.mode → s.boot.halted = false → exec .mgmtWatchdog s = ends (faultReset 0x0E01 0 depthSystem 0x80 s))
    ∧ (∀ s, 2 ≤ s.mode.mode → s.boot.halted = false → s.cp.started ∨ s.mode.mode ≠ 2 → exec .cpWatchdog s = ends (raise 0x0D03 0 s))
    ∧ (∀ s, exec (.aliveWatchTimeout true) s = ends { s with flt := { s.flt with tickOk := false } })
    ∧ (∀ s, exec (.aliveWatchTimeout false) s = ends { s with flt := { s.flt with beat := false } })
    ∧ (∀ s, exec .aliveQuietExpiry s = ends { s with flt := { s.flt with aQuiet := false } })
    ∧ (∀ src s, s.mode.mode ≠ 0 → 1 ≤ src → src ≤ 3 → exec (.tamperDetect src) s = ends (tamper src s))
    ∧ (∀ src s, 1 ≤ src → src ≤ 3 → exec (.tamperRearm src) s =
        ends (modSec (fun c => { c with level := ofBits ((bitList c.level 4).filter (· != src)),
                                        fired := ofBits ((bitList c.fired 4).filter (· != src)) }) s))

/-- A frame that arrives with its FCS is counted and forwarded: to another node with HOP raised by one, a bad one cut short and counted;
to a group, to each of its ports; without an entry or at the hop limit it is counted and goes no further. Audio for this node is held in
the flow's buffer, and control is delivered: a request that reception admits is queued, and an answer completes the relay that waits for
it. An Announce is flooded once and recorded, and one is sent at each timer; directory entries expire; ring messages go on round the ring
and set its protection; loss of a segment, the wait to restore, training, link down and the CRC trip and recovery each change the port and
its ring as their rule says. Rests on the model's own choices in log entries 28, 52, 68, 69 (notes/assumptions). (R371, R374, R378, R385,
R387, R393, R399, R401, R402, R404, R405, R547) -/
def Obligations.LinkFrameEvents : Prop :=
    (∀ p f c s, linkUp s p → exec (.frameForward p f c) s = ends (forward p f (fcsGood f c) (countFrame p (fcsGood f c) s)))
    ∧ (∀ p f c n q good s, linkUp s p → fcsGood f c = good → isSogus s f → knownType f → ownFrame s f = false → hopEnd s f = false → destNode f = some n →
        n ≠ s.links.node → (routeTo s n).filter (unicastOut s p) = [q] → linkUp s q →
        exec (.frameForward p f c) s =
          ends (modLink q (fun l => { l with cutShort := if good then l.cutShort else inc16 l.cutShort })
            (egress q { kind := .sogus, a := frameType f, b := q, c := b2n (!good),
                        bytes := withFcs good (f.take 20 ++ toBE 2 (be f 20 2 + 1) ++ f.drop 22) } (countFrame p good s))))
    ∧ (∀ p f c n good s, linkUp s p → fcsGood f c = good → isSogus s f → knownType f → ownFrame s f = false → hopEnd s f = false → destNode f = some n →
        n ≠ s.links.node → thas s.links.dir n = false →
        exec (.frameForward p f c) s = ends (modLink p (fun l => { l with noEntry := inc16 l.noEntry }) (countFrame p good s)))
    ∧ (∀ p f c g s, linkUp s p → isSogus s f → knownType f → ownFrame s f = false → hopEnd s f = false → destNode f = none → destGroup f = some g →
        exec (.frameForward p f c) s =
          ends (((groupPorts s g).filter (· != p)).foldl (fun t q => sendCopy f (fcsGood f c) q t) (countFrame p (fcsGood f c) s)))
    ∧ (∀ p f c good s, linkUp s p → fcsGood f c = good → ownFrame s f = false → hopEnd s f → exec (.frameForward p f c) s =
          ends (modLink p (fun l => { l with hopLimit := inc16 l.hopLimit }) (countFrame p good s)))
    ∧ (∀ p f ns s, consumes p 1 f s → exec (.audioFrame p f (fcsOf f) ns) s = ends (audioIn f ns (passed p f s)))
    ∧ (∀ p f ns b key x s, let u := passed p f s
        let m := blockMargin u x (be f 22 6) ns
        consumes p 1 f s → u.pipe.running → rxBlocks (byteAt f 32) (framePayload f) = [b] → entriesFor u (frameSource f) b.flow = [(key, x)] →
        bit (byteAt f 19) 0 = false → blockOk x (tickN u) b → be f 22 6 ≤ cal u + 1 → 0 ≤ m →
        ((tgetD u.links.flows key {}).blocks.any fun h => h.1 == be f 22 6 && h.2.1 == b.first) = false →
        exec (.audioFrame p f (fcsOf f) ns) s = ends { u with links := { u.links with flows := tset u.links.flows key { tgetD u.links.flows key {} with
          arrMax := some (match (tgetD u.links.flows key {}).arrMax with | some o => min o m | none => m)
          blocks := (tgetD u.links.flows key {}).blocks ++ [(be f 22 6, b.first, blockChannels b)] } } })
    ∧ (∀ p f s, let u := passed p f s
        let d := framePayload f
        consumes p 2 f s → destNode f = some u.links.node → bit (byteAt d 1) 0 = false → admits .link (frameSource f, 0) d u →
        exec (.controlFrame p f (fcsOf f)) s = ends (admitted .link (frameSource f, 0) d u))
    ∧ (∀ p f w s, let u := passed p f s
        let d := framePayload f
        consumes p 2 f s → destNode f = some u.links.node → bit (byteAt d 1) 0 → cpListens u →
        (u.cp.relays.find? fun w => w.node == frameSource f && be w.req.params 6 2 == be d 2 2 && be w.req.params 8 2 == be d 4 2) = some w →
        exec (.controlFrame p f (fcsOf f)) s =
          let t := { u with cp := { u.cp with relays := u.cp.relays.filter fun x => x.req.acc != w.req.acc } }
          ends (if w.req.src = .link ∧ 1440 < d.length then finish w.req BAD_PARAM 0xFFFF 0 false false [] t else finish w.req OK 0 0 false false d t))
    ∧ (∀ p f s, let v := frameSource f
        let u := countFrame p true s
        let old := tgetD s.links.seen v []
        let flooded := ((upPorts u).filter (· != p)).foldl (fun t q => sendCopy f true q t)
          { u with links := { u.links with seen := tset u.links.seen v ((be f 30 2 :: old).take 16) } }
        let e := { tgetD flooded.links.dir v {} with learnt := true, die := be (framePayload f) 0 8,
                                                     ports := tset (tgetD flooded.links.dir v {}).ports p (frameHop f + 1) }
        isType s f 4 → linkUp s p → ownFrame s f = false → hopEnd s f = false → old.contains (be f 30 2) = false →
        s.links.node ≠ 0 → isNode v → flooded.links.dir.length < 4096 → (tgetD flooded.links.dir v {}).pinned = false →
        exec (.announceFrame p f (fcsOf f)) s =
          ends { flooded with links := { flooded.links with dir := tset flooded.links.dir v (dirRoutes e) } })
    ∧ (∀ s, s.links.node ≠ 0 → exec .announceTimer s = ends (sendPorts (upPorts s) 4 0 (macGroup 0xFFFF) (fun _ => toBE 8 s.part.dieId) s))
    ∧ (∀ node e s, tget s.links.dir node = some e → exec (.directoryEntryExpiry node) s =
        ends { s with links := { s.links with
          dir := if e.pinned then tset s.links.dir node { e with learnt := false, ports := [] } else tdel s.links.dir node } })
    ∧ (∀ p f c s, isType s f 5 → linkUp s p → exec (.ringHello p f c) s = ends (countFrame p (fcsGood f c) s))
    ∧ (∀ p f i q s, linkUp s p → isType s f 5 → s.links.node ≠ 0 → ownFrame s f = false → hopEnd s f = false → ringSide s p = some (i, q) →
        exec (.ringFault p f (fcsOf f)) s = ends (setRingProt i true (sendCopy f true q (countFrame p true s)))
        ∧ exec (.ringRestore p f (fcsOf f)) s = ends (setRingProt i false (sendCopy f true q (countFrame p true s))))
    ∧ (∀ p s, (ringOf s p).isSome → linkUp s p → exec (.ringHelloTimer p) s = ends (sendRing 1 p s))
    ∧ (∀ p i q s, ringSide s p = some (i, q) → (linkSt s p).lost = false → exec (.segmentLoss p) s =
        ends (setRingProt i true (sendRing 2 q (modLink p (fun l => { l with lost := true }) s))))
    ∧ (∀ p i q s, ringSide s p = some (i, q) → (linkSt s p).lost → linkUp s p → exec (.wtrExpiry p) s =
        ends (setRingProt i false (sendRing 3 q (sendRing 3 p (modLink p (fun l => { l with lost := false }) s)))))
    ∧ (∀ p s, 2 ≤ s.mode.mode → (linkSt s p).state = 1 ∨ (linkSt s p).state = 3 → exec (.linkTrained p) s =
        ends (joinAll p (edgesBack (9 + p) (modLink p (fun l => { l with state := 2 }) s))))
    ∧ (∀ p s, linkUp s p ∨ (linkSt s p).state = 4 → exec (.linkDown p) s = ends (segmentLoss p (edgesStop (9 + p) 0 (portTo p 3 s))))
    ∧ (∀ p s, linkUp s p → crcOver s p → exec (.crcRateTrip p) s =
        ends (raise 0x0A04 p (segmentLoss p (modLink p (fun l => { l with badAt := [] }) (portTo p 4 s)))))
    ∧ (∀ p s, (linkSt s p).state = 4 → exec (.crcRateRecovery p) s = ends (joinAll p (modLink p (fun l => { l with state := 2 }) s)))

/-- An AoIP packet of a receiver in order puts its samples at their place in media time; ARP requests and echoes for a port's own address
are answered out of that port; pauses hold and release what MG sends, within their limit; a frame for an Array Link is queued, or counted
when the queue is full; and the loss of the PLCA beacon falls back to CSMA/CD. Rests on the model's own choices in log entries 28, 53, 54,
69, 71 (notes/assumptions). (R407, R410, R412, R413, R415, R416, R425) -/
def Obligations.NetworkEvents : Prop :=
    (∀ p dest source udp rtp s, linkUp s p → s.pipe.running → 12 ≤ rtp.length → exec (.aoipPacket p dest source udp rtp) s =
        ends ((s.pipe.live.aoRx.filter fun x => aoMatch p dest source udp rtp x.2).foldl (fun t x => aoPacket x.1 x.2 rtp t) (countFrame p true s)))
    ∧ (∀ p dest source udp rtp i x s, let a := tgetD s.links.aoRx i {}
        let u := countFrame p true s
        let pos := mediaPos s x (mediaNear s (be rtp 4 4))
        let body := rtp.drop (12 + 4 * (byteAt rtp 0 % 16))
        let w := if bit x.flags 1 then 3 else 2
        linkUp s p → s.pipe.running → 12 ≤ rtp.length → (s.pipe.live.aoRx.filter fun x => aoMatch p dest source udp rtp x.2) = [(i, x)] →
        a.got = false ∨ be rtp 2 2 = a.seq → (cal s * tickN s : Int) ≤ pos →
        exec (.aoipPacket p dest source udp rtp) s =
          ends { u with links := { u.links with aoRx := tset s.links.aoRx i { a with
            count := inc32 a.count, got := true, lost := if a.got then add16 0 a.lost else a.lost, seq := (be rtp 2 2 + 1) % 65536
            buf := tputs a.buf pos.toNat ((List.range (body.length / (w * x.ch))).map fun j =>
              (List.range x.ch).map fun c => aoSample (w == 3) body (j * x.ch + c)) } } })
    ∧ (∀ p dest target mac ip m s, p < 4 → portAddr (countFrame p true s) p = some (m, target) → linkUp s p → macTaken m p dest →
        exec (.arpRequest p (dest, target) mac ip) s =
        ends (egress p { kind := .echo, a := p, b := ip, bytes := m ++ toBE 4 target ++ toBE 6 mac ++ toBE 4 ip } (countFrame p true s)))
    ∧ (∀ dest target mac ip m s, portAddr s 4 = some (m, target) → macTaken m 4 dest → exec (.arpRequest 4 (dest, target) mac ip) s =
        ends (emitMg { kind := .echo, a := 4, b := ip, bytes := m ++ toBE 4 target ++ toBE 6 mac ++ toBE 4 ip } s))
    ∧ (∀ p dest target mac ip m s, 4 < p → portAddr s p = some (m, target) → macTaken m p dest → exec (.arpRequest p (dest, target) mac ip) s =
        ends (alSend (p - 5) { kind := .echo, a := p, b := ip, bytes := m ++ toBE 4 target ++ toBE 6 mac ++ toBE 4 ip }
          (modAl (p - 5) (fun a => { a with recv := inc16 a.recv }) s)))
    ∧ (∀ dest target ip data m s, portAddr s 4 = some (m, target) → bit s.links.mg.flags 1 → macTaken m 4 dest →
        exec (.icmpEcho (dest, target) ip data) s = ends (emitMg { kind := .echo, a := 4, b := ip, c := 1, bytes := data } s))
    ∧ (∀ o s, mgRuns s → s.links.mg.paused = false → emitMg o s = { s with wire := s.wire ++ [o] })
    ∧ (∀ quanta s, mgRuns s → udpOn s 0 → s.links.mg.ignore = false → quanta ≠ 0 →
        exec (.mgPauseFrame quanta) s = ends (modMg (fun m => { m with paused := true }) s))
    ∧ (∀ s, mgRuns s → udpOn s 0 → s.links.mg.ignore = false → exec (.mgPauseFrame 0) s =
        ends { s with wire := s.wire ++ s.links.mg.held, links := { s.links with mg := { s.links.mg with paused := false, held := [] } } })
    ∧ (∀ s, mgRuns s → s.links.mg.paused → exec .mgPauseLimit s =
        ends (raise 0x0A05 0 (modMg (fun m => { m with ignore := true, events := inc16 m.events }) (resumeMg s))))
    ∧ (∀ s, mgRuns s → exec .mgPauseEnd s =
        ends { s with wire := s.wire ++ s.links.mg.held, links := { s.links with mg := { s.links.mg with paused := false, held := [] } } })
    ∧ (∀ s, exec .mgPauseIgnoreEnd s = ends (modMg (fun m => { m with ignore := false }) s))
    ∧ (∀ p f s, p < 2 → 2 ≤ s.mode.mode → bit (alAt s p).flags 0 → be f 0 6 = (alAt s p).mac ∨ be f 0 6 = 0xFFFFFFFFFFFF →
        isGcpFrame f = false → exec (.alFrameReceived p f) s =
        ends (modAl p (fun a => if a.queue.length < 32 then { a with recv := inc16 a.recv, queue := a.queue ++ [f] }
          else { a with recv := inc16 a.recv, ovf := inc16 a.ovf }) s))
    ∧ (∀ p s, p < 2 → bit (alAt s p).flags 0 → bit (alAt s p).flags 1 → (alAt s p).fell = false → (alAt s p).plcaId ≠ 0 →
        exec (.plcaBeaconLoss p) s =
        ends (modAl p (fun a => { a with fell := true, beacon := inc16 a.beacon }) s))
    ∧ (∀ s, mgRuns s = false → exec .mgPauseEnd s = ends s)

/-- Minutes, the seal indicator, the four serial commands with a right check word, mailbox and alarm timers, and loss and return of power
each change the meter as their rule says. Rests on the model's own choices in log entries 5 (notes/assumptions). (R695, R696, R697, R698,
R703, R704, R705, R708, R709, R710) -/
def Obligations.MeterEvents : Prop :=
    (∀ age s, hasMeter s → exec (.meterMinuteBoundary age) s = ends (minuteEnd age s))
    ∧ (∀ age s, hasMeter s → s.meter.vmet = false → exec (.meterMinuteBoundary age) s =
        let next := (s.meter.start / 60 + 1) * 60 % 2 ^ 48
        ends (modMeter (fun m => { m with time := next, start := next, broken := true }) s))
    ∧ (∀ s, hasMeter s → s.meter.vmet → exec .sealIndTimer s =
        ends (emit { kind := .meterTx, a := 1, bytes := sealInd s.meter }
          (modMeter (fun m => { m with time := if (m.time + 1) / 60 = m.start / 60 then m.time + 1 else m.time }) s)))
    ∧ (∀ arg s, hasMeter s → s.meter.vmet → exec (.meterSerialGetInfo arg (crc16 (toBE 1 0xA5 ++ toBE 1 1 ++ toBE 4 arg))) s =
        ends (serialReply 1 0 (meterInfo s) s))
    ∧ (∀ arg s, hasMeter s → s.meter.vmet → exec (.meterSerialRead arg (crc16 (toBE 1 0xA5 ++ toBE 1 2 ++ toBE 4 arg))) s =
        ends (serialReply 2 (if (meterRead s.meter arg 16).1 = OK then 0 else 2) (meterRead s.meter arg 16).2 s))
    ∧ (∀ arg s, hasMeter s → s.meter.vmet → exec (.meterSerialAckExport arg (crc16 (toBE 1 0xA5 ++ toBE 1 3 ++ toBE 4 arg))) s =
        ends (serialReply 3 0 [] (ackExport arg s)))
    ∧ (∀ arg s, hasMeter s → s.meter.vmet → exec (.meterSerialGetLive arg (crc16 (toBE 1 0xA5 ++ toBE 1 4 ++ toBE 4 arg))) s =
        ends (serialReply 4 0 (meterLive s).1 (meterLive s).2))
    ∧ (∀ r rest s, s.cp.meterWait = r :: rest → exec .meterMailboxTimeout s =
        ends (statusLine 6 (finish r BUSY 0 0 false false [] { s with cp := { s.cp with meterWait := rest } })))
    ∧ (∀ code s, hasMeter s → s.meter.vmet → bit s.meter.alarms code → exec (.meterAlarmRepeat code) s = ends (statusLine code s))
    ∧ (∀ s, hasMeter s → exec (.meterPowerLoss true) s = ends (modMeter (fun m => { m with vmet := false, broken := true, runs := [], shown := [], stepN := 0 }) s))
    ∧ (∀ s, hasMeter s → exec (.meterPowerLoss false) s =
        ends (modMeter (fun m => loseRetention { m with vmet := false, broken := true, runs := [], shown := [], stepN := 0 }) s))
    ∧ (∀ s, hasMeter s → s.meter.vmet = false → exec .meterPowerReturn s =
        ends (exportAlarm (meterAlarm 4 (s.meter.sealSt == 3) (meterAlarm 3 s.meter.batLow
          (modMeter (fun m => { m with vmet := true, power := true, unsealed := m.unsealed || m.sealSt != 2 }) s)))))
    ∧ (∀ s, hasMeter s → exec .meterBatteryLow s =
        let t := modMeter (fun m => { m with batLow := true }) s
        ends (if s.meter.vmet then meterAlarm 3 true t else t))

/-- The end of a decision period without a run of misses, a pre-copy round that converges or goes on, the final copy with and without an
error, the twin run compared equal (commit) or unequal, or failed on the destination or the source (abort with its reason), an admission
copy, the rounds and the final copy of a chain that a Shadow joins, an engine that has woken and a self-test slice each answer a next
state. Rests on the model's own choices in log entries 21, 28, 42, 66 (notes/assumptions). (R118, R190, R197, R207, R208, R211, R214,
R601, R664) -/
def Obligations.MigrationEvents : Prop :=
    (∀ temps occ drvQ s, ((adjustVcore (placePeriod temps occ drvQ s)).eng.engines.any fun g => decide (4 ≤ g.2.missRun)) = false →
        exec (.decisionPeriodEnd temps occ drvQ) s = ends (adjustVcore (placePeriod temps occ drvQ s)))
    ∧ (∀ h m s, let c := chainD s h
        let t := modChain (twinOf h) (fun t => copyLines m.lines c (if m.rounds = 0 then { t with code := c.image, badCode := [] } else t))
          (modEng m.dst (fun g => { g with touched := true }) s)
        migrOf s h = some m → m.handle = h → m.phase = 0 → destReady s m → poisonIn c m.lines = false →
        m.lines.length ≤ 64 ∨ 8 ≤ m.rounds + 1 →
        exec (.precopyRoundDone h false) s =
          ends (setMigr { m with rounds := m.rounds + 1, phase := if c.swap.isSome then 2 else 1, commit := commitTick t h } t))
    ∧ (∀ h m s, let c := chainD s h
        let t := modChain (twinOf h) (fun t => copyLines m.lines c (if m.rounds = 0 then { t with code := c.image, badCode := [] } else t))
          (modEng m.dst (fun g => { g with touched := true }) s)
        migrOf s h = some m → m.handle = h → m.phase = 0 → destReady s m → poisonIn c m.lines = false →
        64 < m.lines.length → m.rounds + 1 < 8 →
        exec (.precopyRoundDone h false) s =
          ends (setMigr { m with rounds := m.rounds + 1, lines := c.cum } (modChain h (fun c => { c with cum := [] }) t)))
    ∧ (∀ h m k s, migrOf s h = some m → m.phase = 1 → stageTick s (chainD s h).desc.stage = some k →
        m.commit ≤ k ∨ k + 1 = m.commit ∧ ended s h → poisonIn (chainD s h) (chainD s h).cum = false →
        exec (.finalCopyDone h false) s = ends (finalCopy m s))
    ∧ (∀ m s, twinDue s m = false → (engAt s m.dst).cur ≠ twinOf m.handle →
        finalCopy m s = setMigr { m with phase := 2 } (modChain (twinOf m.handle) (copyLines (chainD s m.handle).cum (chainD s m.handle)) s))
    ∧ (∀ h m k s, migrOf s h = some m → m.phase = 1 → stageTick s (chainD s h).desc.stage = some k →
        m.commit ≤ k ∨ k + 1 = m.commit ∧ ended s h → exec (.finalCopyDone h true) s = ends (abortMigr 4 m s))
    ∧ (∀ h m s, migrOf s h = some m → twinDue s m → ended s h → m.failed = false → m.bad = false → m.phase ≠ 1 → m.other.isSome →
        sameRun s m → exec (.twinRunCompare h true false) s = ends (commitMigr m s))
    ∧ (∀ h m s, migrOf s h = some m → twinDue s m → ended s h → m.failed = false → m.bad = false → m.phase ≠ 1 →
        exec (.twinRunCompare h false false) s = ends (abortMigr 1 m s))
    ∧ (∀ h eq m s, migrOf s h = some m → twinDue s m → ended s h → m.failed = false →
        exec (.twinRunCompare h eq true) s = ends (abortMigr 2 m s))
    ∧ (∀ h eq bad m s, migrOf s h = some m → twinDue s m → ended s h → m.failed →
        exec (.twinRunCompare h eq bad) s = ends (abortMigr 3 m s))
    ∧ (∀ h s, (s.place.migr.any fun m => m.handle == h && m.phase == 3 && ((engAt s m.dst).waking || !banksReady s h)) = false →
        exec (.admissionCopyDone h) s =
        ends ((s.place.migr.filter fun m => m.handle == h && m.phase == 3).foldl (fun t m => modEng m.dst (fun g => { g with touched := true }) t)
          { s with place := { s.place with migr := s.place.migr.filter fun m => !(m.handle == h && m.phase == 3) } }))
    ∧ (∀ h s, migrOf s h = none → joiningChain s = some h → s.pair.join.phase = 0 → poisonIn (chainD s h) s.pair.join.lines = false →
        s.pair.join.lines.length ≤ 64 ∨ 8 ≤ s.pair.join.rounds + 1 → exec (.precopyRoundDone h false) s =
        ends { s with pair := { s.pair with join := { s.pair.join with rounds := s.pair.join.rounds + 1, phase := 1, commit := commitTick s h } } })
    ∧ (∀ h k s, migrOf s h = none → joiningChain s = some h → s.pair.join.phase = 1 → stageTick s (chainD s h).desc.stage = some k →
        s.pair.join.commit ≤ k ∨ k + 1 = s.pair.join.commit ∧ ended s h → poisonIn (chainD s h) (chainD s h).cum = false →
        exec (.finalCopyDone h false) s = ends { s with pair := { s.pair with join := { s.pair.join with phase := 2 } } })
    ∧ (∀ e s, hasEngine s e → exec (.engineWakeDone e) s = ends (modEng e (fun g => { g with waking := false }) s))
    ∧ (∀ e s, mayTest s e → exec (.selfTestSlice e true) s = ends (slicePass e s))
    ∧ (∀ e s, mayTest s e → exec (.selfTestSlice e false) s = ends (sliceFail e s))

/-- A message that the partner sends, sealed and new, is heard and acted on by its kind: a Beat shows the partner's mode and state and
compares checkpoints, or finds another variant or firmware; a Mirror is queued for execution, or acknowledged again; an Ack completes what
waits for it; Relinquish names the takeover; a Vigil, a Resync request and a part of Resync data are taken; a partner reset is
acknowledged and carried out, or denied. Resends, vigils, path and act-line losses, the listening at start and the steps and the time-out
of a resynchronisation each change the pair as their rule says. Rests on the model's own choices in log entries 22, 28, 61
(notes/assumptions). (R582, R584, R586, R588, R592, R593, R596, R600, R601, R602, R605) -/
def Obligations.PairEvents : Prop :=
    (∀ p f s, let u := heard p 1 f s
        let b := messageBody f
        message p 1 f s → u.pair.state = 5 ∨ byteAt b 2 = variantCode u.part.variant ∧ be b 3 4 = u.boot.fwVer → u.pair.listen = 0 →
        u.mode.mode ≠ 6 ∨ byteAt b 0 ≠ 6 → byteAt b 11 ≠ 1 →
        exec (.beat p f (fcsOf f)) s = ends (compareCheck (modPair (fun q => { q with
          pMode := byteAt b 0, pState := byteAt b 1, actIn := q.actIn || byteAt b 0 == 6
          pCheck := if byteAt b 16 = 1 then some (be b 17 6, be b 23 4) else q.pCheck }) u)))
    ∧ (∀ p f s, let u := heard p 1 f s
        let b := messageBody f
        message p 1 f s → u.pair.state ≠ 5 → byteAt b 2 ≠ variantCode u.part.variant ∨ be b 3 4 ≠ u.boot.fwVer → u.pair.listen = 0 → u.mode.mode ≠ 6 →
        exec (.beat p f (fcsOf f)) s = ends (compareCheck (raise 0x0F01 0 (setPair 5 0 (modPair (fun q => { q with
          pMode := byteAt b 0, pState := byteAt b 1, actIn := q.actIn || byteAt b 0 == 6
          pCheck := if byteAt b 16 = 1 then some (be b 17 6, be b 23 4) else q.pCheck }) u)))))
    ∧ (∀ p f s, let u := heard p 2 f s
        let r := mirrorReq (messageSeq f) (messageBody f)
        message p 2 f s → u.mode.mode = 7 → isMirrored r.opcode → tget u.pair.doneMir r.acc = none →
        ((u.cp.p0 ++ u.cp.p1 ++ u.cp.p2 ++ u.cp.p3).any fun x => x.src == .pair && x.acc == r.acc) = false →
        r.applyAt = 0 ∨ bit r.applyAt 63 ∨ cal u < r.applyAt → queueLen u (queueOf r) < queueCap (queueOf r) →
        exec (.mirror p f (fcsOf f)) s = ends (putInQueue r { u with cp := { u.cp with acc := max u.cp.acc r.acc } }))
    ∧ (∀ p f st s, let u := heard p 2 f s
        let r := mirrorReq (messageSeq f) (messageBody f)
        message p 2 f s → u.mode.mode = 7 → isMirrored r.opcode → tget u.pair.doneMir r.acc = some st →
        exec (.mirror p f (fcsOf f)) s = ends (sendAck r st u))
    ∧ (∀ p f w s, let u := heard p 3 f s
        let b := messageBody f
        message p 3 f s → (u.cp.partner.find? fun w => w.node == be b 0 4) = some w →
        exec (.ack p f (fcsOf f)) s = ends (finish w.req (if be b 4 2 = OK then OK else MODE_DENIED) 0 0 false (w.forced && be b 4 2 == OK) []
          { u with cp := { u.cp with partner := u.cp.partner.filter fun x => x.req.acc != w.req.acc } }))
    ∧ (∀ p f m s, let u := heard p 3 f s
        let b := messageBody f
        message p 3 f s → (u.cp.partner.find? fun w => w.node == be b 0 4) = none → (u.pair.out.find? fun m => m.seq == be b 0 4) = some m →
        exec (.ack p f (fcsOf f)) s = ends (modPair (fun q => { q with
          out := q.out.filter fun x => x.seq != be b 0 4
          diff := match m.status with | some a => if a = be b 4 2 then q.diff else some (be b 0 4) | none => q.diff }) u))
    ∧ (∀ p f s, let u := heard p 4 f s
        let h := be (messageBody f) 0 6
        message p 4 f s → u.mode.mode = 7 → u.pair.state = 3 → exec (.relinquish p f (fcsOf f)) s =
          ends (modPair (fun q => { q with takeAt := some h, lateRel := if h ≤ cal u then inc16 q.lateRel else q.lateRel }) u))
    ∧ (∀ p f s, let u := heard p 5 f s
        message p 5 f s → u.mode.mode = 6 → exec (.vigil p f (fcsOf f)) s =
          ends (modPair (fun q => { q with vigil := fit 24 (messageBody f), vigilOk := true, absent := false }) u))
    ∧ (∀ p f s, let u := heard p 6 f s
        message p 6 f s → u.mode.mode = 6 → u.pair.state = 1 → exec (.resyncRequest p f (fcsOf f)) s =
          ends (sendPair 7 (toBE 1 1 ++ toBE 6 (cal u + 1))
            (modPair (fun q => { q with step := 1, snap := cal u + 1, joined := 0, serve := u.eng.chains.map (·.1), toJoin := u.eng.chains.length }) u)))
    ∧ (∀ p f part s, let u := heard p 7 f s
        message p 7 f s → u.mode.mode = 7 → u.pair.state = 2 ∨ u.pair.state = 4 → u.pair.paused = false →
        exec (.resyncData p f (fcsOf f) part) s = ends (loadPart part u))
    ∧ (∀ snap cfg set hs nodes staged s, let t := loadPart (.tables snap cfg set hs nodes staged) s
        (s.eng.chains.all fun c => hs.contains c.1) → cfg.rate = rate s → cfg.n = tickN s → t.pair.state = 2 ∧ t.pair.step = 1 ∧ t.pair.snap = snap ∧ t.sward.nodes = nodes ∧ t.pipe.live.mapMi = cfg.mapMi ∧ t.pipe.live.dyn = cfg.dyn
          ∧ t.pipe.live.links = s.pipe.live.links ∧ t.links.groups = set.groups ∧ t.cap.policy = set.capPolicy
          ∧ t.gate.staged = s.gate.staged ++ joinStaged s.gate.staged staged)
    ∧ (∀ p f s, let u := heard p 8 f s
        message p 8 f s → u.mode.mode = 7 → exec (.partnerReset p f (fcsOf f)) s =
          ends (resetNow (resetDepth (byteAt (messageBody f) 0)) 0x400 (sendPair 3 (toBE 4 (messageSeq f) ++ toBE 2 OK) u)))
    ∧ (∀ p f s, let u := heard p 8 f s
        message p 8 f s → u.mode.mode ≠ 7 → exec (.partnerReset p f (fcsOf f)) s = ends (sendPair 3 (toBE 4 (messageSeq f) ++ toBE 2 MODE_DENIED) u))
    ∧ (∀ p f c s, exec (.beat p f c) s = ends (pairFrame p 1 f c (fun _ => beatIn) s)
        ∧ exec (.mirror p f c) s = ends (pairFrame p 2 f c mirrorIn s)
        ∧ exec (.ack p f c) s = ends (pairFrame p 3 f c (fun _ => ackIn) s)
        ∧ exec (.relinquish p f c) s = ends (pairFrame p 4 f c (fun _ => relinquishIn) s)
        ∧ exec (.partnerReset p f c) s = ends (pairFrame p 8 f c partnerResetIn s))
    ∧ (∀ seq m s, (s.pair.out.find? fun m => m.seq == seq) = some m → m.due = 0 ∨ cal s < m.due → exec (.mirrorResend seq) s =
        ends (modPair (fun p => { p with lastMir := s.pair.seq, out := p.out.map fun x => if x.seq = seq then { x with seq := s.pair.seq } else x })
          (sendPair 2 m.bytes s)))
    ∧ (∀ s, s.mode.mode = 7 → exec .vigilTimer s =
        ends (modPair (fun p => { p with sPass := 0, sFail := 0, misses := 0, severe := 0 }) (sendPair 5 (vigilBody s) s)))
    ∧ (∀ s, s.mode.mode = 6 → s.pair.state = 1 → s.pair.absent = false →
        exec .vigilTimeout s = ends (raise 0x0F03 0 (modPair (fun p => { p with vigilOk := false, absent := true }) s)))
    ∧ (∀ s, paired s → s.pair.pathUpB → exec (.pairPathTimeout false) s = ends (modPair (fun p => { p with pathUpA := false }) s))
    ∧ (∀ s, paired s → s.pair.pathUpA = false → s.mode.mode = 7 → s.pair.state = 2 ∨ s.pair.state = 3 →
        exec (.pairPathTimeout true) s = ends (unsynced 4 (modPair (fun p => { p with pathUpB := false }) s)))
    ∧ (∀ s, s.pair.actIn → s.mode.mode = 7 → s.pair.state = 3 → exec .pairActInLow s =
        ends (modPair (fun p => { p with actIn := false, takeNow := true }) s))
    ∧ (∀ s, s.pair.actIn → s.mode.mode = 7 → s.pair.state ≠ 3 → exec .pairActInLow s =
        ends (raise 0x0F04 0 (modPair (fun p => { p with actIn := false }) s)))
    ∧ (∀ s, s.pair.listen ≠ 0 → exec (.pairListenTimeout true) s = ends (beginShadow (modPair (fun p => { p with actIn := true }) s)))
    ∧ (∀ s, s.pair.listen = 1 → s.pair.cfg.rank = 1 → exec (.pairListenTimeout false) s =
        ends (modPair (fun p => { p with actIn := false, listen := 2 }) s))
    ∧ (∀ s, s.pair.listen ≠ 0 → s.pair.listen ≠ 1 ∨ s.pair.cfg.rank ≠ 1 → exec (.pairListenTimeout false) s =
        ends (beginActive (modPair (fun p => { p with actIn := false }) s)))
    ∧ (∀ acc w s, (s.cp.partner.find? fun w => w.req.acc == acc) = some w → exec (.partnerResetTimeout acc) s =
        ends (finish w.req BUSY 0 0 false false [] { s with cp := { s.cp with partner := s.cp.partner.filter fun x => x.req.acc != acc } }))
    ∧ (∀ s, s.mode.mode = 7 → s.pair.state = 2 ∨ s.pair.state = 4 → s.pair.paused = false → exec .resyncRequestTimer s = ends (sendPair 6 [] s))
    ∧ (∀ s, s.mode.mode = 6 → s.pair.state = 1 → exec .resyncStepDone s = ends (serveNext s))
    ∧ (∀ s, s.pair.step = 1 → serveNext s =
        sendPair 7 (toBE 1 2 ++ toBE 6 s.pair.snap ++ toBE 2 0 ++ toBE 6 0) (modPair (fun p => { p with step := 2 }) s))
    ∧ (∀ s, s.mode.mode = 7 → s.pair.state = 2 → stepComplete s → s.pair.step ≠ 5 → exec .resyncStepDone s =
        ends (modPair (fun p => { p with step := p.step + 1, checks := if p.step = 4 then 0 else p.checks }) s))
    ∧ (∀ s, s.mode.mode = 7 → s.pair.state = 2 → stepComplete s → s.pair.step = 5 → exec .resyncStepDone s =
        ends (modPair (fun p => { p with state := 3, reason := 0, step := 0, failed := 0 }) s))
    ∧ (∀ s, s.mode.mode = 7 → s.pair.state = 2 → exec .resyncTimeout s =
        let n := s.pair.failed + 1
        let t := modPair (fun p => { p with state := 4, reason := 5, step := 0, loaded := 0, failed := n, paused := decide (3 ≤ n) }) s
        ends (if 3 ≤ n then raise 0x0F02 5 t else sendPair 6 [] t))

/-- Lock and loss of clock, underrun and overrun, loss of lock and slips, a good subframe and one with bad parity (for which the last good
sample stands, but behind a converter), channel-status blocks and converter relocks, with the delay they give and the rates they refuse,
each change the port, zero what it can no longer deliver and raise the fault their rule names. Rests on the model's own choices in log
entries 49, 68 (notes/assumptions). (R326, R330, R332, R333, R338, R339, R342) -/
def Obligations.AudioPortEvents : Prop :=
    (∀ p phase hz s, (spSt s p).state = 2 ∨ (spSt s p).state = 5 → bit (tgetD s.pipe.live.sp p {}).flags 3 = false → exec (.spLock p phase hz) s =
        ends (modSp p (fun x => { x with unmute := true, phase := phase, rate := hz }) s))
    ∧ (∀ p pos s, (spSt s p).state = 3 ∨ (spSt s p).state = 4 ∨ (spSt s p).unmute → bit (tgetD s.pipe.live.sp p {}).flags 0 →
        exec (.spClockLoss p pos) s =
        let x := tgetD s.pipe.live.sp p {}
        let t := zeroFrom x.srcBase x.ch pos (modSp p (fun q => { q with state := 5, unmute := false, rate := 0, loss := inc16 q.loss }) s)
        ends (raise 0x0801 p { t with pipe := { t.pipe with outSp := dropOut (32 * p) 32 t.pipe.outSp } }))
    ∧ (∀ p pos n s, spLive (spSt s p) → n < (tgetD s.pipe.live.sp p {}).ch * (tgetD s.pipe.live.sp p {}).slot →
        exec (.spUnderrun { port := p, pos := pos, bits := n }) s = ends (modSp p (fun x => { x with under := inc16 x.under }) (shortFrame { port := p, pos := pos, bits := n } s)))
    ∧ (∀ p s, spLive (spSt s p) → exec (.spOverrun p) s = ends (modSp p (fun x => { x with overr := inc16 x.overr }) s))
    ∧ (∀ p lost pos s, aeLive s p ∨ (aeSt s p).unmute ∨ (aeSt s p).lock → exec (.aeLockLoss p lost pos) s =
        let t := modAe p (fun x => { x with
          state := 4, unmute := false, lock := false, rate := if lost then 0 else x.rate
          slips := if lost then x.slips else inc16 x.slips, losses := if lost then inc16 x.losses else x.losses }) s
        ends (raise 0x0802 p (zeroFrom (tgetD s.pipe.live.ae p {}).srcBase 2 pos (if p < 4 then edgesStop (4 + p) pos t else t))))
    ∧ (∀ p phase hz s, (aeSt s p).state = 1 ∨ (aeSt s p).state = 4 → bit (tgetD s.pipe.live.ae p {}).flags 2 = false → exec (.aeRelock p phase hz) s =
        ends (edgesBack (4 + p) (modAe p (fun x => { x with unmute := true, lock := true, phase := phase, rate := hz }) s)))
    ∧ (∀ p pos validity s, aeLive s p → exec (.aeSubframe p 0 pos false validity) s =
        ends (modAe p (fun x => { x with
          valid := x.valid || validity,
          last0 := smp (blkOf (recD s (cal s)).src (tgetD s.pipe.live.ae p {}).srcBase) pos }) s))
    ∧ (∀ p block s, aeLive s p → byteAt (fit 24 block) 0 % 2 = 0 → exec (.aeChannelStatusBlock p block) s =
        ends (modAe p (fun x => { x with cons := true }) s))
    ∧ (∀ p block s, aeLive s p → byteAt (fit 24 block) 0 % 2 = 1 → crcc ((fit 24 block).take 23) = byteAt (fit 24 block) 23 →
        exec (.aeChannelStatusBlock p block) s = ends (modAe p (fun x => { x with cons := false, block := fit 24 block }) s))
    ∧ (∀ p block s, aeLive s p → byteAt (fit 24 block) 0 % 2 = 1 → crcc ((fit 24 block).take 23) ≠ byteAt (fit 24 block) 23 →
        exec (.aeChannelStatusBlock p block) s = ends (modAe p (fun x => { x with crcc := inc16 x.crcc, crccEv := true }) s))
    ∧ (∀ p hz s, 28000 ≤ hz → hz ≤ 216000 → bit (tgetD s.pipe.live.ae p {}).flags 2 → bit (tgetD s.pipe.live.ae p {}).flags 0 →
        exec (.asrcRelock true p hz) s =
        ends (edgesBack (4 + p) (modAe p (fun x => { x with
          rate := hz, delay := 32 * 1000000000 / hz + 32 * 1000000000 / rateHz (rate s), lock := true,
          unmute := x.unmute || x.state == 1 || x.state == 4 }) s)))
    ∧ (∀ p hz s, let x := tgetD s.pipe.live.sp p {}
        28000 ≤ hz → hz ≤ 216000 → bit x.flags 3 → bit x.flags 0 → x.ch * x.slot * hz ≤ 98304000 → exec (.asrcRelock false p hz) s =
        ends (modSp p (fun y => { y with
          rate := hz, delay := 32 * 1000000000 / hz + 32 * 1000000000 / rateHz (rate s),
          unmute := y.unmute || y.state == 2 || y.state == 5 }) s))
    ∧ (∀ p hz s, let x := tgetD s.pipe.live.sp p {}
        98304000 < x.ch * x.slot * hz → exec (.asrcRelock false p hz) s = ends s)
    ∧ (∀ p pos validity s, aeLive s p → bit (tgetD s.pipe.live.ae p {}).flags 2 = false → pos < tickN s →
        exec (.aeSubframe p 1 pos true validity) s =
        let slot := (tgetD s.pipe.live.ae p {}).srcBase + 1
        let good := goodBefore s p 1 slot pos
        ends (modAe p (fun x => { x with parity := inc16 x.parity, valid := x.valid || validity, last1 := good })
          (modRec (cal s) (fun r => { r with
            src := putBlk r.src slot (mkBlk r.cfg.n fun j => if j = pos then good else smp (blkOf r.src slot) j) }) s)))
    ∧ (∀ p pos validity s, aeLive s p → bit (tgetD s.pipe.live.ae p {}).flags 2 →
        exec (.aeSubframe p 0 pos true validity) s =
        let slot := (tgetD s.pipe.live.ae p {}).srcBase
        ends (modAe p (fun x => { x with
          parity := inc16 x.parity, valid := x.valid || validity, last0 := goodBefore s p 0 slot pos }) s))
    ∧ (∀ p phase hz s, let x := tgetD s.pipe.live.sp p {}
        (spSt s p).state = 2 ∨ (spSt s p).state = 5 → bit x.flags 3 → 28000 ≤ hz → hz ≤ 216000 → x.ch * x.slot * hz ≤ 98304000 →
        exec (.spLock p phase hz) s = ends (modSp p (fun y => { y with
          unmute := true, phase := phase, rate := hz, delay := 32 * 1000000000 / hz + 32 * 1000000000 / rateHz (rate s) }) s))
    ∧ (∀ p phase hz s, let x := tgetD s.pipe.live.sp p {}
        bit x.flags 3 → hz < 28000 ∨ 216000 < hz ∨ 98304000 < x.ch * x.slot * hz → exec (.spLock p phase hz) s = ends s)
    ∧ (∀ p phase hz s, (aeSt s p).state = 1 ∨ (aeSt s p).state = 4 → bit (tgetD s.pipe.live.ae p {}).flags 2 → 28000 ≤ hz → hz ≤ 216000 →
        exec (.aeRelock p phase hz) s = ends (edgesBack (4 + p) (modAe p (fun y => { y with
          unmute := true, lock := true, phase := phase, rate := hz, delay := 32 * 1000000000 / hz + 32 * 1000000000 / rateHz (rate s) }) s)))
    ∧ (∀ p phase hz s, bit (tgetD s.pipe.live.ae p {}).flags 2 → hz < 28000 ∨ 216000 < hz → exec (.aeRelock p phase hz) s = ends s)

/-- A DC trip after 200 ms above the limit, loss and return of its clock, the ramp-down, the fault pin, lost feedback and a change of
frequency each change the modulator as their rule says; on the return of the clock every enabled channel that is not tripped soft-starts,
but not in Run-Shadow, with the fault pin's latch set or in a Plane reset. Rests on the model's own choices in log entries 5, 50
(notes/assumptions). (R345, R348, R349, R350, R351) -/
def Obligations.DriveModulatorEvents : Prop :=
    (∀ c s, drvOn s c → (drvCh s c).trip = false → 200000000 ≤ (drvCh s c).dcOver → exec (.dcTrip c) s =
        ends (raise 0x0901 c (modDrv c (fun d => { drvOff d with trip := true, trips := min 0xFF (d.trips + 1) }) s)))
    ∧ (∀ s, hasDrv s → s.ports.drv.clkErr = false → exec .drvClockError s =
        let on := (s.ports.drv.ch.filter fun c => c.2.run == 2 || c.2.run == 3 || c.2.run == 4).map (·.1)
        ends (raise 0x0902 0 (on.foldl (fun t c => beginRamp c t) (modModulator (fun d => { d with clkErr := true, fallback := true }) s))))
    ∧ (∀ s, s.ports.drv.clkErr → exec .drvRampDownDone s = ends (modModulator gatesOff s))
    ∧ (∀ s, s.ports.drv.clkErr → s.mode.mode = 7 ∨ s.ports.drv.fault ∨ s.pipe.running = false → exec .drvClockRestore s =
        ends (modModulator (fun d => { d with clkErr := false, fallback := false }) s))
    ∧ (∀ s, s.ports.drv.clkErr → s.mode.mode ≠ 7 → s.ports.drv.fault = false → s.pipe.running → exec .drvClockRestore s =
        let t := modModulator (fun d => { d with clkErr := false, fallback := false }) s
        ends (modModulator (fun d => ((List.range 32).filter (drvOn t)).foldl (fun d c =>
          if (tgetD d.ch c {}).trip then d else { d with ch := tmod d.ch c {} fun x => { x with run := 2 } }) d) t))
    ∧ (∀ high s, hasDrv s → s.ports.drv.faultN = false → exec (.drvFault high) s = ends (modModulator (fun d => { d with faultN := high }) s))
    ∧ (∀ high s, hasDrv s → s.ports.drv.faultN → exec (.drvFault high) s =
        ends (raise 0x0903 0 (modModulator (fun d => { gatesOff d with fault := true, faultN := high }) s)))
    ∧ (∀ c s, drvOn s c → bit (drvCfg s c).flags 1 → (drvCh s c).run = 3 → (drvCh s c).fbLost = false → exec (.fbLost c) s =
        ends (raise 0x0904 c (modDrv c (fun d => { d with fbLost := true }) s)))
    ∧ (∀ v s, s.ports.drv.pendCode = some v → exec .drvFreqChange s =
        ends { s with ports := { s.ports with drv := { s.ports.drv with code := v, pendCode := none } } })
    ∧ (∀ s, s.ports.drv.pendCode = none → exec .drvFreqChange s = ends s)
    ∧ (∀ c s, let d := drvCh (beginRamp c s) c
        d.run = 4 ∧ d.index.length = tickN s ∧ (∀ v ∈ d.index, v.natAbs ≤ 19 * 2 ^ 23) ∧ d.pwm = d.index.map dutyOf)

/-- Insertion, classification, removal, presses and their reports, the end of a tone and the Limp announcement each change the plug and
the event queue as their rule says. (R357, R358, R360, R658, R659) -/
def Obligations.PlugEvents : Prop :=
    (∀ s, detects s.mode.mode → s.ports.slp.plug = false → exec .slpInsertion s = ends (modSlp (fun p => { p with plug := true, kind := 0 }) s))
    ∧ (∀ mv s, detects s.mode.mode → s.ports.slp.plug → s.ports.slp.kind = 0 → s.mode.mode ≠ 3 → limping s = false →
        exec (.slpClassify mv) s =
        let k := if mv < 150 then 1 else if mv ≤ 1650 then 2 else 3
        ends (slpEvent 1 k (modSlp (fun p => { p with kind := k }) s)))
    ∧ (∀ mv s, 150 ≤ mv → mv ≤ 1650 → limping s → detects s.mode.mode → s.ports.slp.plug → s.ports.slp.kind = 0 →
        exec (.slpClassify mv) s = ends (playAll limpTones (slpEvent 1 2 (modSlp (fun p => { p with kind := 2 }) s))))
    ∧ (∀ s, detects s.mode.mode → s.ports.slp.plug → exec .slpRemoval s =
        ends (slpEvent 2 0 (modSlp (fun p => { p with plug := false, kind := 0, press := false, long := false, held := false }) s)))
    ∧ (∀ s, detects s.mode.mode → s.ports.slp.kind = 2 → s.ports.slp.press = false → exec .slpPress s =
        ends (modSlp (fun p => { p with press := true, long := false, held := false }) s))
    ∧ (∀ s, s.ports.slp.press → s.ports.slp.held = false → exec .slpHeldPressThreshold s =
        ends (reportPresses (modSlp (fun p => { p with held := true }) s)))
    ∧ (∀ s, s.ports.slp.press → s.ports.slp.long = false → exec .slpLongPress s =
        ends (longPress (if s.ports.slp.held then s else reportPresses s)))
    ∧ (∀ s, s.ports.slp.press → s.ports.slp.long = false → s.ports.slp.held = false → exec .slpPressRelease s =
        ends (modSlp (fun p => { p with press := false, shorts := p.shorts + 1 }) s))
    ∧ (∀ s, s.ports.slp.press → s.ports.slp.long = false → s.ports.slp.held → exec .slpPressRelease s =
        ends (slpEvent 6 0 (modSlp (fun p => { p with press := false, long := false, held := false }) s)))
    ∧ (∀ s, s.ports.slp.press = false → exec .slpSequenceReport s = ends (reportPresses s))
    ∧ (∀ s, s.ports.slp.press = false → s.ports.slp.shorts = 1 → s.mode.mode ≠ 3 →
        exec .slpSequenceReport s = ends (slpEvent 3 0 (modSlp (fun p => { p with shorts := 0 }) s)))
    ∧ (∀ s, s.ports.slp.press = false → s.ports.slp.shorts = 2 →
        exec .slpSequenceReport s = ends (slpEvent 4 0 (modSlp (fun p => { p with shorts := 0 }) s)))
    ∧ (∀ s, s.ports.slp.press = false → 3 ≤ s.ports.slp.shorts →
        exec .slpSequenceReport s = ends (slpEvent 7 (min 15 s.ports.slp.shorts) (modSlp (fun p => { p with shorts := 0 }) s)))
    ∧ (∀ s, s.ports.slp.tone.isSome → s.ports.slp.tones ≠ [] → exec .slpToneEnd s = ends (nextTone s))
    ∧ (∀ s, s.ports.slp.tone.isSome → s.ports.slp.tones = [] → exec .slpToneEnd s = ends (afterTone (modSlp (fun p => { p with tone := none }) s)))
    ∧ (∀ s, limping s → s.ports.slp.kind = 2 → exec .limpAnnounce s = ends (playAll limpTones s))

/-- Loss of the always-on supply, power-on, brown-out of each kind of rail, settled rails, power-fail, shut-down, the return of supply,
AVS exchanges, thermal trip and release, the reset pin, the test pin and the wake pattern each answer a next state. Rests on the model's
own choices in log entries 32, 33 (notes/assumptions). (R36, R414, R569, R631, R633, R634, R636, R662, R665, R666, R669, R672) -/
def Obligations.PowerEvents : Prop :=
    (∀ s, s.mode.mode ≠ 0 → exec .vaonLoss s = ends (goOff s))
    ∧ (∀ bs cm te s, exec (.powerOnReset bs cm te) s = ends (powerOn bs cm te s))
    ∧ (∀ s, s.mode.mode ≠ 0 → exec (.brownOut railVaon) s = ends (goOff s))
    ∧ (∀ rail s, s.mode.mode ≠ 0 → rail ≤ 13 → meterRail rail = false → rail ≠ railVaon → shutting s = false →
        exec (.brownOut rail) s = ends (faultReset 0x1001 rail (railDepth s rail) (railCause rail) s))
    ∧ (∀ s, (goOff s).mode.mode = 0 ∧ (goOff s).mode.prev = s.mode.mode ∧ (goOff s).boot.halted)
    ∧ (∀ s, s.boot.rising → exec .railsSettled s = ends (bringUpGate (holdReset (modBoot (fun b => { b with rising := false }) s))))
    ∧ (∀ s, 3 ≤ s.mode.mode → s.power.seq = 0 → exec .pwrfail s = ends (beginShutdown { s with power := { s.power with pwrLow := true } }))
    ∧ (∀ s, s.mode.mode ≠ 0 → s.mode.mode ≠ 2 → s.mode.mode < 3 ∨ s.power.seq ≠ 0 → exec .pwrfail s =
        ends { s with power := { s.power with pwrLow := true } })
    ∧ (∀ s, s.power.seq ≠ 0 → exec .shutdownCaptureDone s = ends (endShutdown s))
    ∧ (∀ s, s.mode.mode ≠ 0 → s.power.seq ≠ 0 → exec .supplyReturn s = ends { s with power := { s.power with pwrLow := false, back := true } })
    ∧ (∀ s, s.mode.mode ≠ 0 → s.power.seq = 0 → s.mode.parked → exec .supplyReturn s =
        ends (warmStart 0x2000 { s with power := { s.power with pwrLow := false } }))
    ∧ (∀ s, s.mode.mode ≠ 0 → s.power.seq = 0 → s.mode.parked = false → exec .supplyReturn s =
        ends { s with power := { s.power with pwrLow := false } })
    ∧ (∀ v s, s.power.pend = some v → 2 ≤ s.mode.mode → exec .avsRequest s = ends (sendAvs v s))
    ∧ (∀ s, s.power.slew → 2 ≤ s.mode.mode → exec .avsSlewDone s =
        ends { s with power := { s.power with slew := false, setp := s.power.sent, low := s.power.sent } })
    ∧ (∀ s, s.power.slew → 2 ≤ s.mode.mode → exec .avsTimeout s =
        ends (raise 0x1003 0 { s with power := { s.power with noResp := true, pend := none, target := s.power.sent } }))
    ∧ (∀ n s, s.mode.mode ≠ 0 → exec (.thermalTrip n) s =
        ends (holdReset (modBoot (fun b => { b with hot := true }) (faultReset 0x1002 n depthSystem 0x800 s))))
    ∧ (∀ s, s.boot.hot → exec .thermalRelease s = ends (bringUpGate (holdReset (modBoot (fun b => { b with hot := false }) s))))
    ∧ (∀ s, 2 ≤ s.mode.mode → s.boot.rising = false → exec .resetNAssert s =
        ends (holdReset (resetNow (if s.boot.opt.resetMap = 1 then depthWarm else depthSystem) 0x40 (modBoot (fun b => { b with pinLow := true }) s))))
    ∧ (∀ s, s.mode.mode = 1 → s.boot.rising = false → exec .resetNAssert s =
        ends (holdReset (resetNow (if s.boot.opt.resetMap = 1 then depthWarm else depthSystem) 0x4040 (modBoot (fun b => { b with pinLow := true }) s))))
    ∧ (∀ s, s.mode.mode ≠ 0 → exec .resetNRelease s = ends (bringUpGate (holdReset (modBoot (fun b => { b with pinLow := false }) s))))
    ∧ (∀ s, s.mode.mode ≠ 4 → trustCeiling (modBoot (fun b => { b with testEn := false }) s) = trustCeiling s →
        exec .testEnFall s = ends (modBoot (fun b => { b with testEn := false }) s))
    ∧ (∀ s, s.mode.mode = 4 → trustCeiling (modBoot (fun b => { b with testEn := false }) s) = trustCeiling s →
        exec .testEnFall s = ends (resetNow depthSystem 0x8000 (modBoot (fun b => { b with testEn := false }) s)))
    ∧ (∀ f s, s.mode.mode = 1 → wakes s f → exec (.wakePatternMatch f true) s = ends (warmStart 0x4000 s))

/-- Almanac firing, the tick boundary (with the work of the tick where the data plane runs on at the time base it had), the end of a ramp,
a woken tile, concealment that runs out, the chain deadline, meter blocks, silence hold, parking, the checkpoint of the DST check, a late
boundary, handover and takeover each answer a next state. Rests on the model's own choices in log entries 8, 9, 10, 65
(notes/assumptions). (R62, R77, R92, R97, R177, R240, R252, R259, R352, R391, R466, R590) -/
def Obligations.TickEvents : Prop :=
    (∀ e s, almDue s (cal s + 1) (almAt s e) → almHeld s (almAt s e) = false → (almAt s e).action = 1 ∨ (almAt s e).action = 4 →
        exec (.almanacFire e) s = ends (fireAlm e (cal s + 1) s))
    ∧ (∀ x s, ticking s = false → exec (.tickBoundary x) s = ends s)
    ∧ (∀ x s, let u := settleEvents (finishInput (deadline s))
        let c := cal u + 1
        let t := fireDue c u
        let t := { t with
          pipe := { t.pipe with cal := c }, clock := clockTo (tickStart { t with pipe := { t.pipe with cal := c } } c) t.clock,
          flt := { t.flt with tickOk := true } }
        let v := commit c (pairBoundary c (freeUnloaded t))
        ticking s → t.mode.dormant = none → cal v = c → tickStart v c = v.clock.now → v.pipe.running →
        exec (.tickBoundary x) s = ends (tickWork x c v))
    ∧ (∀ col s, rampDone (rampAt s.sward col) → exec (.rampEnd col) s = ends { s with sward := finishCol col s.sward })
    ∧ (∀ t s, (tgetD s.sward.tiles t {}).state = 1 → exec (.tileWakeDone t) s =
        ends { s with sward := { s.sward with tiles := tset s.sward.tiles t { tgetD s.sward.tiles t {} with state := 2 } } })
    ∧ (∀ source flow x f s, tget s.pipe.live.flowIn (flowKey source flow) = some x → tget s.links.flows (flowKey source flow) = some f →
        f.state = 2 → (f.missing.any fun m => decide (x.conceal ≤ m)) → exec (.concealExpiry source flow) s =
        ends { s with links := { s.links with flows := tupd s.links.flows (flowKey source flow) fun f => { f with state := 3 } } })
    ∧ (∀ s, exec .chainDeadline s = ends (deadline s))
    ∧ (∀ s, s.pipe.running → s.pipe.mid → (deadline s).pipe.mid = false)
    ∧ (∀ i s, exec (.coarseBlockEnd i) s = ends { s with fixed := { s.fixed with meters := tupd s.fixed.meters i coarseEnd } })
    ∧ (∀ i s, exec (.slowPathReady i) s =
        ends { s with fixed := { s.fixed with meters := tupd s.fixed.meters i (slowReady (tgetD s.pipe.live.meters i {})) } })
    ∧ (∀ slot s, isSilent s 3 slot → exec (.silenceHoldExpiry 3 slot) s =
        let stops := fun (c : Nat) (d : DrvCh) =>
          bit (drvCfg s c).flags 0 && bit (drvCfg s c).flags 3 && (drvCfg s c).dst == slot && (d.run == 2 || d.run == 3)
        ends (((s.ports.drv.ch.filter fun d => stops d.1 d.2).map (·.1)).foldl (fun t c => beginRamp c t) s))
    ∧ (∀ h c s, chainAt s h = some c → parkDue s c → exec (.parkHoldExpiry h) s = ends (park h s))
    ∧ (∀ r s, (s.pipe.recs.find? fun r => r.k % 1024 == 0 && decide (r.k + 3 < cal s || (r.k + 3 == cal s && !s.pipe.mid))) = some r →
        paired s → (∀ c, s.pair.check = some c → c.1 ≠ r.k) →
        exec .dstCheck s = ends (compareCheck (modPair (fun p => { p with check := some (r.k, dstCrc r), chkNew := true }) s)))
    ∧ (∀ s, s.pipe.running → exec .tickBoundaryLate s = ends (raise 0x0101 0 { s with pair := { s.pair with actOut := false } }))
    ∧ (∀ s, handDue s (cal s) → s.mode.mode = 6 → exec .handover s = ends (toShadow s))
    ∧ (∀ s, takeDue s (cal s) → exec .takeover s = ends (takeOver s))

/-- A request that reception admits (its form, CRC, role, credential and place in its queue) is queued or executed under its acceptance
number, whichever transport brought it: a link, a datagram whole, or the request ring. A doorbell of the request ring fetches what it
announces, one of the reply ring posts buffers and delivers the replies that wait; either beyond its ring is a ring error. A fragment
waits for the rest of its datagram, a reassembly runs out, and a relay is completed by its reply or by time. Rests on the model's own
choices in log entries 6, 39 (notes/assumptions). (R520, R541, R543, R546, R548) -/
def Obligations.TransportEvents : Prop :=
    (∀ src ret bytes s, exec (.gcpRequestReceived src ret bytes) s = ends (rxRequest src ret bytes s))
    ∧ (∀ src ret bytes s, admits src ret bytes s → exec (.gcpRequestReceived src ret bytes) s = ends (admitted src ret bytes s))
    ∧ (∀ v mem s, let lead := (v % 65536 + 65536 - s.win.reqCons) % 65536
        2 ≤ s.mode.mode → s.boot.halted = false → s.win.reqEn → lead ≤ 2 ^ s.win.reqSize → exec (.winReqProdWrite v mem) s =
        ends (fetchAll { s with win := { s.win with
          reqProd := v % 65536, fetched := (s.win.fetched ++ mem ++ List.replicate lead ([], none)).take lead } }))
    ∧ (∀ v (d : List Byte × Option (List Byte)) p rest s,
        let u := { s with
          win := { s.win with reqProd := v % 65536, fetched := [], reqCons := (s.win.reqCons + 1) % 65536 }
          wire := s.wire ++ [{ kind := .ringRead, a := s.win.reqBase + 16 * (s.win.reqCons % 2 ^ s.win.reqSize), b := le d.1 0 8, c := le d.1 8 4 }] }
        packetOf d = some p →
        (v % 65536 + 65536 - s.win.reqCons) % 65536 = 1 → s.win.reqEn → s.win.fetched = [] → s.win.waiting.length < 256 → cpListens s →
        admits .pcie (0, 0) p u → exec (.winReqProdWrite v (d :: rest)) s = ends (admitted .pcie (0, 0) p u))
    ∧ (∀ v mem s, 2 ≤ s.mode.mode → s.boot.halted = false → 2 ^ s.win.reqSize < (v % 65536 + 65536 - s.win.reqCons) % 65536 →
        exec (.winReqProdWrite v mem) s = ends (ringErr s))
    ∧ (∀ v bufs s, let lead := (v % 65536 + 65536 - s.win.rplDone) % 65536
        2 ≤ s.mode.mode → s.boot.halted = false → s.win.rplEn → lead ≤ 2 ^ s.win.rplSize → s.win.waiting = [] → s.win.fetched = [] →
        exec (.winRplProdWrite v bufs) s = ends { s with win := { s.win with rplProd := v % 65536, posted := (s.win.posted ++ bufs.map fun d => (le d.1 0 8, le d.1 8 4, d.2)).take lead } })
    ∧ (∀ v (d : List Byte × Bool) rest p s, let addr := le d.1 0 8
        let at_ := s.win.rplBase + 16 * (s.win.rplDone % 2 ^ s.win.rplSize)
        let t := { s with win := { s.win with rplProd := v % 65536, posted := [(addr, le d.1 8 4, true)] } }
        2 ≤ s.mode.mode → s.boot.halted = false → s.win.rplEn → (v % 65536 + 65536 - s.win.rplDone) % 65536 = 1 → s.win.posted = [] →
        s.win.waiting = [p] → s.win.fetched = [] → p.length ≤ le d.1 8 4 → d.2 = true → exec (.winRplProdWrite v (d :: rest)) s =
        ends (msixFrom (intStat t) { t with
          wire := t.wire ++ [{ kind := .hostReply, a := addr, bytes := p }] ++ [{ kind := .ringDesc, a := at_, b := 1, c := p.length, bytes := toLE 8 addr ++ toLE 4 p.length ++ toLE 2 1 ++ zeroBytes 2 }]
          win := { t.win with posted := [], waiting := [], rplDone := (s.win.rplDone + 1) % 2 ^ 16, stReply := true } }))
    ∧ (∀ v bufs s, 2 ≤ s.mode.mode → s.boot.halted = false → 2 ^ s.win.rplSize < (v % 65536 + 65536 - s.win.rplDone) % 65536 →
        exec (.winRplProdWrite v bufs) s = ends (ringErr s))
    ∧ (∀ port dest ip sport ident bytes s, let u := if port = 0 then s else modAl (port - 1) (fun a => { a with recv := inc16 a.recv }) s
        cpListens s → udpOn s port → udpTaken s port dest → bytes.length ≤ 4140 → admits (udpSrc port) (ip, sport) bytes u →
        exec (.udpDatagram port dest (ip, sport) ident 0 false bytes) s = ends (admitted (udpSrc port) (ip, sport) bytes u))
    ∧ (∀ dest ip sport ident off (more : Bool) bytes s, let old := (s.cp.reasm.find? (isReasm 0 ip ident)).getD { port := .mg, ident := ip * 65536 + ident }
        let y := { old with
            got := if old.got.any (fun g => g.1 == off) then old.got else old.got ++ [(off, bytes)],
            last := if more then old.last else some (off + bytes.length) }
        cpListens s → udpOn s 0 → udpTaken s 0 dest → off ≠ 0 ∨ more → off + bytes.length ≤ 4140 →
        (s.cp.reasm.find? (isReasm 0 ip ident)).isSome ∨ (s.cp.reasm.filter fun x => decide (x.port = .mg)).length < 8 → whole y = none →
        exec (.udpDatagram 0 dest (ip, sport) ident off more bytes) s =
          ends { s with cp := { s.cp with reasm := (s.cp.reasm.filter fun x => !isReasm 0 ip ident x) ++ [y] } })
    ∧ (∀ p ip ident s, exec (.reassemblyTimeout p ip ident) s =
        ends { s with cp := { s.cp with reasm := s.cp.reasm.filter fun x => !isReasm p ip ident x } })
    ∧ (∀ node bytes w s, cpListens s → (w.req.src = .link → bytes.length ≤ 1440) →
        (s.cp.relays.find? fun w => w.node == node && be w.req.params 6 2 == be bytes 2 2 && be w.req.params 8 2 == be bytes 4 2) = some w →
        exec (.relayReply node bytes) s =
        ends (finish w.req OK 0 0 false false bytes { s with cp := { s.cp with relays := s.cp.relays.filter fun x => x.req.acc != w.req.acc } }))
    ∧ (∀ acc w s, cpListens s → (s.cp.relays.find? fun w => w.req.acc == acc) = some w → exec (.relayTimeout acc) s =
        ends (finish w.req BUSY 0 0 false false [] { s with cp := { s.cp with relays := s.cp.relays.filter fun x => x.req.acc != acc } }))
end

