-- ==== Sys2Proof/Laws/Tables.lean ====
section
/-! SUPPORT. Laws of the sparse tables: reading after writing, and what each operation leaves. -/

namespace Sys2Proof.Laws

open Sys2Proof.Machine

/-- Reading the entry just written. -/
@[simp] theorem tget_tset_self {α : Type} (t : Tab α) (i : Nat) (x : α) : tget (tset t i x) i = some x := by
  induction t with
  | nil => simp [tset, tget]
  | cons e r ih =>
    obtain ⟨k, v⟩ := e
    simp only [tset]
    split
    · simp [tget]
    · split
      · simp [tget]
      · rename_i h1 h2
        simp [tget, h1, h2, ih]

/-- Reading another entry than the one written. -/
theorem tget_tset_other {α : Type} (t : Tab α) {i j : Nat} (x : α) (h : j ≠ i) : tget (tset t i x) j = tget t j := by
  induction t with
  | nil => simp [tset, tget, Ne.symm h]
  | cons e r ih =>
    obtain ⟨k, v⟩ := e
    simp only [tset]
    split
    · rename_i h1
      simp only [tget, Ne.symm h, if_false]
      split
      · have : ¬ k = j := by omega
        have h3 : j < k := by omega
        simp [this, h3]
      · rfl
    · split
      · rename_i h2
        subst h2
        simp [tget, Ne.symm h]
      · simp only [tget, ih]

/-- Writing back what an entry holds changes nothing. -/
theorem tset_of_tget {α : Type} (t : Tab α) (i : Nat) (x : α) (h : tget t i = some x) : tset t i x = t := by
  induction t with
  | nil => simp [tget] at h
  | cons e r ih =>
    obtain ⟨k, v⟩ := e
    simp only [tget] at h
    simp only [tset]
    by_cases hk : k = i
    · subst hk
      simp at h
      simp [h]
    · by_cases hl : i < k
      · simp [hk, hl] at h
      · simp only [hk, hl, if_false] at h ⊢
        rw [ih h]

/-- Reading the entry just changed. -/
@[simp] theorem tgetD_tmod {α : Type} (t : Tab α) (i : Nat) (d : α) (f : α → α) : tgetD (tmod t i d f) i d = f (tgetD t i d) := by
  simp [tgetD, tmod]

/-- Writing one entry twice. -/
@[simp] theorem tset_tset {α : Type} (t : Tab α) (i : Nat) (x y : α) : tset (tset t i x) i y = tset t i y := by
  induction t with
  | nil => simp [tset]
  | cons e r ih =>
    obtain ⟨k, v⟩ := e
    simp only [tset]
    by_cases h1 : i < k
    · simp [h1, tset]
    · by_cases h2 : k = i
      · simp [h2, tset]
      · simp [h1, h2, tset, ih]

/-- Changing one entry twice. -/
@[simp] theorem tmod_tmod {α : Type} (t : Tab α) (i : Nat) (d : α) (f g : α → α) :
    tmod (tmod t i d f) i d g = tmod t i d fun x => g (f x) := by
  simp only [tmod, tgetD, tget_tset_self, Option.getD_some, tset_tset]

/-- A change that leaves the entry as it is. -/
theorem tupd_id {α : Type} (t : Tab α) (i : Nat) (f : α → α) (h : ∀ x, f x = x) : tupd t i f = t := by
  unfold tupd
  split
  · rename_i v hv
    rw [h]
    exact tset_of_tget t i v hv
  · rfl

/-- Reading an entry after every entry has been changed. -/
@[simp] theorem tget_tmapK {α β : Type} (f : Nat → α → β) (t : Tab α) (i : Nat) : tget (tmapK f t) i = (tget t i).map (f i) := by
  induction t with
  | nil => rfl
  | cons e r ih =>
    obtain ⟨k, v⟩ := e
    simp only [tmapK, tget]
    by_cases h : k = i
    · subst h; simp
    · by_cases h2 : i < k
      · simp [h, h2]
      · simp [h, h2, ih]

/-- Reading an entry after every entry has been changed alike. -/
@[simp] theorem tget_tmap {α β : Type} (f : α → β) (t : Tab α) (i : Nat) : tget (tmap f t) i = (tget t i).map f := tget_tmapK _ t i

end Sys2Proof.Laws
end

