-- ==== Sys2Proof/Laws/Arrivals.lean ====
section
/-! SUPPORT. What a frame, a pair message and a request packet do that go through: each is one equation, which a proof cites in place of the
steps of its reception. -/

namespace Sys2Proof.Laws

open Sys2Proof.Machine Sys2Proof.Safety

/-! ## Bytes as they are written -/

@[simp] theorem length_toBE (n v : Nat) : (toBE n v).length = n := by simp [toBE]

@[simp] theorem length_toLE (n v : Nat) : (toLE n v).length = n := by simp [toLE]

theorem toBE_succ (n v : Nat) : toBE (n + 1) v = BitVec.ofNat 8 (v / 256 ^ n) :: toBE n v := by
  unfold toBE
  rw [List.range_succ_eq_map, List.map_cons, List.map_map]
  congr 1
  apply List.map_congr_left
  intro i hi
  have hi' : i < n := List.mem_range.1 hi
  have : n + 1 - 1 - (i + 1) = n - 1 - i := by omega
  simp only [Function.comp, Nat.succ_eq_add_one, this]

/-- Reading a big-endian field as it was written (13 R511). -/
theorem ofBE_toBE (n v a : Nat) : ofBE (toBE n v) a = a * 256 ^ n + v % 256 ^ n := by
  induction n generalizing a with
  | zero => simp [toBE, ofBE, Nat.mod_one]
  | succ n ih =>
    rw [toBE_succ, ofBE, ih, BitVec.toNat_ofNat]
    have h : v % 256 ^ (n + 1) = v / 256 ^ n % 256 * 256 ^ n + v % 256 ^ n := by
      rw [Nat.pow_succ, Nat.mod_mul, Nat.mul_comm, Nat.add_comm]
    rw [h, Nat.add_mul, Nat.mul_assoc, Nat.mul_comm 256 (256 ^ n), ← Nat.pow_succ, Nat.add_assoc]

/-- The field after a prefix. -/
theorem be_after (x : List Byte) (n v : Nat) (r : List Byte) : be (x ++ toBE n v ++ r) x.length n = v % 256 ^ n := by
  unfold be
  rw [List.append_assoc, List.drop_left, List.take_left' (length_toBE n v), ofBE_toBE, Nat.zero_mul, Nat.zero_add]

/-! ## Frames -/

/-- A frame that comes with its own FCS is whole (10 R375). -/
@[simp] theorem fcsGood_fcsOf (b : List Byte) : fcsGood b (fcsOf b) = true := beq_self_eq_true _

/-- A frame with any other FCS is not. -/
theorem fcsGood_iff (b : List Byte) (c : Nat) : fcsGood b c = true ↔ c = fcsOf b := beq_iff_eq

/-- Reading a link port after a change of any port's status that keeps its state. -/
theorem linkUp_modLink (p q : Nat) (f : LinkSt → LinkSt) (s : State) (h : ∀ l, (f l).state = l.state) :
    linkUp (modLink p f s) q = linkUp s q := by
  unfold linkUp linkSt modLink tmod tgetD
  by_cases e : q = p
  · subst e
    simp [h]
  · simp [tget_tset_other _ _ e]

/-- Counting a frame takes no port down. -/
@[simp] theorem linkUp_countFrame (p q : Nat) (good : Bool) (s : State) : linkUp (countFrame p good s) q = linkUp s q :=
  linkUp_modLink p q _ s fun _ => rfl

/-- A frame that this node consumes is counted, forwarded and used (10 R395). -/
theorem frameIn_consumed {p ty : Nat} {fr : List Byte} {s : State} (h : consumes p ty fr s = true) (use : State → State) :
    frameIn p ty fr (fcsGood fr (fcsOf fr)) use s = use (passed p fr s) := by
  simp only [consumes, Bool.and_eq_true, beq_iff_eq] at h
  obtain ⟨⟨hu, hf⟩, ht⟩ := h
  unfold frameIn passed
  simp only [hu, fcsGood_fcsOf, hf, ht, Bool.not_true, Bool.false_eq_true, if_false, beq_self_eq_true, Bool.and_self, if_true]

/-- A frame that goes further: what is left of forwarding it (10 R378, R395). -/
theorem forward_on {p : Nat} {f : List Byte} {good : Bool} {s : State} (ho : ownFrame s f = false) (he : hopEnd s f = false)
    (hs : isSogus s f = true) (hk : knownType f = true) :
    forward p f good s =
      match destNode f with
      | some n =>
        if s.links.node ≠ 0 ∧ n = s.links.node then s
        else if !thas s.links.dir n then modLink p (fun l => { l with noEntry := inc16 l.noEntry }) s
        else ((routeTo s n).filter (unicastOut s p)).foldl (fun t q => sendCopy f good q t) s
      | none =>
        match destGroup f with
        | some g => ((groupPorts s g).filter (· != p)).foldl (fun t q => sendCopy f good q t) s
        | none => s := by
  unfold forward
  rw [ho, he, hs, hk]
  rfl

/-- A frame at the hop limit is counted and goes no further (10 R395 step 3). -/
theorem forward_hopEnd {p : Nat} {f : List Byte} {good : Bool} {s : State} (ho : ownFrame s f = false) (he : hopEnd s f = true) :
    forward p f good s = modLink p (fun l => { l with hopLimit := inc16 l.hopLimit }) s := by
  unfold forward
  simp only [ho, he, Bool.false_eq_true, if_false, if_true]

/-! ## Pair messages -/

/-- A message in one fragment is whole. -/
theorem joinBody_one (b : List Byte) : joinBody 1 [(0, b)] = some b := by simp [joinBody, List.range_succ]

/-- A pair message that this node accepts is used, with its number and its body (15 R583-R586). -/
theorem pairFrame_message {p k : Nat} {fr : List Byte} {s : State} (h : message p k fr s = true) (use : Nat → List Byte → State → State) :
    pairFrame p k fr (fcsOf fr) use s = use (messageSeq fr) (messageBody fr) (heard p k fr s) := by
  simp only [message, Bool.and_eq_true, beq_iff_eq] at h
  obtain ⟨⟨⟨⟨⟨⟨⟨hc, hp⟩, hm⟩, h1⟩, hs⟩, ha⟩, hn⟩, hf⟩ := h
  have ht : frameType fr = 3 := by
    simp only [consumes, Bool.and_eq_true, beq_iff_eq] at hc
    exact hc.2
  unfold pairFrame
  rw [frameIn_consumed hc]
  unfold pairIn
  have hn' : pairNew (pathHeard p (passed p fr s)) (be (framePayload fr) 14 2) (be (framePayload fr) 4 4) = true := hn
  have hb : joinBody (byteAt (framePayload fr) 1 % 16)
      [(byteAt (framePayload fr) 1 / 16, ((framePayload fr).drop 16).take (be (framePayload fr) 2 2))]
        = some (messageBody fr) := by
    rw [h1]; exact joinBody_one _
  have hv : ∀ u : State, (if k = 1 then pathHeard p (passed p fr s) else passed p fr s) = u → u.pair.frag = (passed p fr s).pair.frag := by
    intro u hu; subst hu; split <;> rfl
  have hn2 : pairNew (if k = 1 then pathHeard p (passed p fr s) else passed p fr s) (be (framePayload fr) 14 2)
      (be (framePayload fr) 4 4) = true := by split <;> assumption
  simp only [hp, ht, hm, hs, ha, Bool.not_true, Bool.false_eq_true, if_false, ne_eq, not_true_eq_false, or_self, hn2]
  rw [hv _ rfl]
  cases e : (passed p fr s).pair.frag with
  | none =>
    simp only [List.any_nil, Bool.false_eq_true, if_false, List.nil_append, hb]
    rfl
  | some x =>
    rw [e] at hf
    have hx : x.1 ≠ be (framePayload fr) 4 4 := by simpa using hf
    simp only [hx, if_false, List.any_nil, Bool.false_eq_true, List.nil_append, hb]
    rfl

/-- A pair message is authentic when its last 16 bytes are the seal of its header and its payload (15 R585). -/
theorem pairAuth_sealed {s : State} {d h p : List Byte} (hd : d.length = 18) (hh : h.length = 16) (hp : 16 + be (p ++ auth16 s.pair.key (h ++ p)) 2 2 = p.length)
    (hk : s.pair.key ≠ []) : pairAuth s (d ++ h ++ p ++ auth16 s.pair.key (h ++ p)) = true := by
  have hf : framePayload (d ++ h ++ p ++ auth16 s.pair.key (h ++ p)) = p ++ auth16 s.pair.key (h ++ p) := by
    unfold framePayload
    rw [List.append_assoc, List.drop_left' (by simp [hd, hh])]
  have h1 : ((d ++ h ++ p ++ auth16 s.pair.key (h ++ p)).drop 18).take 16 = h := by
    rw [List.append_assoc, List.append_assoc, List.drop_left' hd, List.take_left' hh]
  have h2 : ∀ m : List Byte, auth16 s.pair.key m = (auth16 s.pair.key m).take 16 := by intro m; simp [auth16, List.take_take]
  unfold pairAuth
  dsimp only
  rw [hf, hp, h1, List.drop_left, List.take_left, ← h2]
  simp [hk]

/-- A whole pair message of one fragment that carries its seal, with what is left to check of it. -/
theorem message_sealed {p k : Nat} {d h x b : List Byte} {s : State} (hb : b = d ++ h ++ x ++ auth16 s.pair.key (h ++ x)) (hd : d.length = 18)
    (hh : h.length = 16) (hx : 16 + be (x ++ auth16 s.pair.key (h ++ x)) 2 2 = x.length) (hk : s.pair.key ≠ [])
    (hc : (linkUp s p && forUs s true b && frameType b == 3) = true)
    (hr : (let u := forward p b true (countFrame p true s)
      let y := framePayload b
      paired u && byteAt y 0 == k && byteAt y 1 == 1 && frameSource b == u.pair.cfg.partner && u.pair.key == s.pair.key
        && pairNew u (be y 14 2) (be y 4 4) && u.pair.frag.isNone) = true) :
    message p k b s = true := by
  dsimp only at hr
  simp only [Bool.and_eq_true, beq_iff_eq, Option.isNone_iff_eq_none] at hr
  obtain ⟨⟨⟨⟨⟨⟨h1, h2⟩, h3⟩, h4⟩, h5⟩, h6⟩, h7⟩ := hr
  unfold message passed
  have ha : pairAuth (forward p b true (countFrame p true s)) b = true := by
    generalize forward p b true (countFrame p true s) = u at h5
    subst hb
    rw [← h5] at hx hk ⊢
    exact pairAuth_sealed hd hh hx hk
  have hc : consumes p 3 b s = true := hc
  dsimp only
  rw [hc, h1, ha, h6, h7]
  simp [h2, h3, h4]

/-! ## Request packets -/

/-- The number of a CRC fits its four bytes. -/
theorem crc32c_lt (b : List Byte) : crc32c b < 256 ^ 4 := by
  unfold crc32c
  exact BitVec.isLt _

/-- A packet that ends in the CRC of what stands before it passes step 2 of its reception (13 R514). -/
theorem crc_sealed {src : Src} {ret : Nat × Nat} (x : List Byte) :
    (crc32c ((x ++ toBE 4 (crc32c x)).take ((x ++ toBE 4 (crc32c x)).length - 4)) == (parseReq src ret (x ++ toBE 4 (crc32c x))).crc) = true := by
  have h : (parseReq src ret (x ++ toBE 4 (crc32c x))).crc = be (x ++ toBE 4 (crc32c x)) ((x ++ toBE 4 (crc32c x)).length - 4) 4 := rfl
  rw [h, List.length_append, length_toBE, Nat.add_sub_cancel, List.take_left]
  have := be_after x 4 (crc32c x) []
  rw [List.append_nil] at this
  rw [this, Nat.mod_eq_of_lt (crc32c_lt x)]
  exact beq_self_eq_true _

/-- An AUTH field has 16 bytes (13 R513). -/
@[simp] theorem length_auth16 (k m : List Byte) : (auth16 k m).length = 16 := by
  simp [auth16, hmac, sha256, olist]

/-- A packet that ends in the seal of what stands before it passes step 4 of its reception, under the key of its credential (13 R513). -/
theorem authOk_sealed {s : State} {r : Req} {x c : List Byte} (hx : x.length = 24 + be (x ++ auth16 (keyOf s r.role r.slot) x ++ c) 6 2)
    (hk : keyOf s r.role r.slot ≠ []) : authOk s r (x ++ auth16 (keyOf s r.role r.slot) x ++ c) = true := by
  unfold authOk authField
  dsimp only
  rw [← hx, List.append_assoc, List.take_left, List.drop_left, List.take_left' (length_auth16 _ _)]
  simp [hk]

/-- A packet that ends in the CRC of what stands before it, with what is left to check of it (13 R520). -/
theorem admits_sealed {src : Src} {ret : Nat × Nat} {x : List Byte} {s : State}
    (hl : lengthOk src (x ++ toBE 4 (crc32c x)) = true)
    (ha : (locallyTrusted s src (parseReq src ret (x ++ toBE 4 (crc32c x))).role (parseReq src ret (x ++ toBE 4 (crc32c x))).slot
      (authField (x ++ toBE 4 (crc32c x))) || authOk s (parseReq src ret (x ++ toBE 4 (crc32c x))) (x ++ toBE 4 (crc32c x))) = true)
    (hr : (let p := x ++ toBE 4 (crc32c x)
      let r := parseReq src ret p
      let u := seqNoted r s
      let q := { r with trust := locallyTrusted s src r.role r.slot (authField p) }
      cpListens s && src != .pair && (src != .link || s.links.node != 0) && fieldsOk p && seqOk s r && opcodeOk r && roleOk r
        && (modeStatus u q).isNone && !absentUnit u q && decide (queueLen u (queueOf r) < queueCap (queueOf r))) = true) :
    admits src ret (x ++ toBE 4 (crc32c x)) s = true := by
  dsimp only at hr
  simp only [Bool.and_eq_true] at hr
  obtain ⟨⟨⟨⟨⟨⟨⟨⟨⟨h1, h2⟩, h3⟩, h4⟩, h5⟩, h6⟩, h7⟩, h8⟩, h9⟩, h10⟩ := hr
  unfold admits
  dsimp only
  rw [hl, crc_sealed, ha, h1, h2, h3, h4, h5, h6, h7, h8, h9, h10]
  rfl

/-- A packet that passes every step of its reception is in its queue (13 R520). -/
theorem rxRequest_admitted {src : Src} {ret : Nat × Nat} {p : List Byte} {s : State} (h : admits src ret p s = true) :
    rxRequest src ret p s = admitted src ret p s := by
  simp only [admits, Bool.and_eq_true, Bool.or_eq_true, beq_iff_eq, bne_iff_ne, ne_eq, Bool.not_eq_true', decide_eq_true_eq, Option.isNone_iff_eq_none] at h
  obtain ⟨⟨⟨⟨⟨⟨⟨⟨⟨⟨⟨⟨hl, hp⟩, hn⟩, hlen⟩, hc⟩, hf⟩, ha⟩, hs⟩, ho⟩, hr⟩, hm⟩, hu⟩, hq⟩ := h
  have hn' : (src == .link && s.links.node == 0) = false := by
    cases hn with
    | inl h => simp [h]
    | inr h => simp [h]
  have key : ∀ b : Bool, modeStatus (seqNoted (parseReq src ret p) s) { parseReq src ret p with trust := b } = none →
      absentUnit (seqNoted (parseReq src ret p) s) { parseReq src ret p with trust := b } = false →
      accept { parseReq src ret p with trust := b } s = enqueue { parseReq src ret p with trust := b } (seqNoted (parseReq src ret p) s) := by
    intro b h1 h2
    have hs' : seqOk s { parseReq src ret p with trust := b } = true := hs
    have ho' : opcodeOk { parseReq src ret p with trust := b } = true := ho
    have hr' : roleOk { parseReq src ret p with trust := b } = true := hr
    unfold accept
    simp only [hs', ho', hr', Bool.not_true, Bool.false_eq_true, if_false]
    show (match modeStatus (seqNoted (parseReq src ret p) s) { parseReq src ret p with trust := b } with | some _ => _ | none => _) = _
    rw [h1]
    show (if absentUnit (seqNoted (parseReq src ret p) s) { parseReq src ret p with trust := b } = true then _ else _) = _
    rw [h2]
    simp only [Bool.false_eq_true, if_false]
    have hq' : decide (queueCap (queueOf (parseReq src ret p)) ≤
        queueLen (seqNoted (parseReq src ret p) s) (queueOf (parseReq src ret p))) = false := by
      simpa using hq
    show (if decide (queueCap (queueOf (parseReq src ret p)) ≤
        queueLen (seqNoted (parseReq src ret p) s) (queueOf (parseReq src ret p))) = true then _ else _) = _
    rw [hq']
    rfl
  unfold rxRequest admitted
  have hp' : (src == .pair) = false := by simp [hp]
  simp only [hl, hp', hn', hlen, hc, hf, Bool.not_true, Bool.or_self, Bool.false_eq_true, if_false, bne_self_eq_false]
  cases e : locallyTrusted s src (parseReq src ret p).role (parseReq src ret p).slot (authField p) with
  | true =>
    rw [e] at hm hu
    simp only [if_true]
    exact key true hm hu
  | false =>
    rw [e] at hm hu ha
    simp only [Bool.false_eq_true, false_or] at ha
    simp only [Bool.false_eq_true, if_false, ha, if_true]
    exact key false hm hu

end Sys2Proof.Laws
end

