-- ==== Sys2Proof/Laws/Engines.lean ====
section
/-! SUPPORT. What one bundle of an engine does, once for all operations. -/

namespace Sys2Proof.Laws

open Sys2Proof.Machine Sys2Proof.Safety

/-- Reading the engine just changed. -/
@[simp] theorem engAt_modEng (e : Nat) (f : Engine → Engine) (s : State) : engAt (modEng e f s) e = f (engAt s e) := by
  simp [engAt, modEng]

/-- Changing one engine twice. -/
@[simp] theorem modEng_modEng (e : Nat) (f g : Engine → Engine) (s : State) : modEng e g (modEng e f s) = modEng e (fun x => g (f x)) s := by
  simp [modEng]

/-- A change of a chain that leaves it as it is. -/
theorem modChain_id (h : Nat) (f : Chain → Chain) (s : State) (hf : ∀ c, f c = c) : modChain h f s = s := by
  unfold modChain
  rw [tupd_id _ _ _ hf, tupd_id _ _ _ hf, ite_self]

/-- A bundle whose slots both complete: nothing else happens than their effects. -/
theorem runBundle_issues {e : Nat} {b : Bundle} {s : State} {ms : MSem} {ls : LSem} {me le : Eff} (h : executes e b s = true)
    (hm : me = if mActs e b s then ms b.m.x (if b.fmt = 1 then some b.imm else none) (regsOf e s) (chainOf e s) else {})
    (hl : le = if lActs e b s then ls b.l.x b.imm (regsOf e s) (chainOf e s) (takeEdges e s) e else {})
    (cm : completes e s me = true) (cl : completes e s le = true) :
    .next (settle (runBundle e b ms ls s)) = issues e b me le s := by
  simp only [executes, Bool.and_eq_true, decide_eq_true_eq, Bool.not_eq_true'] at h
  obtain ⟨⟨⟨hr, hf⟩, hb⟩, hc⟩ := h
  simp only [completes, Bool.and_eq_true, Bool.not_eq_true', beq_iff_eq, List.isEmpty_iff] at cm cl
  obtain ⟨⟨⟨mw, mb⟩, mu⟩, _⟩ := cm
  obtain ⟨⟨⟨lw, lb⟩, lu⟩, lg⟩ := cl
  have hc' : ¬ (chainD (takeEdges e s) (engAt (takeEdges e s) e).cur).desc.codeBytes < (engAt (takeEdges e s) e).pc + 8 := by omega
  have idc : ∀ (t : State), modChain (engAt (takeEdges e s) e).cur (fun c => { c with poison := addMarks c.poison [] }) t = t :=
    fun t => modChain_id _ _ _ fun _ => rfl
  unfold runBundle issues ends
  have hm' : (if allows (engAt (takeEdges e s) e).regs b.m.x.pe b.m.x.pn b.m.x.pq then
      ms b.m.x (if b.fmt = 1 then some b.imm else none) (engAt (takeEdges e s) e).regs
        (chainD (takeEdges e s) (engAt (takeEdges e s) e).cur) else {}) = me := hm.symm
  have hl' : (if allows (engAt (takeEdges e s) e).regs b.l.x.pe b.l.x.pn b.l.x.pq then
      ls b.l.x b.imm (engAt (takeEdges e s) e).regs
        (chainD (takeEdges e s) (engAt (takeEdges e s) e).cur) (takeEdges e s) e else {}) = le := hl.symm
  simp only [hr, hf, hb, hc', Bool.not_true, Bool.false_eq_true, if_false, decide_false, Bool.or_self, hm', hl', lw, mu, lu,
    List.append_nil, List.length_nil, localErrors, if_true, mb, lb, ne_eq, not_true_eq_false, idc]
  cases hg : le.go with
  | none => rfl
  | some g =>
    cases g with
    | branch t => rfl
    | tend => rfl
    | loop_ lc n body =>
      simp only [hg] at lg
      have hk : ∀ (c k : Nat), loopOk { engAt (takeEdges e s) e with cycles := c, ce := k } lc body = loopOk (engAt (takeEdges e s) e) lc body :=
        fun _ _ => rfl
      simp only [engAt_modEng, hk, lg, if_true]

/-- A bundle that is not legal, or that does not lie within the code, fails the tick with cause 2. -/
theorem run_illegal {e : Nat} {b : Bundle} {s : State} {ms : MSem} {ls : LSem} (h1 : engRuns s e = true) (h2 : (b.m.x.fe || b.l.x.fe || (chainOf e s).badCode.contains ((engAt (takeEdges e s) e).pc / 8)) = false)
   (h3 : bundleOk b = false ∨ (chainOf e s).desc.codeBytes < (engAt (takeEdges e s) e).pc + 8) :
   .next (settle (runBundle e b ms ls s)) = ends (failTick e 2 (takeEdges e s)) := by
  unfold runBundle ends
  simp only [chainOf] at h2 h3
  simp only [h1, h2, Bool.not_true, Bool.false_eq_true, if_false]
  rw [if_pos]
  rcases h3 with h3 | h3 <;> simp [h3]

/-- A bundle of which one slot accesses what lies outside the state block fails the tick with cause 3. -/
theorem run_fails {e : Nat} {b : Bundle} {s : State} {ms : MSem} {ls : LSem} {me le : Eff} (h : executes e b s = true)
    (hm : me = if mActs e b s then ms b.m.x (if b.fmt = 1 then some b.imm else none) (regsOf e s) (chainOf e s) else {})
    (hl : le = if lActs e b s then ls b.l.x b.imm (regsOf e s) (chainOf e s) (takeEdges e s) e else {})
    (hw : le.wait = false) (hb : (me.bad = 3 ∧ (le.bad = 0)) ∨ (me.bad = 0 ∧ le.bad = 3)) (hu : me.ue = []) (hv : le.ue = []) :
    .next (settle (runBundle e b ms ls s)) = ends (failTick e 3 (modEng e (fun g => { g with
      cycles := g.cycles + (max (mCycles b.m.op) (lCycles b.l.op) + le.plus), ce := g.ce + b.m.x.ce + b.l.x.ce }) (takeEdges e s))) := by
  simp only [executes, Bool.and_eq_true, decide_eq_true_eq, Bool.not_eq_true'] at h
  obtain ⟨⟨⟨hr, hf⟩, hk⟩, hc⟩ := h
  have hc' : ¬ (chainD (takeEdges e s) (engAt (takeEdges e s) e).cur).desc.codeBytes < (engAt (takeEdges e s) e).pc + 8 := by omega
  have idc : ∀ (t : State), modChain (engAt (takeEdges e s) e).cur (fun c => { c with poison := addMarks c.poison [] }) t = t :=
    fun t => modChain_id _ _ _ fun _ => rfl
  have hm' : (if allows (engAt (takeEdges e s) e).regs b.m.x.pe b.m.x.pn b.m.x.pq then
      ms b.m.x (if b.fmt = 1 then some b.imm else none) (engAt (takeEdges e s) e).regs
        (chainD (takeEdges e s) (engAt (takeEdges e s) e).cur) else {}) = me := hm.symm
  have hl' : (if allows (engAt (takeEdges e s) e).regs b.l.x.pe b.l.x.pn b.l.x.pq then
      ls b.l.x b.imm (engAt (takeEdges e s) e).regs
        (chainD (takeEdges e s) (engAt (takeEdges e s) e).cur) (takeEdges e s) e else {}) = le := hl.symm
  unfold runBundle ends
  simp only [hr, hf, hk, hc', Bool.not_true, Bool.false_eq_true, if_false, decide_false, Bool.or_self, hm', hl', hw, hu, hv,
    List.append_nil, List.length_nil, localErrors, if_true, idc]
  rcases hb with ⟨h1, h2⟩ | ⟨h1, h2⟩ <;> simp [h1, h2]

/-- A slot that completes neither waits nor meets a bad word. -/
theorem completes_parts {e : Nat} {s : State} {x : Eff} (h : completes e s x = true) : x.wait = false ∧ x.bad = 0 ∧ x.ue = [] := by
  simp only [completes, Bool.and_eq_true, Bool.not_eq_true', beq_iff_eq, List.isEmpty_iff] at h
  exact ⟨h.1.1.1, h.1.1.2, h.1.2⟩

end Sys2Proof.Laws
end

