-- ==== Sys2Proof/Laws/Fabric.lean ====
section
/-! SUPPORT. The core fabric: a granted access is performed at once; what a read and a write of unmarked words do; each as one equation. -/

namespace Sys2Proof.Laws

open Sys2Proof Sys2Proof.Machine Sys2Proof.Safety

/-- A single access that is ready is the one granted next, whatever its target's arbitration; only the target's round changes. -/
theorem nextGrant_one (s : State) (t : Nat) (x : Access) (hx : x.home = false) :
    ∃ round, nextGrant s t [x] = some (x, { s with fab := { s.fab with round := round } }) := by
  unfold nextGrant
  simp only [List.find?, hx, List.map_cons, List.map_nil, lmax, List.foldl_cons, List.foldl_nil, Nat.zero_max, beq_self_eq_true, List.filter_cons,
    List.filter_nil, if_true]
  by_cases hw : weighted s t = true
  · simp only [hw, if_true]
    generalize roundOf s (4 * t + priorityOf s t x.m) _ = rd
    split
    · exact ⟨s.fab.round, by simp [bestBy]⟩
    · rename_i g hg
      have hm := List.find?_some hg
      simp only [List.any_cons, List.any_nil, Bool.or_false] at hm
      simp only [hm, Option.map_some]
      exact ⟨_, rfl⟩
  · simp only [hw, Bool.false_eq_true, if_false, bestBy, List.foldl_nil, Option.map_some]
    exact ⟨s.fab.round, rfl⟩

/-- The other fields of the fabric decide nothing about an access that waits (07 R272, R282, 08 R293). -/
theorem readyAt_one (s : State) (x : Access) (h : granted s x = true) :
    readyAt { s with fab := { s.fab with waiting := [x] } } (targetOf s x.addr) = [x] := by
  simp only [granted, Bool.and_eq_true, Bool.not_eq_true', beq_iff_eq] at h
  obtain ⟨⟨⟨⟨⟨⟨⟨ha, hm⟩, hl⟩, hh⟩, hr⟩, hk⟩, hb⟩, hw⟩ := h
  have h1 : lockedOut { s with fab := { s.fab with waiting := [x] } } x = false := hk
  have h2 : bankBusy { s with fab := { s.fab with waiting := [x] } } x = false := hb
  have h3 : targetOf { s with fab := { s.fab with waiting := [x] } } x.addr = targetOf s x.addr := rfl
  simp [readyAt, h1, h2, h3]

/-- An access that nothing holds up is granted at once (07 R274). -/
theorem access_granted (s : State) (x : Access) (h : granted s x = true) :
    ∃ round, access x s = grant x { s with fab := { s.fab with waiting := [], round := round } } := by
  have hy := readyAt_one s x h
  simp only [granted, Bool.and_eq_true, Bool.not_eq_true', beq_iff_eq] at h
  obtain ⟨⟨⟨⟨⟨⟨⟨ha, hm⟩, hl⟩, hh⟩, hr⟩, hk⟩, hb⟩, hw⟩ := h
  have he : endedLock s x = none := by simp [endedLock, hl]
  have hs : stopped s x = 0 := by simp [stopped, hh, he, hr]
  have hs' : stopped { s with fab := { s.fab with waiting := [x] } } x = 0 := hs
  have h0 : s.fab.waiting = [] := by simpa using hw
  obtain ⟨round, hn⟩ := nextGrant_one { s with fab := { s.fab with waiting := [x] } } (targetOf s x.addr) x hh
  refine ⟨round, ?_⟩
  have hwk : wakeFor x s = s := by simp [wakeFor, hb]
  simp only [access, ha, hm, hs, hwk, h0, List.nil_append, Bool.not_true, Bool.or_self, Bool.false_eq_true, if_false, ne_eq, not_true_eq_false,
    serveAll, List.length_cons, List.length_nil, Nat.zero_add, serve, hy, List.find?, hs', bne_self_eq_false, hn, dropOne, if_true]


/-! ## Words that meet no error -/

/-- A word of Heath or of the line pool without a mark and without an error that the mark table could not list (08 R291, R305). -/
def plainWord (s : State) (w : Nat) : Prop :=
  marked s w = false ∧ s.mem.dramBad.contains w = false ∧ (8 * w < 0x0800000000 ∨ poolBase ≤ 8 * w)

theorem notLocal {a : Nat} (h : a < 0x0800000000 ∨ poolBase ≤ a) : isLocal a = false := by
  simp only [isLocal, Bool.and_eq_false_iff, decide_eq_false_iff_not, poolBase] at *
  omega

theorem rdCells_append (d : Nat → Byte) (m : List Host.Cell) (a j k : Nat) : rdCells d m a (j + k) = rdCells d m a j ++ rdCells d m (a + j) k := by
  simp only [rdCells, List.range_add, List.map_append, List.map_map]
  congr 1
  apply List.map_congr_left
  intro i _
  simp [Nat.add_assoc]

/-- No unit of the KD9 puts bytes of its own below delay memory or into the line pool (08 R307-R309). -/
theorem unitsUse_plain (s : State) {a : Nat} (h : a < 0x0800000000 ∨ poolBase ≤ a) : unitsUse s a = false := by
  have : a < dramBase ∨ poolBase ≤ a := by simp only [dramBase, poolBase] at *; omega
  simp [unitsUse, this]

/-- The bytes of such a word are those of the fabric memory. -/
theorem wordBytesAt_plain (s : State) (w : Nat) (h : 8 * w < 0x0800000000 ∨ poolBase ≤ 8 * w) : wordBytesAt (8 * w) s = (memReads s (8 * w) 8, s) := by
  simp [wordBytesAt, notLocal h, unitsUse_plain s h]

/-- Reading words that meet no error: their bytes, and nothing changes. -/
theorem readWords_plain (x : Access) (a : Nat) (hx : x.ue = []) (s : State) : ∀ k i, (∀ j, i ≤ j → j < i + k → plainWord s (a / 8 + j)) →
    readWords x a k i s = (memReads s (8 * (a / 8 + i)) (8 * k), false, s)
  | 0, _, _ => rfl
  | k + 1, i, h => by
    obtain ⟨h1, h2, h3⟩ := h i (Nat.le_refl _) (by omega)
    have hf : findsBad x i (a / 8 + i) s = false := by simp only [findsBad, hx, h2]; rfl
    have ih := readWords_plain x a hx s k (i + 1) fun j _ _ => h j (by omega) (by omega)
    have hm : memReads s (8 * (a / 8 + i)) (8 * (k + 1)) = memReads s (8 * (a / 8 + i)) 8 ++ memReads s (8 * (a / 8 + (i + 1))) (8 * k) := by
      have : 8 * (k + 1) = 8 + 8 * k := by omega
      rw [this, memReads, rdCells_append]
      congr 2
    simp only [readWords, h1, hf, Bool.or_self, Bool.false_eq_true, if_false, wordBytesAt_plain s _ h3, ih, hm]

theorem readBeats_plain (x : Access) (a : Nat) (hx : x.ue = []) (s : State) : ∀ k b, (∀ j, 8 * b ≤ j → j < 8 * (b + k) → plainWord s (a / 8 + j)) →
    readBeats x a k b s = (memReads s (8 * (a / 8 + 8 * b)) (64 * k), List.replicate k 0, s)
  | 0, _, _ => rfl
  | k + 1, b, h => by
    have h1 := readWords_plain x a hx s 8 (8 * b) fun j _ _ => h j (by omega) (by omega)
    have ih := readBeats_plain x a hx s k (b + 1) fun j _ _ => h j (by omega) (by omega)
    have hm : memReads s (8 * (a / 8 + 8 * b)) (64 * (k + 1)) =
        memReads s (8 * (a / 8 + 8 * b)) (8 * 8) ++ memReads s (8 * (a / 8 + 8 * (b + 1))) (64 * k) := by
      have : 64 * (k + 1) = 8 * 8 + 64 * k := by omega
      rw [this, memReads, rdCells_append]
      congr 2
    simp only [readBeats, h1, Bool.false_eq_true, if_false, ih, hm, List.replicate_succ]

/-- One word of a write by lanes (07 R270). -/
def laneWord (x : Access) (a : Nat) (t : State) (i : Nat) : State :=
  if (lanesOf x i).any id then
    memWrites (8 * (a / 8 + i)) (mergeLanes (lanesOf x i) (fit 8 ((x.data.drop (8 * i)).take 8)) (memReads t (8 * (a / 8 + i)) 8)) t
  else t

theorem plainWord_memWrites (s : State) (a : Nat) (bs : List Byte) (w : Nat) : plainWord (memWrites a bs s) w ↔ plainWord s w := by
  by_cases h : 8 * w < 0x0800000000 ∨ poolBase ≤ 8 * w
  · simp only [plainWord, marked, notLocal h, Bool.false_eq_true, if_false, memWrites]
  · simp only [plainWord, h, and_false]

theorem plainWord_laneWord (x : Access) (a i : Nat) (s : State) (w : Nat) : plainWord (laneWord x a s i) w ↔ plainWord s w := by
  unfold laneWord
  split
  · exact plainWord_memWrites _ _ _ _
  · exact Iff.rfl

theorem filter_ne_self {l : List Nat} {w : Nat} (h : w ∉ l) : (l.filter fun v => v != w) = l := by
  rw [List.filter_eq_self]
  intro v hv
  simp only [bne_iff_ne, ne_eq]
  rintro rfl
  exact h hv

/-- A word without a mark keeps none (08 R291). -/
theorem unmarkWord_plain (s : State) (w : Nat) (h : plainWord s w) : unmarkWord w s = s := by
  obtain ⟨h1, h2, h3⟩ := h
  have hl := notLocal h3
  simp only [marked, hl, Bool.false_eq_true, if_false, Bool.or_eq_false_iff, List.contains_eq_mem, decide_eq_false_iff_not] at h1 h2
  unfold unmarkWord
  simp only [hl, Bool.false_eq_true, if_false]
  rw [filter_ne_self h1.1, filter_ne_self h1.2, filter_ne_self h2]

/-- One word of a write that meets no error. -/
theorem putLanes_plain (s : State) (x : Access) (a i : Nat) (h : plainWord s (a / 8 + i)) (hl : (lanesOf x i).any id = true) :
    putLanes (a / 8 + i) (lanesOf x i) (fit 8 ((x.data.drop (8 * i)).take 8)) s = laneWord x a s i := by
  have hi := notLocal h.2.2
  simp only [putLanes, hi, Bool.false_eq_true, if_false, laneWord, hl, if_true, noteWrote, unitsUse_plain _ h.2.2, Bool.false_and]

theorem lanes_any {x : Access} {i : Nat} (h : (lanesOf x i).all id = true) : (lanesOf x i).any id = true := by
  unfold lanesOf at *
  split
  · rfl
  · rename_i hm
    simp only [hm, Bool.false_eq_true, if_false, List.all_map, List.all_eq_true, List.mem_range, List.any_map, List.any_eq_true] at *
    exact ⟨0, by simp, h 0 (by simp)⟩

/-- Writing words that meet no error: the lanes of each, and nothing else (07 R270, 08 R289). -/
theorem writeWords_plain (x : Access) (a : Nat) (hx : x.ue = []) (hy : x.lost = []) : ∀ k i (s : State),
    (∀ j, i ≤ j → j < i + k → plainWord s (a / 8 + j)) →
    writeWords x a k i s = ((false, false, false), (List.range' i k).foldl (laneWord x a) s)
  | 0, _, _, _ => rfl
  | k + 1, i, s, h => by
    have hp := h i (Nat.le_refl _) (by omega)
    have hf : findsBad x i (a / 8 + i) s = false := by simp only [findsBad, hx, hp.2.1]; rfl
    have ih := writeWords_plain x a hx hy k (i + 1) (laneWord x a s i) fun j _ _ =>
      (plainWord_laneWord x a i s (a / 8 + j)).2 (h j (by omega) (by omega))
    have hs : (if (!(lanesOf x i).any id) = true then s
        else if (lanesOf x i).all id = true then putLanes (a / 8 + i) (lanesOf x i) (fit 8 ((x.data.drop (8 * i)).take 8)) (unmarkWord (a / 8 + i) s)
        else putLanes (a / 8 + i) (lanesOf x i) (fit 8 ((x.data.drop (8 * i)).take 8)) s) = laneWord x a s i := by
      by_cases ha : (lanesOf x i).any id = true
      · rw [unmarkWord_plain s _ hp, putLanes_plain s x a i hp ha]
        simp [ha]
      · have : (lanesOf x i).any id = false := by simpa using ha
        rw [this]
        unfold laneWord
        rw [this]
        rfl
    simp only [writeWords, hy, hp.1, hf, List.contains_nil, Bool.false_and, Bool.false_or, Bool.or_false, Bool.and_false, Bool.false_eq_true,
      if_false, hs, ih, List.range'_succ, List.foldl_cons]

theorem writeBeats_plain (x : Access) (a : Nat) (hx : x.ue = []) (hy : x.lost = []) : ∀ k b (s : State),
    (∀ j, 8 * b ≤ j → j < 8 * (b + k) → plainWord s (a / 8 + j)) →
    writeBeats x a k b s = (List.replicate k 0, false, (List.range' (8 * b) (8 * k)).foldl (laneWord x a) s)
  | 0, _, _, _ => rfl
  | k + 1, b, s, h => by
    have h1 := writeWords_plain x a hx hy 8 (8 * b) s fun j _ _ => h j (by omega) (by omega)
    have keep : ∀ (l : List Nat) (t : State) w, plainWord (l.foldl (laneWord x a) t) w ↔ plainWord t w := by
      intro l
      induction l with
      | nil => exact fun _ _ => Iff.rfl
      | cons i l ih => exact fun t w => (ih _ w).trans (plainWord_laneWord x a i t w)
    have ih := writeBeats_plain x a hx hy k (b + 1) _ fun j _ _ => (keep (List.range' (8 * b) 8) s _).2 (h j (by omega) (by omega))
    have hr : List.range' (8 * b) (8 * (k + 1)) = List.range' (8 * b) 8 ++ List.range' (8 * (b + 1)) (8 * k) := by
      have e1 : 8 * (k + 1) = 8 + 8 * k := by omega
      have e2 : 8 * (b + 1) = 8 * b + 1 * 8 := by omega
      rw [e1, e2, List.range'_append]
    simp only [writeBeats, h1, ih, hr, List.foldl_append, Bool.false_eq_true, if_false, Bool.or_self, List.replicate_succ]

theorem foldl_okay : ∀ k : Nat, (List.replicate k 0).foldl (fun a r => if respRank a < respRank r then r else a) 0 = 0
  | 0 => rfl
  | k + 1 => by simp [List.replicate_succ, foldl_okay k]

theorem overall_okay (k : Nat) : overall (List.replicate k 0) = 0 := foldl_okay k

/-- Heath and its alias lie below the engines' local stores (07 R267). -/
theorem rangeAt_heath {s : State} {a : Nat} (h : rangeAt s a = 2 ∨ rangeAt s a = 3) : a < 0x0105000000 ∧ (rangeAt s a = 2 → a < 0x400000) := by
  simp only [rangeAt, Bool.and_eq_true, decide_eq_true_eq, Bool.not_eq_true'] at h ⊢
  grind (splits := 40)

/-- The words of an access that `cleanAt` holds for. -/
theorem clean_words {s : State} {x : Access} (h : cleanAt s x = true) (h0 : 0 < lengthOf x)
    (he : rangeAt s (x.addr + lengthOf x - 1) = rangeAt s x.addr) :
    x.ue = [] ∧ x.ce = 0 ∧ x.lost = [] ∧ ∀ j, j < (lengthOf x + 7) / 8 → plainWord s (physAddr s x.addr / 8 + j) := by
  simp only [cleanAt, Bool.and_eq_true, Bool.or_eq_true, List.isEmpty_iff, beq_iff_eq, decide_eq_true_eq, List.all_eq_true, List.mem_range,
    Bool.not_eq_true'] at h
  obtain ⟨⟨⟨⟨hu, hc⟩, hl⟩, hg⟩, hw⟩ := h
  refine ⟨hu, hc, hl, fun j hj => ⟨(hw j hj).1, (hw j hj).2, ?_⟩⟩
  rcases hg with (hg | hg) | ⟨hg, hp⟩
  · have := (rangeAt_heath (s := s) (a := x.addr + lengthOf x - 1) (by rw [he]; exact .inl hg)).2 (by rw [he, hg])
    left
    simp only [physAddr, hg, if_true, heathBase]
    omega
  · have := (rangeAt_heath (s := s) (a := x.addr + lengthOf x - 1) (by rw [he]; exact .inr hg)).1
    left
    simp only [physAddr, hg]
    simp only [show ¬ ((3:Nat) = 2) by decide, if_false]
    omega
  · right
    simp only [physAddr, hg, poolBase] at *
    simp only [show ¬ ((10:Nat) = 2) by decide, if_false]
    omega

/-- A read that meets no error: its bytes, with OKAY on every beat (07 R272). -/
theorem perform_read (s : State) (x : Access) (hk : x.kind = 0) (ha : x.addr % 64 = 0) (h : cleanAt s x = true) (h0 : 0 < lengthOf x)
    (he : rangeAt s (x.addr + lengthOf x - 1) = rangeAt s x.addr) :
    perform x (beatsOf x) s = emit (okay x (memReads s (physAddr s x.addr) (64 * x.n))) s := by
  obtain ⟨hu, hc, hl, hw⟩ := clean_words h h0 he
  have hg : (rangeAt s x.addr == 2 || rangeAt s x.addr == 3 || rangeAt s x.addr == 4 || rangeAt s x.addr == 10) = true := by
    simp only [cleanAt, Bool.and_eq_true, Bool.or_eq_true, beq_iff_eq] at h
    rcases h.1.2 with (hg | hg) | ⟨hg, _⟩ <;> simp [hg]
  have hp : 8 * (physAddr s x.addr / 8 + 8 * 0) = physAddr s x.addr := by
    simp only [physAddr, heathBase]
    split <;> omega
  have hb : beatsOf x = x.n := by simp [beatsOf, hk]
  have hr := readBeats_plain x (physAddr s x.addr) hu s x.n 0 fun j _ hj => hw j (by simp only [lengthOf, hk]; simp; omega)
  have hn : (List.replicate x.n 0).contains 3 = false := by simp
  simp only [perform, hk, hb, Nat.sub_self, List.replicate_zero, List.isEmpty_nil, if_true, hg, hc, countCorrected, hr, hp, hn,
    Bool.false_eq_true, if_false, List.append_nil, answer, overall_okay, okay]

end Sys2Proof.Laws
end

