-- ==== Sys2Proof/Laws/Memory.lean ====
section
/-! SUPPORT. Laws of the sparse byte memories: what a byte reads as after a write or a clearing, and that every operation keeps the
canonical form. -/

set_option Elab.async false

namespace Sys2Proof.Laws

open Sys2Proof.Machine

/-- Every entry of a memory above `lo` lies above it. -/
def above (lo : Nat) (m : List Host.Cell) : Prop := ∀ c ∈ m, lo < c.1

theorem wfFrom_above {d : Nat → Byte} {lo : Nat} : ∀ {m : List Host.Cell}, wfFrom d (some lo) m = true → above lo m := by
  intro m
  induction m generalizing lo with
  | nil => intro _ c hc; cases hc
  | cons e r ih =>
    obtain ⟨k, v⟩ := e
    intro h c hc
    simp only [wfFrom, Bool.and_eq_true, decide_eq_true_eq] at h
    cases hc with
    | head => exact h.1.1
    | tail _ hm => exact Nat.lt_trans h.1.1 (ih h.2 c hm)

/-- An address below every entry reads as unlisted. -/
theorem rdCell_below {d : Nat → Byte} {lo a : Nat} {m : List Host.Cell} (h : above lo m) (ha : a ≤ lo) : rdCell d m a = d a := by
  cases m with
  | nil => rfl
  | cons e r =>
    obtain ⟨k, v⟩ := e
    have : lo < k := h _ (List.mem_cons_self ..)
    have h1 : ¬ k = a := by omega
    have h2 : a < k := by omega
    simp [rdCell, h1, h2]

/-- A weaker lower bound. -/
theorem wfFrom_weaken {d : Nat → Byte} {m : List Host.Cell} {lo : Nat} (h : wfFrom d (some lo) m = true) (o : Option Nat)
    (ho : ∀ l, o = some l → l ≤ lo) : wfFrom d o m = true := by
  cases m with
  | nil => rfl
  | cons e r =>
    obtain ⟨k, v⟩ := e
    simp only [wfFrom, Bool.and_eq_true, decide_eq_true_eq] at h ⊢
    refine ⟨⟨?_, h.1.2⟩, h.2⟩
    cases o with
    | none => rfl
    | some l =>
      have := ho l rfl
      have h1 := h.1.1
      simp only [decide_eq_true_eq]
      omega

/-- Writing a byte keeps the canonical form. -/
theorem wfFrom_wrCell {d : Nat → Byte} {a : Nat} {x : Byte} : ∀ {m : List Host.Cell} {o : Option Nat}, wfFrom d o m = true →
    (∀ l, o = some l → l < a) → wfFrom d o (wrCell d m a x) = true := by
  intro m
  induction m with
  | nil =>
    intro o _ ho
    simp only [wrCell]
    split
    · rfl
    · rename_i hx
      cases o with
      | none => simp [wfFrom, hx]
      | some l => simp [wfFrom, hx, ho l rfl]
  | cons e r ih =>
    obtain ⟨k, v⟩ := e
    intro o h ho
    have h' := h
    simp only [wfFrom, Bool.and_eq_true] at h
    simp only [wrCell]
    split
    · rename_i hk
      split
      · exact h'
      · rename_i hx
        simp only [wfFrom, Bool.and_eq_true, decide_eq_true_eq]
        refine ⟨⟨?_, by simp [hx]⟩, ⟨hk, h.1.2⟩, h.2⟩
        cases o with
        | none => rfl
        | some l => simp [ho l rfl]
    · split
      · rename_i hk
        subst hk
        split
        · exact wfFrom_weaken h.2 o fun l hl => Nat.le_of_lt (ho l hl)
        · rename_i hx
          simp only [wfFrom, Bool.and_eq_true]
          exact ⟨⟨h.1.1, by simp [hx]⟩, h.2⟩
      · rename_i h1 h2
        simp only [wfFrom, Bool.and_eq_true]
        refine ⟨h.1, ih h.2 fun l hl => ?_⟩
        cases hl
        omega

/-- Writing bytes keeps the canonical form. -/
theorem memWf_wrCells {d : Nat → Byte} : ∀ (bs : List Byte) {m : List Host.Cell} (a : Nat), memWf d m = true →
    memWf d (wrCells d m a bs) = true := by
  intro bs
  induction bs with
  | nil => intro m a h; exact h
  | cons x xs ih =>
    intro m a h
    exact ih (a + 1) (wfFrom_wrCell h (by simp))

/-- What a byte reads as after one byte is written. -/
theorem rdCell_wrCell (d : Nat → Byte) (m : List Host.Cell) (a : Nat) (x : Byte) (i : Nat) (h : memWf d m = true) :
    rdCell d (wrCell d m a x) i = if i = a then x else rdCell d m i := by
  have key : ∀ (m : List Host.Cell) (o : Option Nat), wfFrom d o m = true →
      rdCell d (wrCell d m a x) i = if i = a then x else rdCell d m i := by
    intro m
    induction m with
    | nil =>
      intro o _
      simp only [wrCell]
      by_cases hx : x = d a <;> by_cases hi : i = a
      · subst hi; simp [hx, rdCell]
      · simp [hx, rdCell, hi]
      · subst hi; simp [hx, rdCell]
      · have : ¬ a = i := fun e => hi e.symm
        simp [hx, rdCell, hi, this]
    | cons e r ih =>
      obtain ⟨k, v⟩ := e
      intro o hw
      simp only [wfFrom, Bool.and_eq_true] at hw
      have ha := wfFrom_above hw.2
      by_cases h1 : a < k
      · by_cases hx : x = d a
        · by_cases hi : i = a
          · subst hi
            have : ¬ k = i := by omega
            simp [wrCell, h1, hx, rdCell, this]
          · simp [wrCell, h1, hx, hi]
        · by_cases hi : i = a
          · subst hi
            simp [wrCell, h1, hx, rdCell]
          · have h2 : ¬ a = i := fun e => hi e.symm
            by_cases h3 : i < a
            · have h4 : ¬ k = i := by omega
              have h5 : i < k := by omega
              simp [wrCell, h1, hx, rdCell, hi, h2, h3, h4, h5]
            · simp [wrCell, h1, hx, rdCell, hi, h2, h3]
      · by_cases hk : k = a
        · subst hk
          by_cases hx : x = d k
          · by_cases hi : i = k
            · subst hi
              simp [wrCell, hx, rdCell_below ha (Nat.le_refl _)]
            · have h2 : ¬ k = i := fun e => hi e.symm
              by_cases h3 : i < k
              · simp [wrCell, hx, hi, h2, h3, rdCell, rdCell_below ha (Nat.le_of_lt h3)]
              · simp [wrCell, hx, hi, h2, h3, rdCell]
          · by_cases hi : i = k
            · subst hi; simp [wrCell, hx, rdCell]
            · have h2 : ¬ k = i := fun e => hi e.symm
              simp [wrCell, hx, rdCell, hi, h2]
        · simp only [wrCell, h1, hk, if_false, rdCell]
          by_cases hi : i = a
          · subst hi
            simp [hk, h1, ih _ hw.2]
          · rw [ih _ hw.2]
            simp [hi]
  exact key m none h

/-- What a byte reads as after bytes are written. -/
theorem rdCell_wrCells (d : Nat → Byte) : ∀ (bs : List Byte) (m : List Host.Cell) (a i : Nat), memWf d m = true →
    rdCell d (wrCells d m a bs) i = if a ≤ i ∧ i < a + bs.length then bs.getD (i - a) 0 else rdCell d m i := by
  intro bs
  induction bs with
  | nil =>
    intro m a i _
    have hn : ¬ (a ≤ i ∧ i < a + ([] : List Byte).length) := fun h => by have h2 := h.2; rw [List.length_nil] at h2; omega
    rw [if_neg hn]; rfl
  | cons x xs ih =>
    intro m a i h
    have h' : memWf d (wrCell d m a x) = true := wfFrom_wrCell h (by simp)
    simp only [wrCells]
    rw [ih _ _ _ h', rdCell_wrCell _ _ _ _ _ h]
    by_cases hi : i = a
    · have h1 : ¬ (a + 1 ≤ i ∧ i < a + 1 + xs.length) := by omega
      have h2 : a ≤ i ∧ i < a + (x :: xs).length := by simp only [List.length_cons]; omega
      have h3 : i - a = 0 := by omega
      rw [if_neg h1, if_pos h2, if_pos hi, h3]
      rfl
    · by_cases h1 : a + 1 ≤ i ∧ i < a + 1 + xs.length
      · have h2 : a ≤ i ∧ i < a + (x :: xs).length := by simp only [List.length_cons]; omega
        have h3 : i - a = (i - (a + 1)) + 1 := by omega
        rw [if_pos h1, if_pos h2, h3]
        rfl
      · have h2 : ¬ (a ≤ i ∧ i < a + (x :: xs).length) := by simp only [List.length_cons]; omega
        rw [if_neg h1, if_neg h2, if_neg hi]

/-- Clearing a range keeps the canonical form. -/
theorem memWf_clearCells {d : Nat → Byte} (lo hi : Nat) : ∀ {m : List Host.Cell} {o : Option Nat}, wfFrom d o m = true →
    wfFrom d o (clearCells m lo hi) = true := by
  intro m
  induction m with
  | nil => intro o _; rfl
  | cons e r ih =>
    obtain ⟨k, v⟩ := e
    intro o h
    simp only [wfFrom, Bool.and_eq_true] at h
    simp only [clearCells]
    split
    · refine ih (wfFrom_weaken h.2 o fun l hl => ?_)
      subst hl
      have := h.1.1
      simp at this
      omega
    · simp only [wfFrom, Bool.and_eq_true]
      exact ⟨h.1, ih h.2⟩

/-- What a byte reads as after a range is cleared. -/
theorem rdCell_clearCells (d : Nat → Byte) (lo hi i : Nat) : ∀ {m : List Host.Cell} {o : Option Nat}, wfFrom d o m = true →
    rdCell d (clearCells m lo hi) i = if lo ≤ i ∧ i < hi then d i else rdCell d m i := by
  intro m
  induction m with
  | nil => intro o _; simp [clearCells, rdCell]
  | cons e r ih =>
    obtain ⟨k, v⟩ := e
    intro o h
    simp only [wfFrom, Bool.and_eq_true] at h
    have ha := wfFrom_above h.2
    simp only [clearCells]
    split
    · rename_i hk
      rw [ih h.2]
      by_cases hr : lo ≤ i ∧ i < hi
      · simp [hr]
      · have h1 : ¬ k = i := by intro e; subst e; exact hr hk
        by_cases h2 : i < k
        · simp [hr, rdCell, h1, h2, rdCell_below ha (Nat.le_of_lt h2)]
        · simp [hr, rdCell, h1, h2]
    · rename_i hk
      simp only [rdCell]
      by_cases h1 : k = i
      · subst h1
        simp [hk]
      · by_cases h2 : i < k
        · simp [h1, h2]
        · simp [h1, h2, ih h.2]

/-- Two memories in canonical form that read alike are equal. -/
theorem mem_ext {d : Nat → Byte} : ∀ {m n : List Host.Cell} {o p : Option Nat}, wfFrom d o m = true → wfFrom d p n = true →
    (∀ a, rdCell d m a = rdCell d n a) → m = n := by
  intro m
  induction m with
  | nil =>
    intro n o p _ hn h
    cases n with
    | nil => rfl
    | cons e r =>
      obtain ⟨k, v⟩ := e
      simp only [wfFrom, Bool.and_eq_true, bne_iff_ne] at hn
      have := h k
      simp only [rdCell, if_true] at this
      exact absurd this.symm hn.1.2
  | cons e r ih =>
    obtain ⟨k, v⟩ := e
    intro n o p hm hn h
    simp only [wfFrom, Bool.and_eq_true, bne_iff_ne] at hm
    cases n with
    | nil =>
      have := h k
      simp only [rdCell, if_true] at this
      exact absurd this hm.1.2
    | cons f q =>
      obtain ⟨j, w⟩ := f
      simp only [wfFrom, Bool.and_eq_true, bne_iff_ne] at hn
      have am := wfFrom_above hm.2
      have an := wfFrom_above hn.2
      have hkj : k = j := by
        rcases Nat.lt_trichotomy k j with hl | he | hg
        · have := h k
          have h1 : ¬ j = k := by omega
          simp only [rdCell, if_true, h1, hl, if_false] at this
          exact absurd this hm.1.2
        · exact he
        · have := h j
          have h1 : ¬ k = j := by omega
          simp only [rdCell, if_true, h1, hg, if_false] at this
          exact absurd this.symm hn.1.2
      subst hkj
      have hv := h k
      simp only [rdCell, if_true] at hv
      subst hv
      have : r = q := by
        refine ih hm.2 hn.2 fun a => ?_
        have ha := h a
        simp only [rdCell] at ha
        by_cases h1 : k = a
        · subst h1
          rw [rdCell_below am (Nat.le_refl _), rdCell_below an (Nat.le_refl _)]
        · by_cases h2 : a < k
          · rw [rdCell_below am (Nat.le_of_lt h2), rdCell_below an (Nat.le_of_lt h2)]
          · simpa [h1, h2] using ha
      rw [this]

/-- The memory of the machine after reset is in canonical form. -/
theorem reset_memory : Memory.wf State.reset.mem.cells = true := rfl

end Sys2Proof.Laws
end

