-- ==== Sys2Proof/Laws/Operations.lean ====
section
/-! SUPPORT. What executing an operation of the command protocol answers, once for all operations: accepted, staged, or refused. -/

namespace Sys2Proof.Laws

open Sys2Proof.Machine Sys2Proof.Safety

/-- A request that carries its own opcode. -/
theorem with_opcode {op : Nat} {r : Req} (h : r.opcode = op) : ({ r with opcode := op } : Req) = r := by
  cases r; cases h; rfl

/-! The request as it runs differs from the one received in the handle it will create only. -/

@[simp] theorem asRun_src (r : Req) (s : State) : (asRun r s).src = r.src := rfl
@[simp] theorem asRun_ret (r : Req) (s : State) : (asRun r s).ret = r.ret := rfl
@[simp] theorem asRun_flags (r : Req) (s : State) : (asRun r s).flags = r.flags := rfl
@[simp] theorem asRun_opcode (r : Req) (s : State) : (asRun r s).opcode = r.opcode := rfl
@[simp] theorem asRun_role (r : Req) (s : State) : (asRun r s).role = r.role := rfl
@[simp] theorem asRun_slot (r : Req) (s : State) : (asRun r s).slot = r.slot := rfl
@[simp] theorem asRun_applyAt (r : Req) (s : State) : (asRun r s).applyAt = r.applyAt := rfl
@[simp] theorem asRun_acc (r : Req) (s : State) : (asRun r s).acc = r.acc := rfl
@[simp] theorem asRun_trust (r : Req) (s : State) : (asRun r s).trust = r.trust := rfl
@[simp] theorem asRun_params (r : Req) (s : State) : (asRun r s).params = r.params := rfl
@[simp] theorem asRun_made (r : Req) (s : State) : (asRun r s).made = madeFor s r := rfl
@[simp] theorem asRun_par (r : Req) (s : State) (i n : Nat) : par (asRun r s) i n = par r i n := rfl
@[simp] theorem asRun_parS (r : Req) (s : State) (i n : Nat) : parS (asRun r s) i n = parS r i n := rfl

/-! A request leaves its queue and nothing else changes. -/

@[simp] theorem dequeue_part (r : Req) (s : State) : (dequeue r s).part = s.part := rfl
@[simp] theorem dequeue_mode (r : Req) (s : State) : (dequeue r s).mode = s.mode := rfl
@[simp] theorem dequeue_gate (r : Req) (s : State) : (dequeue r s).gate = s.gate := rfl
@[simp] theorem dequeue_win (r : Req) (s : State) : (dequeue r s).win = s.win := rfl
@[simp] theorem dequeue_sec (r : Req) (s : State) : (dequeue r s).sec = s.sec := rfl
@[simp] theorem dequeue_pipe (r : Req) (s : State) : (dequeue r s).pipe = s.pipe := rfl
@[simp] theorem dequeue_sward (r : Req) (s : State) : (dequeue r s).sward = s.sward := rfl
@[simp] theorem dequeue_fixed (r : Req) (s : State) : (dequeue r s).fixed = s.fixed := rfl
@[simp] theorem dequeue_eng (r : Req) (s : State) : (dequeue r s).eng = s.eng := rfl
@[simp] theorem dequeue_place (r : Req) (s : State) : (dequeue r s).place = s.place := rfl
@[simp] theorem dequeue_fab (r : Req) (s : State) : (dequeue r s).fab = s.fab := rfl
@[simp] theorem dequeue_mem (r : Req) (s : State) : (dequeue r s).mem = s.mem := rfl
@[simp] theorem dequeue_lines (r : Req) (s : State) : (dequeue r s).lines = s.lines := rfl
@[simp] theorem dequeue_ports (r : Req) (s : State) : (dequeue r s).ports = s.ports := rfl
@[simp] theorem dequeue_links (r : Req) (s : State) : (dequeue r s).links = s.links := rfl
@[simp] theorem dequeue_clock (r : Req) (s : State) : (dequeue r s).clock = s.clock := rfl
@[simp] theorem dequeue_cap (r : Req) (s : State) : (dequeue r s).cap = s.cap := rfl
@[simp] theorem dequeue_pair (r : Req) (s : State) : (dequeue r s).pair = s.pair := rfl
@[simp] theorem dequeue_flt (r : Req) (s : State) : (dequeue r s).flt = s.flt := rfl
@[simp] theorem dequeue_boot (r : Req) (s : State) : (dequeue r s).boot = s.boot := rfl
@[simp] theorem dequeue_power (r : Req) (s : State) : (dequeue r s).power = s.power := rfl
@[simp] theorem dequeue_meter (r : Req) (s : State) : (dequeue r s).meter = s.meter := rfl
@[simp] theorem dequeue_settings (r : Req) (s : State) : (dequeue r s).settings = s.settings := rfl
@[simp] theorem dequeue_free (r : Req) (s : State) : (dequeue r s).free = s.free := rfl
@[simp] theorem dequeue_wire (r : Req) (s : State) : (dequeue r s).wire = s.wire := rfl
@[simp] theorem dequeue_pending (r : Req) (s : State) : (dequeue r s).pending = s.pending := rfl

/-- An accepted operation that is not staged: its effect, then its reply unless it holds it. -/
theorem execOp_accepted {op : Nat} {plan : State → Req → Plan} {r : Req} {s : State} (h : accepts op plan r s = true)
    (hs : isStaged op = false) :
    execOp op plan r s =
      (let u := dequeue r s
       let q := asRun r u
       let x := (plan u q).act u
       if x.hold then x.st
       else finish q x.status x.err x.applied false (forcedIn q u && decide (x.status < 0x100)) x.payload
         (setForced (forcedIn q u && decide (x.status < 0x100)) x.st)) := by
  simp only [accepts, Bool.and_eq_true, beq_iff_eq, Bool.not_eq_true'] at h
  obtain ⟨⟨⟨⟨⟨⟨⟨ho, hi⟩, ha⟩, hm⟩, hw⟩, hl⟩, hc⟩, hk⟩ := h
  have hf : ((headChecks (dequeue r s) (asRun r (dequeue r s)) ++ (plan (dequeue r s) (asRun r (dequeue r s))).checks).find?
      fun c => !c.1) = none := by
    rw [List.find?_eq_none]
    intro c hc'
    have := List.all_eq_true.1 hc c hc'
    simp [this]
  subst ho
  unfold execOp
  simp only [with_opcode rfl, hi, ha, hm, hw, Bool.and_false, Bool.false_eq_true, if_false, Bool.not_true, Bool.false_and]
  have hq : ({ r with made := madeFor (dequeue r s) r, ran := some (cal (dequeue r s), (dequeue r s).clock.now), applyAt := r.applyAt } : Req) = asRun r (dequeue r s) := rfl
  simp only [hq]
  unfold carryOut
  have hr : (asRun r (dequeue r s)).opcode = r.opcode := rfl
  have hsrc : (asRun r (dequeue r s)).src = r.src := rfl
  simp only [hl, hf, hr, hs, hsrc, Bool.not_true, Bool.false_eq_true, if_false]
  rw [hk]
  simp only [Bool.false_eq_true, if_false, forcedIn]

/-- An accepted operation that is staged: a void choice ends it; otherwise its record enters the Commit Gate. -/
theorem execOp_staged {op : Nat} {plan : State → Req → Plan} {r : Req} {s : State} (h : stageable op plan r s = true)
    (hs : isStaged op = true) :
    execOp op plan r s =
      (let u := dequeue r s
       let q := asRun r u
       let x := (plan u q).act u
       let g := { stagedOf u q with mirr := false, forced := forcedIn q u, payload := x.payload, note := x.note }
       if 0x100 ≤ x.status then finish q x.status x.err 0 false false [] x.st
       else if g.alm.isSome then finish q ACCEPTED_PENDING 0 0 false (forcedIn q u) [] (stage g x.st) else sendAck q OK (stage g x.st)) := by
  simp only [stageable, accepts, Bool.and_eq_true, beq_iff_eq, Bool.not_eq_true'] at h
  obtain ⟨⟨⟨⟨⟨⟨⟨⟨⟨ho, hi⟩, ha⟩, hm⟩, hw⟩, hl⟩, hc⟩, _⟩, hz⟩, hg⟩ := h
  have hf : ((headChecks (dequeue r s) (asRun r (dequeue r s)) ++ (plan (dequeue r s) (asRun r (dequeue r s))).checks).find?
      fun c => !c.1) = none := by
    rw [List.find?_eq_none]
    intro c hc'
    have := List.all_eq_true.1 hc c hc'
    simp [this]
  subst ho
  unfold execOp
  simp only [with_opcode rfl, hi, ha, hm, hw, Bool.and_false, Bool.false_eq_true, if_false, Bool.not_true, Bool.false_and]
  have hq : ({ r with made := madeFor (dequeue r s) r, ran := some (cal (dequeue r s), (dequeue r s).clock.now), applyAt := r.applyAt } : Req) = asRun r (dequeue r s) := rfl
  simp only [hq]
  have hg' : ∀ m f, gateRoom (dequeue r s) { stagedOf (dequeue r s) (asRun r (dequeue r s)) with mirr := m, forced := f } = true := by
    intro m f
    simpa [gateRoom, pendTicks, List.foldl_append] using hg
  have hr : isStaged (asRun r (dequeue r s)).opcode = true := hs
  unfold carryOut
  simp only [hl, hf, hr, hz, Bool.not_true, Bool.false_eq_true, if_false, if_true, Bool.false_or]
  rw [hg']
  simp only [Bool.not_true, Bool.false_eq_true, if_false, forcedIn]

/-- Executing an operation of the table is executing its plan. -/
theorem exec_operation : ∀ x ∈ operations, ∀ (r : Req) (s : State), exec (x.make r) s = ends (execOp x.op x.plan r s) := by
  intro x hx r s
  simp only [operations, operations01, operations02, operations03, operations04, operations05, operations06, operations07, operations08,
    operations09, operations0A, operations0B, operations0C, operations0D, operations0F, List.mem_append, List.mem_cons, List.not_mem_nil, or_false] at hx
  repeat' (rcases hx with hx | hx)
  all_goals rfl

/-- An operation that no refusal before its parameters stops is carried out. -/
theorem execOp_through {op : Nat} {plan : State → Req → Plan} {r : Req} {s : State} (ho : r.opcode = op)
    (h1 : (interrupting (dequeue r s) r && guardedMode (dequeue r s) && !bit r.flags 3) = false) (h2 : absentUnit (dequeue r s) r = false)
    (h3 : (plan (dequeue r s) r).len = false ∨ opMode (dequeue r s) r = true) (h4 : wantsMirror (dequeue r s) r = false) :
    execOp op plan r s = carryOut (asRun r (dequeue r s)) false (plan (dequeue r s) (asRun r (dequeue r s))) (dequeue r s) := by
  subst ho
  unfold execOp
  simp only [with_opcode rfl]
  generalize dequeue r s = u at *
  have h5 : ((plan u r).len && !opMode u r) = false := by rcases h3 with h3 | h3 <;> simp [h3]
  simp only [h1, h2, h4, h5, Bool.false_eq_true, if_false, Bool.false_and]
  rfl

/-- A mirrored operation of an Active node is carried out after its copy went out. -/
theorem execOp_mirrored {op : Nat} {plan : State → Req → Plan} {r : Req} {s : State} (ho : r.opcode = op)
    (h1 : (interrupting (dequeue r s) r && guardedMode (dequeue r s) && !bit r.flags 3) = false) (h2 : absentUnit (dequeue r s) r = false)
    (h3 : (plan (dequeue r s) r).len = false ∨ opMode (dequeue r s) r = true) (h4 : wantsMirror (dequeue r s) r = true) :
    execOp op plan r s =
     (let u := dequeue r s
      let q := { asRun r u with applyAt := if r.applyAt = 0 ∧ (isStaged op = true ∨ boundaryOp op = true) then cal u + 2 else r.applyAt }
      carryOut q true (plan (sendMirror q u) q) (sendMirror q u)) := by
  subst ho
  unfold execOp
  simp only [with_opcode rfl]
  generalize dequeue r s = u at *
  have h5 : ((plan u r).len && !opMode u r) = false := by rcases h3 with h3 | h3 <;> simp [h3]
  simp only [h1, h2, h4, h5, Bool.false_eq_true, if_false, Bool.true_and, if_true]
  have e : ({ r with made := madeFor u r, ran := some (cal u, u.clock.now), applyAt := if (r.applyAt == 0 && (isStaged r.opcode || boundaryOp r.opcode)) = true then cal u + 2 else r.applyAt } : Req)
     = { asRun r u with applyAt := if r.applyAt = 0 ∧ (isStaged r.opcode = true ∨ boundaryOp r.opcode = true) then cal u + 2 else r.applyAt } := by
    simp [asRun]
  rw [e]

/-- A request of the wrong length changes nothing but its reply. -/
theorem carryOut_length {q : Req} {mirr : Bool} {p : Plan} {u : State} (h : p.len = false) : carryOut q mirr p u = finish q BAD_PARAM 0xFFFF 0 mirr false [] u := by
  unfold carryOut; simp [h]

/-- The first check that fails names the status and the offset. -/
theorem carryOut_check {q : Req} {mirr : Bool} {p : Plan} {u : State} {st off : Nat} (h : p.len = true) (hf : (headChecks u q ++ p.checks).find? (fun k => !k.1) = some (false, st, off)) :
    carryOut q mirr p u = finish q st (if st = BAD_PARAM then off else 0) 0 mirr false [] u := by
  unfold carryOut; simp only [h, hf]; rfl

/-- A staged operation that the Commit Gate has no room for. -/
theorem carryOut_full {q : Req} {mirr : Bool} {p : Plan} {u : State} (h : p.len = true) (hf : (headChecks u q ++ p.checks).find? (fun k => !k.1) = none)
   (hs : isStaged q.opcode = true) (hb : u.gate.frozen = true ∨ gateRoom u { stagedOf u q with mirr := mirr, forced := bit q.flags 3 && interrupting u q && guardedMode u } = false) :
    carryOut q mirr p u = finish q BUSY 0 0 mirr false [] u := by
  unfold carryOut; simp only [h, hf, hs]
  rcases hb with hb | hb <;> simp [hb]

end Sys2Proof.Laws
end

