-- ==== Sys2Proof/Laws/Settle.lean ====
section
/-! SUPPORT. What the end of a command leaves: no reset and no relinquishment that a fault asked for is still outstanding. -/

namespace Sys2Proof.Laws

open Sys2Proof.Machine Sys2Proof.Safety

/-- A reset below the data plane's own depth leaves nothing outstanding. -/
theorem resetNow_quiet (d c : Nat) (s : State) (hq : Quiet s) (hd : d ≠ 1) : Quiet (resetNow d c s) := by
  unfold resetNow
  split
  · exact hq
  · have : ∀ d, Quiet (resetTo d c s) := by
      intro d
      simp [Quiet, resetTo, resetFaults]
      split <;> (try split) <;> simp
    split
    · exact this _
    · exact this _

/-- A fold of updates that leave the fault collector alone leaves it alone. -/
theorem foldl_flt {α} (f : State → α → State) (h : ∀ s a, (f s a).flt = s.flt) (l : List α) (s : State) : (l.foldl f s).flt = s.flt := by
  induction l generalizing s with
  | nil => rfl
  | cons a l ih => simp [ih, h]

/-- Sending a frame leaves the fault collector alone. -/
theorem sendFrame_flt (p ty b : Nat) (d : List Byte) (f : List Byte → List Byte) (s : State) : (sendFrame p ty b d f s).flt = s.flt := by
  unfold sendFrame; split; rfl; split; split <;> rfl; rfl

/-- Sending a message to the partner leaves the fault collector alone. -/
theorem sendPair_flt (m : Nat) (b : List Byte) (s : State) : (sendPair m b s).flt = s.flt := by
  unfold sendPair
  split; rfl
  simp only
  apply foldl_flt
  intro s a
  exact foldl_flt _ (fun s a => sendFrame_flt _ _ _ _ _ _) _ _

/-- Sending interrupt vectors leaves the fault collector alone. -/
theorem msixFrom_flt (b : Nat) (s : State) : (msixFrom b s).flt = s.flt := by
  unfold msixFrom
  split
  · apply foldl_flt
    intro s a
    split <;> rfl
  · rfl

/-- Noting a change of WIN_MODE leaves the fault collector alone. -/
theorem noteMode_flt (s : State) : (noteMode s).flt = s.flt := by
  unfold noteMode
  split
  · rfl
  · rw [msixFrom_flt]

/-- After a command nothing that a fault asked for is outstanding. -/
theorem settle_quiet (s : State) : Quiet (settle s) := by
  suffices h : Quiet (performDue (sweepMoves s)) by
    unfold settle Quiet
    rw [noteMode_flt]
    exact h
  unfold performDue
  generalize performFrom 0 (sweepMoves s) = t
  unfold performFrom
  have hq : ∀ u : State, Quiet { u with flt := { u.flt with due := 0, rel := 0 } } := fun _ => ⟨rfl, rfl⟩
  have hr : ∀ (b : Bool) (u : State), Quiet u → Quiet (if b then relinquish t.flt.rel u else u) := by
    intro b u h
    split
    · unfold Quiet relinquish; simp only [sendPair_flt]; exact h
    · exact h
  dsimp only
  split
  · rename_i h
    exact resetNow_quiet _ _ _ (hr _ _ (hq _)) (by omega)
  · exact hr _ _ (hq _)

end Sys2Proof.Laws
end

