-- ==== Sys2Proof/Laws/State.lean ====
section
/-! SUPPORT. What each named update of the state leaves as it was, field by field, and what it writes. -/

set_option Elab.async false

namespace Sys2Proof.Laws

open Sys2Proof.Machine

/-! `emit` changes `wire` only. -/

@[simp] theorem emit_part (o : Out) (s : State) : (emit o s).part = s.part := rfl
@[simp] theorem emit_mode (o : Out) (s : State) : (emit o s).mode = s.mode := rfl
@[simp] theorem emit_cp (o : Out) (s : State) : (emit o s).cp = s.cp := rfl
@[simp] theorem emit_gate (o : Out) (s : State) : (emit o s).gate = s.gate := rfl
@[simp] theorem emit_win (o : Out) (s : State) : (emit o s).win = s.win := rfl
@[simp] theorem emit_sec (o : Out) (s : State) : (emit o s).sec = s.sec := rfl
@[simp] theorem emit_pipe (o : Out) (s : State) : (emit o s).pipe = s.pipe := rfl
@[simp] theorem emit_sward (o : Out) (s : State) : (emit o s).sward = s.sward := rfl
@[simp] theorem emit_fixed (o : Out) (s : State) : (emit o s).fixed = s.fixed := rfl
@[simp] theorem emit_eng (o : Out) (s : State) : (emit o s).eng = s.eng := rfl
@[simp] theorem emit_place (o : Out) (s : State) : (emit o s).place = s.place := rfl
@[simp] theorem emit_fab (o : Out) (s : State) : (emit o s).fab = s.fab := rfl
@[simp] theorem emit_mem (o : Out) (s : State) : (emit o s).mem = s.mem := rfl
@[simp] theorem emit_lines (o : Out) (s : State) : (emit o s).lines = s.lines := rfl
@[simp] theorem emit_ports (o : Out) (s : State) : (emit o s).ports = s.ports := rfl
@[simp] theorem emit_links (o : Out) (s : State) : (emit o s).links = s.links := rfl
@[simp] theorem emit_clock (o : Out) (s : State) : (emit o s).clock = s.clock := rfl
@[simp] theorem emit_cap (o : Out) (s : State) : (emit o s).cap = s.cap := rfl
@[simp] theorem emit_pair (o : Out) (s : State) : (emit o s).pair = s.pair := rfl
@[simp] theorem emit_flt (o : Out) (s : State) : (emit o s).flt = s.flt := rfl
@[simp] theorem emit_boot (o : Out) (s : State) : (emit o s).boot = s.boot := rfl
@[simp] theorem emit_power (o : Out) (s : State) : (emit o s).power = s.power := rfl
@[simp] theorem emit_meter (o : Out) (s : State) : (emit o s).meter = s.meter := rfl
@[simp] theorem emit_settings (o : Out) (s : State) : (emit o s).settings = s.settings := rfl
@[simp] theorem emit_free (o : Out) (s : State) : (emit o s).free = s.free := rfl
@[simp] theorem emit_wire (o : Out) (s : State) : (emit o s).wire = s.wire ++ [o] := rfl
@[simp] theorem emit_pending (o : Out) (s : State) : (emit o s).pending = s.pending := rfl

/-! `modFlt` changes `flt` only. -/

@[simp] theorem modFlt_part (f : Collector → Collector) (s : State) : (modFlt f s).part = s.part := rfl
@[simp] theorem modFlt_mode (f : Collector → Collector) (s : State) : (modFlt f s).mode = s.mode := rfl
@[simp] theorem modFlt_cp (f : Collector → Collector) (s : State) : (modFlt f s).cp = s.cp := rfl
@[simp] theorem modFlt_gate (f : Collector → Collector) (s : State) : (modFlt f s).gate = s.gate := rfl
@[simp] theorem modFlt_win (f : Collector → Collector) (s : State) : (modFlt f s).win = s.win := rfl
@[simp] theorem modFlt_sec (f : Collector → Collector) (s : State) : (modFlt f s).sec = s.sec := rfl
@[simp] theorem modFlt_pipe (f : Collector → Collector) (s : State) : (modFlt f s).pipe = s.pipe := rfl
@[simp] theorem modFlt_sward (f : Collector → Collector) (s : State) : (modFlt f s).sward = s.sward := rfl
@[simp] theorem modFlt_fixed (f : Collector → Collector) (s : State) : (modFlt f s).fixed = s.fixed := rfl
@[simp] theorem modFlt_eng (f : Collector → Collector) (s : State) : (modFlt f s).eng = s.eng := rfl
@[simp] theorem modFlt_place (f : Collector → Collector) (s : State) : (modFlt f s).place = s.place := rfl
@[simp] theorem modFlt_fab (f : Collector → Collector) (s : State) : (modFlt f s).fab = s.fab := rfl
@[simp] theorem modFlt_mem (f : Collector → Collector) (s : State) : (modFlt f s).mem = s.mem := rfl
@[simp] theorem modFlt_lines (f : Collector → Collector) (s : State) : (modFlt f s).lines = s.lines := rfl
@[simp] theorem modFlt_ports (f : Collector → Collector) (s : State) : (modFlt f s).ports = s.ports := rfl
@[simp] theorem modFlt_links (f : Collector → Collector) (s : State) : (modFlt f s).links = s.links := rfl
@[simp] theorem modFlt_clock (f : Collector → Collector) (s : State) : (modFlt f s).clock = s.clock := rfl
@[simp] theorem modFlt_cap (f : Collector → Collector) (s : State) : (modFlt f s).cap = s.cap := rfl
@[simp] theorem modFlt_pair (f : Collector → Collector) (s : State) : (modFlt f s).pair = s.pair := rfl
@[simp] theorem modFlt_flt (f : Collector → Collector) (s : State) : (modFlt f s).flt = f s.flt := rfl
@[simp] theorem modFlt_boot (f : Collector → Collector) (s : State) : (modFlt f s).boot = s.boot := rfl
@[simp] theorem modFlt_power (f : Collector → Collector) (s : State) : (modFlt f s).power = s.power := rfl
@[simp] theorem modFlt_meter (f : Collector → Collector) (s : State) : (modFlt f s).meter = s.meter := rfl
@[simp] theorem modFlt_settings (f : Collector → Collector) (s : State) : (modFlt f s).settings = s.settings := rfl
@[simp] theorem modFlt_free (f : Collector → Collector) (s : State) : (modFlt f s).free = s.free := rfl
@[simp] theorem modFlt_wire (f : Collector → Collector) (s : State) : (modFlt f s).wire = s.wire := rfl
@[simp] theorem modFlt_pending (f : Collector → Collector) (s : State) : (modFlt f s).pending = s.pending := rfl

/-! `modBoot` changes `boot` only. -/

@[simp] theorem modBoot_part (f : Boot → Boot) (s : State) : (modBoot f s).part = s.part := rfl
@[simp] theorem modBoot_mode (f : Boot → Boot) (s : State) : (modBoot f s).mode = s.mode := rfl
@[simp] theorem modBoot_cp (f : Boot → Boot) (s : State) : (modBoot f s).cp = s.cp := rfl
@[simp] theorem modBoot_gate (f : Boot → Boot) (s : State) : (modBoot f s).gate = s.gate := rfl
@[simp] theorem modBoot_win (f : Boot → Boot) (s : State) : (modBoot f s).win = s.win := rfl
@[simp] theorem modBoot_sec (f : Boot → Boot) (s : State) : (modBoot f s).sec = s.sec := rfl
@[simp] theorem modBoot_pipe (f : Boot → Boot) (s : State) : (modBoot f s).pipe = s.pipe := rfl
@[simp] theorem modBoot_sward (f : Boot → Boot) (s : State) : (modBoot f s).sward = s.sward := rfl
@[simp] theorem modBoot_fixed (f : Boot → Boot) (s : State) : (modBoot f s).fixed = s.fixed := rfl
@[simp] theorem modBoot_eng (f : Boot → Boot) (s : State) : (modBoot f s).eng = s.eng := rfl
@[simp] theorem modBoot_place (f : Boot → Boot) (s : State) : (modBoot f s).place = s.place := rfl
@[simp] theorem modBoot_fab (f : Boot → Boot) (s : State) : (modBoot f s).fab = s.fab := rfl
@[simp] theorem modBoot_mem (f : Boot → Boot) (s : State) : (modBoot f s).mem = s.mem := rfl
@[simp] theorem modBoot_lines (f : Boot → Boot) (s : State) : (modBoot f s).lines = s.lines := rfl
@[simp] theorem modBoot_ports (f : Boot → Boot) (s : State) : (modBoot f s).ports = s.ports := rfl
@[simp] theorem modBoot_links (f : Boot → Boot) (s : State) : (modBoot f s).links = s.links := rfl
@[simp] theorem modBoot_clock (f : Boot → Boot) (s : State) : (modBoot f s).clock = s.clock := rfl
@[simp] theorem modBoot_cap (f : Boot → Boot) (s : State) : (modBoot f s).cap = s.cap := rfl
@[simp] theorem modBoot_pair (f : Boot → Boot) (s : State) : (modBoot f s).pair = s.pair := rfl
@[simp] theorem modBoot_flt (f : Boot → Boot) (s : State) : (modBoot f s).flt = s.flt := rfl
@[simp] theorem modBoot_boot (f : Boot → Boot) (s : State) : (modBoot f s).boot = f s.boot := rfl
@[simp] theorem modBoot_power (f : Boot → Boot) (s : State) : (modBoot f s).power = s.power := rfl
@[simp] theorem modBoot_meter (f : Boot → Boot) (s : State) : (modBoot f s).meter = s.meter := rfl
@[simp] theorem modBoot_settings (f : Boot → Boot) (s : State) : (modBoot f s).settings = s.settings := rfl
@[simp] theorem modBoot_free (f : Boot → Boot) (s : State) : (modBoot f s).free = s.free := rfl
@[simp] theorem modBoot_wire (f : Boot → Boot) (s : State) : (modBoot f s).wire = s.wire := rfl
@[simp] theorem modBoot_pending (f : Boot → Boot) (s : State) : (modBoot f s).pending = s.pending := rfl

/-! `modSec` changes `sec` only. -/

@[simp] theorem modSec_part (f : Sec → Sec) (s : State) : (modSec f s).part = s.part := rfl
@[simp] theorem modSec_mode (f : Sec → Sec) (s : State) : (modSec f s).mode = s.mode := rfl
@[simp] theorem modSec_cp (f : Sec → Sec) (s : State) : (modSec f s).cp = s.cp := rfl
@[simp] theorem modSec_gate (f : Sec → Sec) (s : State) : (modSec f s).gate = s.gate := rfl
@[simp] theorem modSec_win (f : Sec → Sec) (s : State) : (modSec f s).win = s.win := rfl
@[simp] theorem modSec_sec (f : Sec → Sec) (s : State) : (modSec f s).sec = f s.sec := rfl
@[simp] theorem modSec_pipe (f : Sec → Sec) (s : State) : (modSec f s).pipe = s.pipe := rfl
@[simp] theorem modSec_sward (f : Sec → Sec) (s : State) : (modSec f s).sward = s.sward := rfl
@[simp] theorem modSec_fixed (f : Sec → Sec) (s : State) : (modSec f s).fixed = s.fixed := rfl
@[simp] theorem modSec_eng (f : Sec → Sec) (s : State) : (modSec f s).eng = s.eng := rfl
@[simp] theorem modSec_place (f : Sec → Sec) (s : State) : (modSec f s).place = s.place := rfl
@[simp] theorem modSec_fab (f : Sec → Sec) (s : State) : (modSec f s).fab = s.fab := rfl
@[simp] theorem modSec_mem (f : Sec → Sec) (s : State) : (modSec f s).mem = s.mem := rfl
@[simp] theorem modSec_lines (f : Sec → Sec) (s : State) : (modSec f s).lines = s.lines := rfl
@[simp] theorem modSec_ports (f : Sec → Sec) (s : State) : (modSec f s).ports = s.ports := rfl
@[simp] theorem modSec_links (f : Sec → Sec) (s : State) : (modSec f s).links = s.links := rfl
@[simp] theorem modSec_clock (f : Sec → Sec) (s : State) : (modSec f s).clock = s.clock := rfl
@[simp] theorem modSec_cap (f : Sec → Sec) (s : State) : (modSec f s).cap = s.cap := rfl
@[simp] theorem modSec_pair (f : Sec → Sec) (s : State) : (modSec f s).pair = s.pair := rfl
@[simp] theorem modSec_flt (f : Sec → Sec) (s : State) : (modSec f s).flt = s.flt := rfl
@[simp] theorem modSec_boot (f : Sec → Sec) (s : State) : (modSec f s).boot = s.boot := rfl
@[simp] theorem modSec_power (f : Sec → Sec) (s : State) : (modSec f s).power = s.power := rfl
@[simp] theorem modSec_meter (f : Sec → Sec) (s : State) : (modSec f s).meter = s.meter := rfl
@[simp] theorem modSec_settings (f : Sec → Sec) (s : State) : (modSec f s).settings = s.settings := rfl
@[simp] theorem modSec_free (f : Sec → Sec) (s : State) : (modSec f s).free = s.free := rfl
@[simp] theorem modSec_wire (f : Sec → Sec) (s : State) : (modSec f s).wire = s.wire := rfl
@[simp] theorem modSec_pending (f : Sec → Sec) (s : State) : (modSec f s).pending = s.pending := rfl

/-! `modPair` changes `pair` only. -/

@[simp] theorem modPair_part (f : Pair → Pair) (s : State) : (modPair f s).part = s.part := rfl
@[simp] theorem modPair_mode (f : Pair → Pair) (s : State) : (modPair f s).mode = s.mode := rfl
@[simp] theorem modPair_cp (f : Pair → Pair) (s : State) : (modPair f s).cp = s.cp := rfl
@[simp] theorem modPair_gate (f : Pair → Pair) (s : State) : (modPair f s).gate = s.gate := rfl
@[simp] theorem modPair_win (f : Pair → Pair) (s : State) : (modPair f s).win = s.win := rfl
@[simp] theorem modPair_sec (f : Pair → Pair) (s : State) : (modPair f s).sec = s.sec := rfl
@[simp] theorem modPair_pipe (f : Pair → Pair) (s : State) : (modPair f s).pipe = s.pipe := rfl
@[simp] theorem modPair_sward (f : Pair → Pair) (s : State) : (modPair f s).sward = s.sward := rfl
@[simp] theorem modPair_fixed (f : Pair → Pair) (s : State) : (modPair f s).fixed = s.fixed := rfl
@[simp] theorem modPair_eng (f : Pair → Pair) (s : State) : (modPair f s).eng = s.eng := rfl
@[simp] theorem modPair_place (f : Pair → Pair) (s : State) : (modPair f s).place = s.place := rfl
@[simp] theorem modPair_fab (f : Pair → Pair) (s : State) : (modPair f s).fab = s.fab := rfl
@[simp] theorem modPair_mem (f : Pair → Pair) (s : State) : (modPair f s).mem = s.mem := rfl
@[simp] theorem modPair_lines (f : Pair → Pair) (s : State) : (modPair f s).lines = s.lines := rfl
@[simp] theorem modPair_ports (f : Pair → Pair) (s : State) : (modPair f s).ports = s.ports := rfl
@[simp] theorem modPair_links (f : Pair → Pair) (s : State) : (modPair f s).links = s.links := rfl
@[simp] theorem modPair_clock (f : Pair → Pair) (s : State) : (modPair f s).clock = s.clock := rfl
@[simp] theorem modPair_cap (f : Pair → Pair) (s : State) : (modPair f s).cap = s.cap := rfl
@[simp] theorem modPair_pair (f : Pair → Pair) (s : State) : (modPair f s).pair = f s.pair := rfl
@[simp] theorem modPair_flt (f : Pair → Pair) (s : State) : (modPair f s).flt = s.flt := rfl
@[simp] theorem modPair_boot (f : Pair → Pair) (s : State) : (modPair f s).boot = s.boot := rfl
@[simp] theorem modPair_power (f : Pair → Pair) (s : State) : (modPair f s).power = s.power := rfl
@[simp] theorem modPair_meter (f : Pair → Pair) (s : State) : (modPair f s).meter = s.meter := rfl
@[simp] theorem modPair_settings (f : Pair → Pair) (s : State) : (modPair f s).settings = s.settings := rfl
@[simp] theorem modPair_free (f : Pair → Pair) (s : State) : (modPair f s).free = s.free := rfl
@[simp] theorem modPair_wire (f : Pair → Pair) (s : State) : (modPair f s).wire = s.wire := rfl
@[simp] theorem modPair_pending (f : Pair → Pair) (s : State) : (modPair f s).pending = s.pending := rfl

/-! `modMeter` changes `meter` only. -/

@[simp] theorem modMeter_part (f : Meter → Meter) (s : State) : (modMeter f s).part = s.part := rfl
@[simp] theorem modMeter_mode (f : Meter → Meter) (s : State) : (modMeter f s).mode = s.mode := rfl
@[simp] theorem modMeter_cp (f : Meter → Meter) (s : State) : (modMeter f s).cp = s.cp := rfl
@[simp] theorem modMeter_gate (f : Meter → Meter) (s : State) : (modMeter f s).gate = s.gate := rfl
@[simp] theorem modMeter_win (f : Meter → Meter) (s : State) : (modMeter f s).win = s.win := rfl
@[simp] theorem modMeter_sec (f : Meter → Meter) (s : State) : (modMeter f s).sec = s.sec := rfl
@[simp] theorem modMeter_pipe (f : Meter → Meter) (s : State) : (modMeter f s).pipe = s.pipe := rfl
@[simp] theorem modMeter_sward (f : Meter → Meter) (s : State) : (modMeter f s).sward = s.sward := rfl
@[simp] theorem modMeter_fixed (f : Meter → Meter) (s : State) : (modMeter f s).fixed = s.fixed := rfl
@[simp] theorem modMeter_eng (f : Meter → Meter) (s : State) : (modMeter f s).eng = s.eng := rfl
@[simp] theorem modMeter_place (f : Meter → Meter) (s : State) : (modMeter f s).place = s.place := rfl
@[simp] theorem modMeter_fab (f : Meter → Meter) (s : State) : (modMeter f s).fab = s.fab := rfl
@[simp] theorem modMeter_mem (f : Meter → Meter) (s : State) : (modMeter f s).mem = s.mem := rfl
@[simp] theorem modMeter_lines (f : Meter → Meter) (s : State) : (modMeter f s).lines = s.lines := rfl
@[simp] theorem modMeter_ports (f : Meter → Meter) (s : State) : (modMeter f s).ports = s.ports := rfl
@[simp] theorem modMeter_links (f : Meter → Meter) (s : State) : (modMeter f s).links = s.links := rfl
@[simp] theorem modMeter_clock (f : Meter → Meter) (s : State) : (modMeter f s).clock = s.clock := rfl
@[simp] theorem modMeter_cap (f : Meter → Meter) (s : State) : (modMeter f s).cap = s.cap := rfl
@[simp] theorem modMeter_pair (f : Meter → Meter) (s : State) : (modMeter f s).pair = s.pair := rfl
@[simp] theorem modMeter_flt (f : Meter → Meter) (s : State) : (modMeter f s).flt = s.flt := rfl
@[simp] theorem modMeter_boot (f : Meter → Meter) (s : State) : (modMeter f s).boot = s.boot := rfl
@[simp] theorem modMeter_power (f : Meter → Meter) (s : State) : (modMeter f s).power = s.power := rfl
@[simp] theorem modMeter_meter (f : Meter → Meter) (s : State) : (modMeter f s).meter = f s.meter := rfl
@[simp] theorem modMeter_settings (f : Meter → Meter) (s : State) : (modMeter f s).settings = s.settings := rfl
@[simp] theorem modMeter_free (f : Meter → Meter) (s : State) : (modMeter f s).free = s.free := rfl
@[simp] theorem modMeter_wire (f : Meter → Meter) (s : State) : (modMeter f s).wire = s.wire := rfl
@[simp] theorem modMeter_pending (f : Meter → Meter) (s : State) : (modMeter f s).pending = s.pending := rfl

/-! `modMg` changes `links` only. -/

@[simp] theorem modMg_part (f : Mg → Mg) (s : State) : (modMg f s).part = s.part := rfl
@[simp] theorem modMg_mode (f : Mg → Mg) (s : State) : (modMg f s).mode = s.mode := rfl
@[simp] theorem modMg_cp (f : Mg → Mg) (s : State) : (modMg f s).cp = s.cp := rfl
@[simp] theorem modMg_gate (f : Mg → Mg) (s : State) : (modMg f s).gate = s.gate := rfl
@[simp] theorem modMg_win (f : Mg → Mg) (s : State) : (modMg f s).win = s.win := rfl
@[simp] theorem modMg_sec (f : Mg → Mg) (s : State) : (modMg f s).sec = s.sec := rfl
@[simp] theorem modMg_pipe (f : Mg → Mg) (s : State) : (modMg f s).pipe = s.pipe := rfl
@[simp] theorem modMg_sward (f : Mg → Mg) (s : State) : (modMg f s).sward = s.sward := rfl
@[simp] theorem modMg_fixed (f : Mg → Mg) (s : State) : (modMg f s).fixed = s.fixed := rfl
@[simp] theorem modMg_eng (f : Mg → Mg) (s : State) : (modMg f s).eng = s.eng := rfl
@[simp] theorem modMg_place (f : Mg → Mg) (s : State) : (modMg f s).place = s.place := rfl
@[simp] theorem modMg_fab (f : Mg → Mg) (s : State) : (modMg f s).fab = s.fab := rfl
@[simp] theorem modMg_mem (f : Mg → Mg) (s : State) : (modMg f s).mem = s.mem := rfl
@[simp] theorem modMg_lines (f : Mg → Mg) (s : State) : (modMg f s).lines = s.lines := rfl
@[simp] theorem modMg_ports (f : Mg → Mg) (s : State) : (modMg f s).ports = s.ports := rfl
@[simp] theorem modMg_links (f : Mg → Mg) (s : State) : (modMg f s).links = { s.links with mg := f s.links.mg } := rfl
@[simp] theorem modMg_clock (f : Mg → Mg) (s : State) : (modMg f s).clock = s.clock := rfl
@[simp] theorem modMg_cap (f : Mg → Mg) (s : State) : (modMg f s).cap = s.cap := rfl
@[simp] theorem modMg_pair (f : Mg → Mg) (s : State) : (modMg f s).pair = s.pair := rfl
@[simp] theorem modMg_flt (f : Mg → Mg) (s : State) : (modMg f s).flt = s.flt := rfl
@[simp] theorem modMg_boot (f : Mg → Mg) (s : State) : (modMg f s).boot = s.boot := rfl
@[simp] theorem modMg_power (f : Mg → Mg) (s : State) : (modMg f s).power = s.power := rfl
@[simp] theorem modMg_meter (f : Mg → Mg) (s : State) : (modMg f s).meter = s.meter := rfl
@[simp] theorem modMg_settings (f : Mg → Mg) (s : State) : (modMg f s).settings = s.settings := rfl
@[simp] theorem modMg_free (f : Mg → Mg) (s : State) : (modMg f s).free = s.free := rfl
@[simp] theorem modMg_wire (f : Mg → Mg) (s : State) : (modMg f s).wire = s.wire := rfl
@[simp] theorem modMg_pending (f : Mg → Mg) (s : State) : (modMg f s).pending = s.pending := rfl

/-! `modModulator` changes `ports` only. -/

@[simp] theorem modModulator_part (f : Drv → Drv) (s : State) : (modModulator f s).part = s.part := rfl
@[simp] theorem modModulator_mode (f : Drv → Drv) (s : State) : (modModulator f s).mode = s.mode := rfl
@[simp] theorem modModulator_cp (f : Drv → Drv) (s : State) : (modModulator f s).cp = s.cp := rfl
@[simp] theorem modModulator_gate (f : Drv → Drv) (s : State) : (modModulator f s).gate = s.gate := rfl
@[simp] theorem modModulator_win (f : Drv → Drv) (s : State) : (modModulator f s).win = s.win := rfl
@[simp] theorem modModulator_sec (f : Drv → Drv) (s : State) : (modModulator f s).sec = s.sec := rfl
@[simp] theorem modModulator_pipe (f : Drv → Drv) (s : State) : (modModulator f s).pipe = s.pipe := rfl
@[simp] theorem modModulator_sward (f : Drv → Drv) (s : State) : (modModulator f s).sward = s.sward := rfl
@[simp] theorem modModulator_fixed (f : Drv → Drv) (s : State) : (modModulator f s).fixed = s.fixed := rfl
@[simp] theorem modModulator_eng (f : Drv → Drv) (s : State) : (modModulator f s).eng = s.eng := rfl
@[simp] theorem modModulator_place (f : Drv → Drv) (s : State) : (modModulator f s).place = s.place := rfl
@[simp] theorem modModulator_fab (f : Drv → Drv) (s : State) : (modModulator f s).fab = s.fab := rfl
@[simp] theorem modModulator_mem (f : Drv → Drv) (s : State) : (modModulator f s).mem = s.mem := rfl
@[simp] theorem modModulator_lines (f : Drv → Drv) (s : State) : (modModulator f s).lines = s.lines := rfl
@[simp] theorem modModulator_ports (f : Drv → Drv) (s : State) : (modModulator f s).ports = { s.ports with drv := f s.ports.drv } := rfl
@[simp] theorem modModulator_links (f : Drv → Drv) (s : State) : (modModulator f s).links = s.links := rfl
@[simp] theorem modModulator_clock (f : Drv → Drv) (s : State) : (modModulator f s).clock = s.clock := rfl
@[simp] theorem modModulator_cap (f : Drv → Drv) (s : State) : (modModulator f s).cap = s.cap := rfl
@[simp] theorem modModulator_pair (f : Drv → Drv) (s : State) : (modModulator f s).pair = s.pair := rfl
@[simp] theorem modModulator_flt (f : Drv → Drv) (s : State) : (modModulator f s).flt = s.flt := rfl
@[simp] theorem modModulator_boot (f : Drv → Drv) (s : State) : (modModulator f s).boot = s.boot := rfl
@[simp] theorem modModulator_power (f : Drv → Drv) (s : State) : (modModulator f s).power = s.power := rfl
@[simp] theorem modModulator_meter (f : Drv → Drv) (s : State) : (modModulator f s).meter = s.meter := rfl
@[simp] theorem modModulator_settings (f : Drv → Drv) (s : State) : (modModulator f s).settings = s.settings := rfl
@[simp] theorem modModulator_free (f : Drv → Drv) (s : State) : (modModulator f s).free = s.free := rfl
@[simp] theorem modModulator_wire (f : Drv → Drv) (s : State) : (modModulator f s).wire = s.wire := rfl
@[simp] theorem modModulator_pending (f : Drv → Drv) (s : State) : (modModulator f s).pending = s.pending := rfl

/-! `modSlp` changes `ports` only. -/

@[simp] theorem modSlp_part (f : Slp → Slp) (s : State) : (modSlp f s).part = s.part := rfl
@[simp] theorem modSlp_mode (f : Slp → Slp) (s : State) : (modSlp f s).mode = s.mode := rfl
@[simp] theorem modSlp_cp (f : Slp → Slp) (s : State) : (modSlp f s).cp = s.cp := rfl
@[simp] theorem modSlp_gate (f : Slp → Slp) (s : State) : (modSlp f s).gate = s.gate := rfl
@[simp] theorem modSlp_win (f : Slp → Slp) (s : State) : (modSlp f s).win = s.win := rfl
@[simp] theorem modSlp_sec (f : Slp → Slp) (s : State) : (modSlp f s).sec = s.sec := rfl
@[simp] theorem modSlp_pipe (f : Slp → Slp) (s : State) : (modSlp f s).pipe = s.pipe := rfl
@[simp] theorem modSlp_sward (f : Slp → Slp) (s : State) : (modSlp f s).sward = s.sward := rfl
@[simp] theorem modSlp_fixed (f : Slp → Slp) (s : State) : (modSlp f s).fixed = s.fixed := rfl
@[simp] theorem modSlp_eng (f : Slp → Slp) (s : State) : (modSlp f s).eng = s.eng := rfl
@[simp] theorem modSlp_place (f : Slp → Slp) (s : State) : (modSlp f s).place = s.place := rfl
@[simp] theorem modSlp_fab (f : Slp → Slp) (s : State) : (modSlp f s).fab = s.fab := rfl
@[simp] theorem modSlp_mem (f : Slp → Slp) (s : State) : (modSlp f s).mem = s.mem := rfl
@[simp] theorem modSlp_lines (f : Slp → Slp) (s : State) : (modSlp f s).lines = s.lines := rfl
@[simp] theorem modSlp_ports (f : Slp → Slp) (s : State) : (modSlp f s).ports = { s.ports with slp := f s.ports.slp } := rfl
@[simp] theorem modSlp_links (f : Slp → Slp) (s : State) : (modSlp f s).links = s.links := rfl
@[simp] theorem modSlp_clock (f : Slp → Slp) (s : State) : (modSlp f s).clock = s.clock := rfl
@[simp] theorem modSlp_cap (f : Slp → Slp) (s : State) : (modSlp f s).cap = s.cap := rfl
@[simp] theorem modSlp_pair (f : Slp → Slp) (s : State) : (modSlp f s).pair = s.pair := rfl
@[simp] theorem modSlp_flt (f : Slp → Slp) (s : State) : (modSlp f s).flt = s.flt := rfl
@[simp] theorem modSlp_boot (f : Slp → Slp) (s : State) : (modSlp f s).boot = s.boot := rfl
@[simp] theorem modSlp_power (f : Slp → Slp) (s : State) : (modSlp f s).power = s.power := rfl
@[simp] theorem modSlp_meter (f : Slp → Slp) (s : State) : (modSlp f s).meter = s.meter := rfl
@[simp] theorem modSlp_settings (f : Slp → Slp) (s : State) : (modSlp f s).settings = s.settings := rfl
@[simp] theorem modSlp_free (f : Slp → Slp) (s : State) : (modSlp f s).free = s.free := rfl
@[simp] theorem modSlp_wire (f : Slp → Slp) (s : State) : (modSlp f s).wire = s.wire := rfl
@[simp] theorem modSlp_pending (f : Slp → Slp) (s : State) : (modSlp f s).pending = s.pending := rfl

/-! `modSp` changes `ports` only. -/

@[simp] theorem modSp_part (p : Nat) (f : SpSt → SpSt) (s : State) : (modSp p f s).part = s.part := rfl
@[simp] theorem modSp_mode (p : Nat) (f : SpSt → SpSt) (s : State) : (modSp p f s).mode = s.mode := rfl
@[simp] theorem modSp_cp (p : Nat) (f : SpSt → SpSt) (s : State) : (modSp p f s).cp = s.cp := rfl
@[simp] theorem modSp_gate (p : Nat) (f : SpSt → SpSt) (s : State) : (modSp p f s).gate = s.gate := rfl
@[simp] theorem modSp_win (p : Nat) (f : SpSt → SpSt) (s : State) : (modSp p f s).win = s.win := rfl
@[simp] theorem modSp_sec (p : Nat) (f : SpSt → SpSt) (s : State) : (modSp p f s).sec = s.sec := rfl
@[simp] theorem modSp_pipe (p : Nat) (f : SpSt → SpSt) (s : State) : (modSp p f s).pipe = s.pipe := rfl
@[simp] theorem modSp_sward (p : Nat) (f : SpSt → SpSt) (s : State) : (modSp p f s).sward = s.sward := rfl
@[simp] theorem modSp_fixed (p : Nat) (f : SpSt → SpSt) (s : State) : (modSp p f s).fixed = s.fixed := rfl
@[simp] theorem modSp_eng (p : Nat) (f : SpSt → SpSt) (s : State) : (modSp p f s).eng = s.eng := rfl
@[simp] theorem modSp_place (p : Nat) (f : SpSt → SpSt) (s : State) : (modSp p f s).place = s.place := rfl
@[simp] theorem modSp_fab (p : Nat) (f : SpSt → SpSt) (s : State) : (modSp p f s).fab = s.fab := rfl
@[simp] theorem modSp_mem (p : Nat) (f : SpSt → SpSt) (s : State) : (modSp p f s).mem = s.mem := rfl
@[simp] theorem modSp_lines (p : Nat) (f : SpSt → SpSt) (s : State) : (modSp p f s).lines = s.lines := rfl
@[simp] theorem modSp_ports (p : Nat) (f : SpSt → SpSt) (s : State) : (modSp p f s).ports = { s.ports with sp := tmod s.ports.sp p {} f } := rfl
@[simp] theorem modSp_links (p : Nat) (f : SpSt → SpSt) (s : State) : (modSp p f s).links = s.links := rfl
@[simp] theorem modSp_clock (p : Nat) (f : SpSt → SpSt) (s : State) : (modSp p f s).clock = s.clock := rfl
@[simp] theorem modSp_cap (p : Nat) (f : SpSt → SpSt) (s : State) : (modSp p f s).cap = s.cap := rfl
@[simp] theorem modSp_pair (p : Nat) (f : SpSt → SpSt) (s : State) : (modSp p f s).pair = s.pair := rfl
@[simp] theorem modSp_flt (p : Nat) (f : SpSt → SpSt) (s : State) : (modSp p f s).flt = s.flt := rfl
@[simp] theorem modSp_boot (p : Nat) (f : SpSt → SpSt) (s : State) : (modSp p f s).boot = s.boot := rfl
@[simp] theorem modSp_power (p : Nat) (f : SpSt → SpSt) (s : State) : (modSp p f s).power = s.power := rfl
@[simp] theorem modSp_meter (p : Nat) (f : SpSt → SpSt) (s : State) : (modSp p f s).meter = s.meter := rfl
@[simp] theorem modSp_settings (p : Nat) (f : SpSt → SpSt) (s : State) : (modSp p f s).settings = s.settings := rfl
@[simp] theorem modSp_free (p : Nat) (f : SpSt → SpSt) (s : State) : (modSp p f s).free = s.free := rfl
@[simp] theorem modSp_wire (p : Nat) (f : SpSt → SpSt) (s : State) : (modSp p f s).wire = s.wire := rfl
@[simp] theorem modSp_pending (p : Nat) (f : SpSt → SpSt) (s : State) : (modSp p f s).pending = s.pending := rfl

/-! `modAe` changes `ports` only. -/

@[simp] theorem modAe_part (p : Nat) (f : AeSt → AeSt) (s : State) : (modAe p f s).part = s.part := rfl
@[simp] theorem modAe_mode (p : Nat) (f : AeSt → AeSt) (s : State) : (modAe p f s).mode = s.mode := rfl
@[simp] theorem modAe_cp (p : Nat) (f : AeSt → AeSt) (s : State) : (modAe p f s).cp = s.cp := rfl
@[simp] theorem modAe_gate (p : Nat) (f : AeSt → AeSt) (s : State) : (modAe p f s).gate = s.gate := rfl
@[simp] theorem modAe_win (p : Nat) (f : AeSt → AeSt) (s : State) : (modAe p f s).win = s.win := rfl
@[simp] theorem modAe_sec (p : Nat) (f : AeSt → AeSt) (s : State) : (modAe p f s).sec = s.sec := rfl
@[simp] theorem modAe_pipe (p : Nat) (f : AeSt → AeSt) (s : State) : (modAe p f s).pipe = s.pipe := rfl
@[simp] theorem modAe_sward (p : Nat) (f : AeSt → AeSt) (s : State) : (modAe p f s).sward = s.sward := rfl
@[simp] theorem modAe_fixed (p : Nat) (f : AeSt → AeSt) (s : State) : (modAe p f s).fixed = s.fixed := rfl
@[simp] theorem modAe_eng (p : Nat) (f : AeSt → AeSt) (s : State) : (modAe p f s).eng = s.eng := rfl
@[simp] theorem modAe_place (p : Nat) (f : AeSt → AeSt) (s : State) : (modAe p f s).place = s.place := rfl
@[simp] theorem modAe_fab (p : Nat) (f : AeSt → AeSt) (s : State) : (modAe p f s).fab = s.fab := rfl
@[simp] theorem modAe_mem (p : Nat) (f : AeSt → AeSt) (s : State) : (modAe p f s).mem = s.mem := rfl
@[simp] theorem modAe_lines (p : Nat) (f : AeSt → AeSt) (s : State) : (modAe p f s).lines = s.lines := rfl
@[simp] theorem modAe_ports (p : Nat) (f : AeSt → AeSt) (s : State) : (modAe p f s).ports = { s.ports with ae := tmod s.ports.ae p {} f } := rfl
@[simp] theorem modAe_links (p : Nat) (f : AeSt → AeSt) (s : State) : (modAe p f s).links = s.links := rfl
@[simp] theorem modAe_clock (p : Nat) (f : AeSt → AeSt) (s : State) : (modAe p f s).clock = s.clock := rfl
@[simp] theorem modAe_cap (p : Nat) (f : AeSt → AeSt) (s : State) : (modAe p f s).cap = s.cap := rfl
@[simp] theorem modAe_pair (p : Nat) (f : AeSt → AeSt) (s : State) : (modAe p f s).pair = s.pair := rfl
@[simp] theorem modAe_flt (p : Nat) (f : AeSt → AeSt) (s : State) : (modAe p f s).flt = s.flt := rfl
@[simp] theorem modAe_boot (p : Nat) (f : AeSt → AeSt) (s : State) : (modAe p f s).boot = s.boot := rfl
@[simp] theorem modAe_power (p : Nat) (f : AeSt → AeSt) (s : State) : (modAe p f s).power = s.power := rfl
@[simp] theorem modAe_meter (p : Nat) (f : AeSt → AeSt) (s : State) : (modAe p f s).meter = s.meter := rfl
@[simp] theorem modAe_settings (p : Nat) (f : AeSt → AeSt) (s : State) : (modAe p f s).settings = s.settings := rfl
@[simp] theorem modAe_free (p : Nat) (f : AeSt → AeSt) (s : State) : (modAe p f s).free = s.free := rfl
@[simp] theorem modAe_wire (p : Nat) (f : AeSt → AeSt) (s : State) : (modAe p f s).wire = s.wire := rfl
@[simp] theorem modAe_pending (p : Nat) (f : AeSt → AeSt) (s : State) : (modAe p f s).pending = s.pending := rfl

/-! `modDrv` changes `ports` only. -/

@[simp] theorem modDrv_part (c : Nat) (f : DrvCh → DrvCh) (s : State) : (modDrv c f s).part = s.part := rfl
@[simp] theorem modDrv_mode (c : Nat) (f : DrvCh → DrvCh) (s : State) : (modDrv c f s).mode = s.mode := rfl
@[simp] theorem modDrv_cp (c : Nat) (f : DrvCh → DrvCh) (s : State) : (modDrv c f s).cp = s.cp := rfl
@[simp] theorem modDrv_gate (c : Nat) (f : DrvCh → DrvCh) (s : State) : (modDrv c f s).gate = s.gate := rfl
@[simp] theorem modDrv_win (c : Nat) (f : DrvCh → DrvCh) (s : State) : (modDrv c f s).win = s.win := rfl
@[simp] theorem modDrv_sec (c : Nat) (f : DrvCh → DrvCh) (s : State) : (modDrv c f s).sec = s.sec := rfl
@[simp] theorem modDrv_pipe (c : Nat) (f : DrvCh → DrvCh) (s : State) : (modDrv c f s).pipe = s.pipe := rfl
@[simp] theorem modDrv_sward (c : Nat) (f : DrvCh → DrvCh) (s : State) : (modDrv c f s).sward = s.sward := rfl
@[simp] theorem modDrv_fixed (c : Nat) (f : DrvCh → DrvCh) (s : State) : (modDrv c f s).fixed = s.fixed := rfl
@[simp] theorem modDrv_eng (c : Nat) (f : DrvCh → DrvCh) (s : State) : (modDrv c f s).eng = s.eng := rfl
@[simp] theorem modDrv_place (c : Nat) (f : DrvCh → DrvCh) (s : State) : (modDrv c f s).place = s.place := rfl
@[simp] theorem modDrv_fab (c : Nat) (f : DrvCh → DrvCh) (s : State) : (modDrv c f s).fab = s.fab := rfl
@[simp] theorem modDrv_mem (c : Nat) (f : DrvCh → DrvCh) (s : State) : (modDrv c f s).mem = s.mem := rfl
@[simp] theorem modDrv_lines (c : Nat) (f : DrvCh → DrvCh) (s : State) : (modDrv c f s).lines = s.lines := rfl
@[simp] theorem modDrv_links (c : Nat) (f : DrvCh → DrvCh) (s : State) : (modDrv c f s).links = s.links := rfl
@[simp] theorem modDrv_clock (c : Nat) (f : DrvCh → DrvCh) (s : State) : (modDrv c f s).clock = s.clock := rfl
@[simp] theorem modDrv_cap (c : Nat) (f : DrvCh → DrvCh) (s : State) : (modDrv c f s).cap = s.cap := rfl
@[simp] theorem modDrv_pair (c : Nat) (f : DrvCh → DrvCh) (s : State) : (modDrv c f s).pair = s.pair := rfl
@[simp] theorem modDrv_flt (c : Nat) (f : DrvCh → DrvCh) (s : State) : (modDrv c f s).flt = s.flt := rfl
@[simp] theorem modDrv_boot (c : Nat) (f : DrvCh → DrvCh) (s : State) : (modDrv c f s).boot = s.boot := rfl
@[simp] theorem modDrv_power (c : Nat) (f : DrvCh → DrvCh) (s : State) : (modDrv c f s).power = s.power := rfl
@[simp] theorem modDrv_meter (c : Nat) (f : DrvCh → DrvCh) (s : State) : (modDrv c f s).meter = s.meter := rfl
@[simp] theorem modDrv_settings (c : Nat) (f : DrvCh → DrvCh) (s : State) : (modDrv c f s).settings = s.settings := rfl
@[simp] theorem modDrv_free (c : Nat) (f : DrvCh → DrvCh) (s : State) : (modDrv c f s).free = s.free := rfl
@[simp] theorem modDrv_wire (c : Nat) (f : DrvCh → DrvCh) (s : State) : (modDrv c f s).wire = s.wire := rfl
@[simp] theorem modDrv_pending (c : Nat) (f : DrvCh → DrvCh) (s : State) : (modDrv c f s).pending = s.pending := rfl

/-! `modLink` changes `links` only. -/

@[simp] theorem modLink_part (p : Nat) (f : LinkSt → LinkSt) (s : State) : (modLink p f s).part = s.part := rfl
@[simp] theorem modLink_mode (p : Nat) (f : LinkSt → LinkSt) (s : State) : (modLink p f s).mode = s.mode := rfl
@[simp] theorem modLink_cp (p : Nat) (f : LinkSt → LinkSt) (s : State) : (modLink p f s).cp = s.cp := rfl
@[simp] theorem modLink_gate (p : Nat) (f : LinkSt → LinkSt) (s : State) : (modLink p f s).gate = s.gate := rfl
@[simp] theorem modLink_win (p : Nat) (f : LinkSt → LinkSt) (s : State) : (modLink p f s).win = s.win := rfl
@[simp] theorem modLink_sec (p : Nat) (f : LinkSt → LinkSt) (s : State) : (modLink p f s).sec = s.sec := rfl
@[simp] theorem modLink_pipe (p : Nat) (f : LinkSt → LinkSt) (s : State) : (modLink p f s).pipe = s.pipe := rfl
@[simp] theorem modLink_sward (p : Nat) (f : LinkSt → LinkSt) (s : State) : (modLink p f s).sward = s.sward := rfl
@[simp] theorem modLink_fixed (p : Nat) (f : LinkSt → LinkSt) (s : State) : (modLink p f s).fixed = s.fixed := rfl
@[simp] theorem modLink_eng (p : Nat) (f : LinkSt → LinkSt) (s : State) : (modLink p f s).eng = s.eng := rfl
@[simp] theorem modLink_place (p : Nat) (f : LinkSt → LinkSt) (s : State) : (modLink p f s).place = s.place := rfl
@[simp] theorem modLink_fab (p : Nat) (f : LinkSt → LinkSt) (s : State) : (modLink p f s).fab = s.fab := rfl
@[simp] theorem modLink_mem (p : Nat) (f : LinkSt → LinkSt) (s : State) : (modLink p f s).mem = s.mem := rfl
@[simp] theorem modLink_lines (p : Nat) (f : LinkSt → LinkSt) (s : State) : (modLink p f s).lines = s.lines := rfl
@[simp] theorem modLink_ports (p : Nat) (f : LinkSt → LinkSt) (s : State) : (modLink p f s).ports = s.ports := rfl
@[simp] theorem modLink_clock (p : Nat) (f : LinkSt → LinkSt) (s : State) : (modLink p f s).clock = s.clock := rfl
@[simp] theorem modLink_cap (p : Nat) (f : LinkSt → LinkSt) (s : State) : (modLink p f s).cap = s.cap := rfl
@[simp] theorem modLink_pair (p : Nat) (f : LinkSt → LinkSt) (s : State) : (modLink p f s).pair = s.pair := rfl
@[simp] theorem modLink_flt (p : Nat) (f : LinkSt → LinkSt) (s : State) : (modLink p f s).flt = s.flt := rfl
@[simp] theorem modLink_boot (p : Nat) (f : LinkSt → LinkSt) (s : State) : (modLink p f s).boot = s.boot := rfl
@[simp] theorem modLink_power (p : Nat) (f : LinkSt → LinkSt) (s : State) : (modLink p f s).power = s.power := rfl
@[simp] theorem modLink_meter (p : Nat) (f : LinkSt → LinkSt) (s : State) : (modLink p f s).meter = s.meter := rfl
@[simp] theorem modLink_settings (p : Nat) (f : LinkSt → LinkSt) (s : State) : (modLink p f s).settings = s.settings := rfl
@[simp] theorem modLink_free (p : Nat) (f : LinkSt → LinkSt) (s : State) : (modLink p f s).free = s.free := rfl
@[simp] theorem modLink_wire (p : Nat) (f : LinkSt → LinkSt) (s : State) : (modLink p f s).wire = s.wire := rfl
@[simp] theorem modLink_pending (p : Nat) (f : LinkSt → LinkSt) (s : State) : (modLink p f s).pending = s.pending := rfl

/-! `modCand` changes `clock` only. -/

@[simp] theorem modCand_part (c : Nat) (f : Cand → Cand) (s : State) : (modCand c f s).part = s.part := rfl
@[simp] theorem modCand_mode (c : Nat) (f : Cand → Cand) (s : State) : (modCand c f s).mode = s.mode := rfl
@[simp] theorem modCand_cp (c : Nat) (f : Cand → Cand) (s : State) : (modCand c f s).cp = s.cp := rfl
@[simp] theorem modCand_gate (c : Nat) (f : Cand → Cand) (s : State) : (modCand c f s).gate = s.gate := rfl
@[simp] theorem modCand_win (c : Nat) (f : Cand → Cand) (s : State) : (modCand c f s).win = s.win := rfl
@[simp] theorem modCand_sec (c : Nat) (f : Cand → Cand) (s : State) : (modCand c f s).sec = s.sec := rfl
@[simp] theorem modCand_pipe (c : Nat) (f : Cand → Cand) (s : State) : (modCand c f s).pipe = s.pipe := rfl
@[simp] theorem modCand_sward (c : Nat) (f : Cand → Cand) (s : State) : (modCand c f s).sward = s.sward := rfl
@[simp] theorem modCand_fixed (c : Nat) (f : Cand → Cand) (s : State) : (modCand c f s).fixed = s.fixed := rfl
@[simp] theorem modCand_eng (c : Nat) (f : Cand → Cand) (s : State) : (modCand c f s).eng = s.eng := rfl
@[simp] theorem modCand_place (c : Nat) (f : Cand → Cand) (s : State) : (modCand c f s).place = s.place := rfl
@[simp] theorem modCand_fab (c : Nat) (f : Cand → Cand) (s : State) : (modCand c f s).fab = s.fab := rfl
@[simp] theorem modCand_mem (c : Nat) (f : Cand → Cand) (s : State) : (modCand c f s).mem = s.mem := rfl
@[simp] theorem modCand_lines (c : Nat) (f : Cand → Cand) (s : State) : (modCand c f s).lines = s.lines := rfl
@[simp] theorem modCand_ports (c : Nat) (f : Cand → Cand) (s : State) : (modCand c f s).ports = s.ports := rfl
@[simp] theorem modCand_links (c : Nat) (f : Cand → Cand) (s : State) : (modCand c f s).links = s.links := rfl
@[simp] theorem modCand_clock (c : Nat) (f : Cand → Cand) (s : State) : (modCand c f s).clock = { s.clock with cands := tmod s.clock.cands c {} f } := rfl
@[simp] theorem modCand_cap (c : Nat) (f : Cand → Cand) (s : State) : (modCand c f s).cap = s.cap := rfl
@[simp] theorem modCand_pair (c : Nat) (f : Cand → Cand) (s : State) : (modCand c f s).pair = s.pair := rfl
@[simp] theorem modCand_flt (c : Nat) (f : Cand → Cand) (s : State) : (modCand c f s).flt = s.flt := rfl
@[simp] theorem modCand_boot (c : Nat) (f : Cand → Cand) (s : State) : (modCand c f s).boot = s.boot := rfl
@[simp] theorem modCand_power (c : Nat) (f : Cand → Cand) (s : State) : (modCand c f s).power = s.power := rfl
@[simp] theorem modCand_meter (c : Nat) (f : Cand → Cand) (s : State) : (modCand c f s).meter = s.meter := rfl
@[simp] theorem modCand_settings (c : Nat) (f : Cand → Cand) (s : State) : (modCand c f s).settings = s.settings := rfl
@[simp] theorem modCand_free (c : Nat) (f : Cand → Cand) (s : State) : (modCand c f s).free = s.free := rfl
@[simp] theorem modCand_wire (c : Nat) (f : Cand → Cand) (s : State) : (modCand c f s).wire = s.wire := rfl
@[simp] theorem modCand_pending (c : Nat) (f : Cand → Cand) (s : State) : (modCand c f s).pending = s.pending := rfl

/-! `modPtp` changes `clock` only. -/

@[simp] theorem modPtp_part (f : Ptp → Ptp) (s : State) : (modPtp f s).part = s.part := rfl
@[simp] theorem modPtp_mode (f : Ptp → Ptp) (s : State) : (modPtp f s).mode = s.mode := rfl
@[simp] theorem modPtp_cp (f : Ptp → Ptp) (s : State) : (modPtp f s).cp = s.cp := rfl
@[simp] theorem modPtp_gate (f : Ptp → Ptp) (s : State) : (modPtp f s).gate = s.gate := rfl
@[simp] theorem modPtp_win (f : Ptp → Ptp) (s : State) : (modPtp f s).win = s.win := rfl
@[simp] theorem modPtp_sec (f : Ptp → Ptp) (s : State) : (modPtp f s).sec = s.sec := rfl
@[simp] theorem modPtp_pipe (f : Ptp → Ptp) (s : State) : (modPtp f s).pipe = s.pipe := rfl
@[simp] theorem modPtp_sward (f : Ptp → Ptp) (s : State) : (modPtp f s).sward = s.sward := rfl
@[simp] theorem modPtp_fixed (f : Ptp → Ptp) (s : State) : (modPtp f s).fixed = s.fixed := rfl
@[simp] theorem modPtp_eng (f : Ptp → Ptp) (s : State) : (modPtp f s).eng = s.eng := rfl
@[simp] theorem modPtp_place (f : Ptp → Ptp) (s : State) : (modPtp f s).place = s.place := rfl
@[simp] theorem modPtp_fab (f : Ptp → Ptp) (s : State) : (modPtp f s).fab = s.fab := rfl
@[simp] theorem modPtp_mem (f : Ptp → Ptp) (s : State) : (modPtp f s).mem = s.mem := rfl
@[simp] theorem modPtp_lines (f : Ptp → Ptp) (s : State) : (modPtp f s).lines = s.lines := rfl
@[simp] theorem modPtp_ports (f : Ptp → Ptp) (s : State) : (modPtp f s).ports = s.ports := rfl
@[simp] theorem modPtp_links (f : Ptp → Ptp) (s : State) : (modPtp f s).links = s.links := rfl
@[simp] theorem modPtp_clock (f : Ptp → Ptp) (s : State) : (modPtp f s).clock = { s.clock with ptp := f s.clock.ptp } := rfl
@[simp] theorem modPtp_cap (f : Ptp → Ptp) (s : State) : (modPtp f s).cap = s.cap := rfl
@[simp] theorem modPtp_pair (f : Ptp → Ptp) (s : State) : (modPtp f s).pair = s.pair := rfl
@[simp] theorem modPtp_flt (f : Ptp → Ptp) (s : State) : (modPtp f s).flt = s.flt := rfl
@[simp] theorem modPtp_boot (f : Ptp → Ptp) (s : State) : (modPtp f s).boot = s.boot := rfl
@[simp] theorem modPtp_power (f : Ptp → Ptp) (s : State) : (modPtp f s).power = s.power := rfl
@[simp] theorem modPtp_meter (f : Ptp → Ptp) (s : State) : (modPtp f s).meter = s.meter := rfl
@[simp] theorem modPtp_settings (f : Ptp → Ptp) (s : State) : (modPtp f s).settings = s.settings := rfl
@[simp] theorem modPtp_free (f : Ptp → Ptp) (s : State) : (modPtp f s).free = s.free := rfl
@[simp] theorem modPtp_wire (f : Ptp → Ptp) (s : State) : (modPtp f s).wire = s.wire := rfl
@[simp] theorem modPtp_pending (f : Ptp → Ptp) (s : State) : (modPtp f s).pending = s.pending := rfl

/-! `modDrive` changes `cap` only. -/

@[simp] theorem modDrive_part (d : Nat) (f : Drive → Drive) (s : State) : (modDrive d f s).part = s.part := rfl
@[simp] theorem modDrive_mode (d : Nat) (f : Drive → Drive) (s : State) : (modDrive d f s).mode = s.mode := rfl
@[simp] theorem modDrive_cp (d : Nat) (f : Drive → Drive) (s : State) : (modDrive d f s).cp = s.cp := rfl
@[simp] theorem modDrive_gate (d : Nat) (f : Drive → Drive) (s : State) : (modDrive d f s).gate = s.gate := rfl
@[simp] theorem modDrive_win (d : Nat) (f : Drive → Drive) (s : State) : (modDrive d f s).win = s.win := rfl
@[simp] theorem modDrive_sec (d : Nat) (f : Drive → Drive) (s : State) : (modDrive d f s).sec = s.sec := rfl
@[simp] theorem modDrive_pipe (d : Nat) (f : Drive → Drive) (s : State) : (modDrive d f s).pipe = s.pipe := rfl
@[simp] theorem modDrive_sward (d : Nat) (f : Drive → Drive) (s : State) : (modDrive d f s).sward = s.sward := rfl
@[simp] theorem modDrive_fixed (d : Nat) (f : Drive → Drive) (s : State) : (modDrive d f s).fixed = s.fixed := rfl
@[simp] theorem modDrive_eng (d : Nat) (f : Drive → Drive) (s : State) : (modDrive d f s).eng = s.eng := rfl
@[simp] theorem modDrive_place (d : Nat) (f : Drive → Drive) (s : State) : (modDrive d f s).place = s.place := rfl
@[simp] theorem modDrive_fab (d : Nat) (f : Drive → Drive) (s : State) : (modDrive d f s).fab = s.fab := rfl
@[simp] theorem modDrive_mem (d : Nat) (f : Drive → Drive) (s : State) : (modDrive d f s).mem = s.mem := rfl
@[simp] theorem modDrive_lines (d : Nat) (f : Drive → Drive) (s : State) : (modDrive d f s).lines = s.lines := rfl
@[simp] theorem modDrive_ports (d : Nat) (f : Drive → Drive) (s : State) : (modDrive d f s).ports = s.ports := rfl
@[simp] theorem modDrive_links (d : Nat) (f : Drive → Drive) (s : State) : (modDrive d f s).links = s.links := rfl
@[simp] theorem modDrive_clock (d : Nat) (f : Drive → Drive) (s : State) : (modDrive d f s).clock = s.clock := rfl
@[simp] theorem modDrive_cap (d : Nat) (f : Drive → Drive) (s : State) : (modDrive d f s).cap = { s.cap with drives := tmod s.cap.drives d {} f } := rfl
@[simp] theorem modDrive_pair (d : Nat) (f : Drive → Drive) (s : State) : (modDrive d f s).pair = s.pair := rfl
@[simp] theorem modDrive_flt (d : Nat) (f : Drive → Drive) (s : State) : (modDrive d f s).flt = s.flt := rfl
@[simp] theorem modDrive_boot (d : Nat) (f : Drive → Drive) (s : State) : (modDrive d f s).boot = s.boot := rfl
@[simp] theorem modDrive_power (d : Nat) (f : Drive → Drive) (s : State) : (modDrive d f s).power = s.power := rfl
@[simp] theorem modDrive_meter (d : Nat) (f : Drive → Drive) (s : State) : (modDrive d f s).meter = s.meter := rfl
@[simp] theorem modDrive_settings (d : Nat) (f : Drive → Drive) (s : State) : (modDrive d f s).settings = s.settings := rfl
@[simp] theorem modDrive_free (d : Nat) (f : Drive → Drive) (s : State) : (modDrive d f s).free = s.free := rfl
@[simp] theorem modDrive_wire (d : Nat) (f : Drive → Drive) (s : State) : (modDrive d f s).wire = s.wire := rfl
@[simp] theorem modDrive_pending (d : Nat) (f : Drive → Drive) (s : State) : (modDrive d f s).pending = s.pending := rfl

/-! `modGroup` changes `cap` only. -/

@[simp] theorem modGroup_part (k : Nat) (f : Group → Group) (s : State) : (modGroup k f s).part = s.part := rfl
@[simp] theorem modGroup_mode (k : Nat) (f : Group → Group) (s : State) : (modGroup k f s).mode = s.mode := rfl
@[simp] theorem modGroup_cp (k : Nat) (f : Group → Group) (s : State) : (modGroup k f s).cp = s.cp := rfl
@[simp] theorem modGroup_gate (k : Nat) (f : Group → Group) (s : State) : (modGroup k f s).gate = s.gate := rfl
@[simp] theorem modGroup_win (k : Nat) (f : Group → Group) (s : State) : (modGroup k f s).win = s.win := rfl
@[simp] theorem modGroup_sec (k : Nat) (f : Group → Group) (s : State) : (modGroup k f s).sec = s.sec := rfl
@[simp] theorem modGroup_pipe (k : Nat) (f : Group → Group) (s : State) : (modGroup k f s).pipe = s.pipe := rfl
@[simp] theorem modGroup_sward (k : Nat) (f : Group → Group) (s : State) : (modGroup k f s).sward = s.sward := rfl
@[simp] theorem modGroup_fixed (k : Nat) (f : Group → Group) (s : State) : (modGroup k f s).fixed = s.fixed := rfl
@[simp] theorem modGroup_eng (k : Nat) (f : Group → Group) (s : State) : (modGroup k f s).eng = s.eng := rfl
@[simp] theorem modGroup_place (k : Nat) (f : Group → Group) (s : State) : (modGroup k f s).place = s.place := rfl
@[simp] theorem modGroup_fab (k : Nat) (f : Group → Group) (s : State) : (modGroup k f s).fab = s.fab := rfl
@[simp] theorem modGroup_mem (k : Nat) (f : Group → Group) (s : State) : (modGroup k f s).mem = s.mem := rfl
@[simp] theorem modGroup_lines (k : Nat) (f : Group → Group) (s : State) : (modGroup k f s).lines = s.lines := rfl
@[simp] theorem modGroup_ports (k : Nat) (f : Group → Group) (s : State) : (modGroup k f s).ports = s.ports := rfl
@[simp] theorem modGroup_links (k : Nat) (f : Group → Group) (s : State) : (modGroup k f s).links = s.links := rfl
@[simp] theorem modGroup_clock (k : Nat) (f : Group → Group) (s : State) : (modGroup k f s).clock = s.clock := rfl
@[simp] theorem modGroup_cap (k : Nat) (f : Group → Group) (s : State) : (modGroup k f s).cap = { s.cap with groups := tupd s.cap.groups k f } := rfl
@[simp] theorem modGroup_pair (k : Nat) (f : Group → Group) (s : State) : (modGroup k f s).pair = s.pair := rfl
@[simp] theorem modGroup_flt (k : Nat) (f : Group → Group) (s : State) : (modGroup k f s).flt = s.flt := rfl
@[simp] theorem modGroup_boot (k : Nat) (f : Group → Group) (s : State) : (modGroup k f s).boot = s.boot := rfl
@[simp] theorem modGroup_power (k : Nat) (f : Group → Group) (s : State) : (modGroup k f s).power = s.power := rfl
@[simp] theorem modGroup_meter (k : Nat) (f : Group → Group) (s : State) : (modGroup k f s).meter = s.meter := rfl
@[simp] theorem modGroup_settings (k : Nat) (f : Group → Group) (s : State) : (modGroup k f s).settings = s.settings := rfl
@[simp] theorem modGroup_free (k : Nat) (f : Group → Group) (s : State) : (modGroup k f s).free = s.free := rfl
@[simp] theorem modGroup_wire (k : Nat) (f : Group → Group) (s : State) : (modGroup k f s).wire = s.wire := rfl
@[simp] theorem modGroup_pending (k : Nat) (f : Group → Group) (s : State) : (modGroup k f s).pending = s.pending := rfl

/-! `modSeg` changes `cap` only. -/

@[simp] theorem modSeg_part (p : Nat × Nat) (f : Seg → Seg) (s : State) : (modSeg p f s).part = s.part := rfl
@[simp] theorem modSeg_mode (p : Nat × Nat) (f : Seg → Seg) (s : State) : (modSeg p f s).mode = s.mode := rfl
@[simp] theorem modSeg_cp (p : Nat × Nat) (f : Seg → Seg) (s : State) : (modSeg p f s).cp = s.cp := rfl
@[simp] theorem modSeg_gate (p : Nat × Nat) (f : Seg → Seg) (s : State) : (modSeg p f s).gate = s.gate := rfl
@[simp] theorem modSeg_win (p : Nat × Nat) (f : Seg → Seg) (s : State) : (modSeg p f s).win = s.win := rfl
@[simp] theorem modSeg_sec (p : Nat × Nat) (f : Seg → Seg) (s : State) : (modSeg p f s).sec = s.sec := rfl
@[simp] theorem modSeg_pipe (p : Nat × Nat) (f : Seg → Seg) (s : State) : (modSeg p f s).pipe = s.pipe := rfl
@[simp] theorem modSeg_sward (p : Nat × Nat) (f : Seg → Seg) (s : State) : (modSeg p f s).sward = s.sward := rfl
@[simp] theorem modSeg_fixed (p : Nat × Nat) (f : Seg → Seg) (s : State) : (modSeg p f s).fixed = s.fixed := rfl
@[simp] theorem modSeg_eng (p : Nat × Nat) (f : Seg → Seg) (s : State) : (modSeg p f s).eng = s.eng := rfl
@[simp] theorem modSeg_place (p : Nat × Nat) (f : Seg → Seg) (s : State) : (modSeg p f s).place = s.place := rfl
@[simp] theorem modSeg_fab (p : Nat × Nat) (f : Seg → Seg) (s : State) : (modSeg p f s).fab = s.fab := rfl
@[simp] theorem modSeg_mem (p : Nat × Nat) (f : Seg → Seg) (s : State) : (modSeg p f s).mem = s.mem := rfl
@[simp] theorem modSeg_lines (p : Nat × Nat) (f : Seg → Seg) (s : State) : (modSeg p f s).lines = s.lines := rfl
@[simp] theorem modSeg_ports (p : Nat × Nat) (f : Seg → Seg) (s : State) : (modSeg p f s).ports = s.ports := rfl
@[simp] theorem modSeg_links (p : Nat × Nat) (f : Seg → Seg) (s : State) : (modSeg p f s).links = s.links := rfl
@[simp] theorem modSeg_clock (p : Nat × Nat) (f : Seg → Seg) (s : State) : (modSeg p f s).clock = s.clock := rfl
@[simp] theorem modSeg_pair (p : Nat × Nat) (f : Seg → Seg) (s : State) : (modSeg p f s).pair = s.pair := rfl
@[simp] theorem modSeg_flt (p : Nat × Nat) (f : Seg → Seg) (s : State) : (modSeg p f s).flt = s.flt := rfl
@[simp] theorem modSeg_boot (p : Nat × Nat) (f : Seg → Seg) (s : State) : (modSeg p f s).boot = s.boot := rfl
@[simp] theorem modSeg_power (p : Nat × Nat) (f : Seg → Seg) (s : State) : (modSeg p f s).power = s.power := rfl
@[simp] theorem modSeg_meter (p : Nat × Nat) (f : Seg → Seg) (s : State) : (modSeg p f s).meter = s.meter := rfl
@[simp] theorem modSeg_settings (p : Nat × Nat) (f : Seg → Seg) (s : State) : (modSeg p f s).settings = s.settings := rfl
@[simp] theorem modSeg_free (p : Nat × Nat) (f : Seg → Seg) (s : State) : (modSeg p f s).free = s.free := rfl
@[simp] theorem modSeg_wire (p : Nat × Nat) (f : Seg → Seg) (s : State) : (modSeg p f s).wire = s.wire := rfl
@[simp] theorem modSeg_pending (p : Nat × Nat) (f : Seg → Seg) (s : State) : (modSeg p f s).pending = s.pending := rfl

/-! `modRec` changes `pipe` only. -/

@[simp] theorem modRec_part (k : Nat) (f : TickRec → TickRec) (s : State) : (modRec k f s).part = s.part := rfl
@[simp] theorem modRec_mode (k : Nat) (f : TickRec → TickRec) (s : State) : (modRec k f s).mode = s.mode := rfl
@[simp] theorem modRec_cp (k : Nat) (f : TickRec → TickRec) (s : State) : (modRec k f s).cp = s.cp := rfl
@[simp] theorem modRec_gate (k : Nat) (f : TickRec → TickRec) (s : State) : (modRec k f s).gate = s.gate := rfl
@[simp] theorem modRec_win (k : Nat) (f : TickRec → TickRec) (s : State) : (modRec k f s).win = s.win := rfl
@[simp] theorem modRec_sec (k : Nat) (f : TickRec → TickRec) (s : State) : (modRec k f s).sec = s.sec := rfl
@[simp] theorem modRec_sward (k : Nat) (f : TickRec → TickRec) (s : State) : (modRec k f s).sward = s.sward := rfl
@[simp] theorem modRec_fixed (k : Nat) (f : TickRec → TickRec) (s : State) : (modRec k f s).fixed = s.fixed := rfl
@[simp] theorem modRec_eng (k : Nat) (f : TickRec → TickRec) (s : State) : (modRec k f s).eng = s.eng := rfl
@[simp] theorem modRec_place (k : Nat) (f : TickRec → TickRec) (s : State) : (modRec k f s).place = s.place := rfl
@[simp] theorem modRec_fab (k : Nat) (f : TickRec → TickRec) (s : State) : (modRec k f s).fab = s.fab := rfl
@[simp] theorem modRec_mem (k : Nat) (f : TickRec → TickRec) (s : State) : (modRec k f s).mem = s.mem := rfl
@[simp] theorem modRec_lines (k : Nat) (f : TickRec → TickRec) (s : State) : (modRec k f s).lines = s.lines := rfl
@[simp] theorem modRec_ports (k : Nat) (f : TickRec → TickRec) (s : State) : (modRec k f s).ports = s.ports := rfl
@[simp] theorem modRec_links (k : Nat) (f : TickRec → TickRec) (s : State) : (modRec k f s).links = s.links := rfl
@[simp] theorem modRec_clock (k : Nat) (f : TickRec → TickRec) (s : State) : (modRec k f s).clock = s.clock := rfl
@[simp] theorem modRec_cap (k : Nat) (f : TickRec → TickRec) (s : State) : (modRec k f s).cap = s.cap := rfl
@[simp] theorem modRec_pair (k : Nat) (f : TickRec → TickRec) (s : State) : (modRec k f s).pair = s.pair := rfl
@[simp] theorem modRec_flt (k : Nat) (f : TickRec → TickRec) (s : State) : (modRec k f s).flt = s.flt := rfl
@[simp] theorem modRec_boot (k : Nat) (f : TickRec → TickRec) (s : State) : (modRec k f s).boot = s.boot := rfl
@[simp] theorem modRec_power (k : Nat) (f : TickRec → TickRec) (s : State) : (modRec k f s).power = s.power := rfl
@[simp] theorem modRec_meter (k : Nat) (f : TickRec → TickRec) (s : State) : (modRec k f s).meter = s.meter := rfl
@[simp] theorem modRec_settings (k : Nat) (f : TickRec → TickRec) (s : State) : (modRec k f s).settings = s.settings := rfl
@[simp] theorem modRec_free (k : Nat) (f : TickRec → TickRec) (s : State) : (modRec k f s).free = s.free := rfl
@[simp] theorem modRec_wire (k : Nat) (f : TickRec → TickRec) (s : State) : (modRec k f s).wire = s.wire := rfl
@[simp] theorem modRec_pending (k : Nat) (f : TickRec → TickRec) (s : State) : (modRec k f s).pending = s.pending := rfl

/-! `modAl` changes `links` only. -/

@[simp] theorem modAl_part (i : Nat) (f : Al → Al) (s : State) : (modAl i f s).part = s.part := rfl
@[simp] theorem modAl_mode (i : Nat) (f : Al → Al) (s : State) : (modAl i f s).mode = s.mode := rfl
@[simp] theorem modAl_cp (i : Nat) (f : Al → Al) (s : State) : (modAl i f s).cp = s.cp := rfl
@[simp] theorem modAl_gate (i : Nat) (f : Al → Al) (s : State) : (modAl i f s).gate = s.gate := rfl
@[simp] theorem modAl_win (i : Nat) (f : Al → Al) (s : State) : (modAl i f s).win = s.win := rfl
@[simp] theorem modAl_sec (i : Nat) (f : Al → Al) (s : State) : (modAl i f s).sec = s.sec := rfl
@[simp] theorem modAl_pipe (i : Nat) (f : Al → Al) (s : State) : (modAl i f s).pipe = s.pipe := rfl
@[simp] theorem modAl_sward (i : Nat) (f : Al → Al) (s : State) : (modAl i f s).sward = s.sward := rfl
@[simp] theorem modAl_fixed (i : Nat) (f : Al → Al) (s : State) : (modAl i f s).fixed = s.fixed := rfl
@[simp] theorem modAl_eng (i : Nat) (f : Al → Al) (s : State) : (modAl i f s).eng = s.eng := rfl
@[simp] theorem modAl_place (i : Nat) (f : Al → Al) (s : State) : (modAl i f s).place = s.place := rfl
@[simp] theorem modAl_fab (i : Nat) (f : Al → Al) (s : State) : (modAl i f s).fab = s.fab := rfl
@[simp] theorem modAl_mem (i : Nat) (f : Al → Al) (s : State) : (modAl i f s).mem = s.mem := rfl
@[simp] theorem modAl_lines (i : Nat) (f : Al → Al) (s : State) : (modAl i f s).lines = s.lines := rfl
@[simp] theorem modAl_ports (i : Nat) (f : Al → Al) (s : State) : (modAl i f s).ports = s.ports := rfl
@[simp] theorem modAl_clock (i : Nat) (f : Al → Al) (s : State) : (modAl i f s).clock = s.clock := rfl
@[simp] theorem modAl_cap (i : Nat) (f : Al → Al) (s : State) : (modAl i f s).cap = s.cap := rfl
@[simp] theorem modAl_pair (i : Nat) (f : Al → Al) (s : State) : (modAl i f s).pair = s.pair := rfl
@[simp] theorem modAl_flt (i : Nat) (f : Al → Al) (s : State) : (modAl i f s).flt = s.flt := rfl
@[simp] theorem modAl_boot (i : Nat) (f : Al → Al) (s : State) : (modAl i f s).boot = s.boot := rfl
@[simp] theorem modAl_power (i : Nat) (f : Al → Al) (s : State) : (modAl i f s).power = s.power := rfl
@[simp] theorem modAl_meter (i : Nat) (f : Al → Al) (s : State) : (modAl i f s).meter = s.meter := rfl
@[simp] theorem modAl_settings (i : Nat) (f : Al → Al) (s : State) : (modAl i f s).settings = s.settings := rfl
@[simp] theorem modAl_free (i : Nat) (f : Al → Al) (s : State) : (modAl i f s).free = s.free := rfl
@[simp] theorem modAl_wire (i : Nat) (f : Al → Al) (s : State) : (modAl i f s).wire = s.wire := rfl
@[simp] theorem modAl_pending (i : Nat) (f : Al → Al) (s : State) : (modAl i f s).pending = s.pending := rfl

/-! `modEng` changes `eng` only. -/

@[simp] theorem modEng_part (e : Nat) (f : Engine → Engine) (s : State) : (modEng e f s).part = s.part := rfl
@[simp] theorem modEng_mode (e : Nat) (f : Engine → Engine) (s : State) : (modEng e f s).mode = s.mode := rfl
@[simp] theorem modEng_cp (e : Nat) (f : Engine → Engine) (s : State) : (modEng e f s).cp = s.cp := rfl
@[simp] theorem modEng_gate (e : Nat) (f : Engine → Engine) (s : State) : (modEng e f s).gate = s.gate := rfl
@[simp] theorem modEng_win (e : Nat) (f : Engine → Engine) (s : State) : (modEng e f s).win = s.win := rfl
@[simp] theorem modEng_sec (e : Nat) (f : Engine → Engine) (s : State) : (modEng e f s).sec = s.sec := rfl
@[simp] theorem modEng_pipe (e : Nat) (f : Engine → Engine) (s : State) : (modEng e f s).pipe = s.pipe := rfl
@[simp] theorem modEng_sward (e : Nat) (f : Engine → Engine) (s : State) : (modEng e f s).sward = s.sward := rfl
@[simp] theorem modEng_fixed (e : Nat) (f : Engine → Engine) (s : State) : (modEng e f s).fixed = s.fixed := rfl
@[simp] theorem modEng_place (e : Nat) (f : Engine → Engine) (s : State) : (modEng e f s).place = s.place := rfl
@[simp] theorem modEng_fab (e : Nat) (f : Engine → Engine) (s : State) : (modEng e f s).fab = s.fab := rfl
@[simp] theorem modEng_mem (e : Nat) (f : Engine → Engine) (s : State) : (modEng e f s).mem = s.mem := rfl
@[simp] theorem modEng_lines (e : Nat) (f : Engine → Engine) (s : State) : (modEng e f s).lines = s.lines := rfl
@[simp] theorem modEng_ports (e : Nat) (f : Engine → Engine) (s : State) : (modEng e f s).ports = s.ports := rfl
@[simp] theorem modEng_links (e : Nat) (f : Engine → Engine) (s : State) : (modEng e f s).links = s.links := rfl
@[simp] theorem modEng_clock (e : Nat) (f : Engine → Engine) (s : State) : (modEng e f s).clock = s.clock := rfl
@[simp] theorem modEng_cap (e : Nat) (f : Engine → Engine) (s : State) : (modEng e f s).cap = s.cap := rfl
@[simp] theorem modEng_pair (e : Nat) (f : Engine → Engine) (s : State) : (modEng e f s).pair = s.pair := rfl
@[simp] theorem modEng_flt (e : Nat) (f : Engine → Engine) (s : State) : (modEng e f s).flt = s.flt := rfl
@[simp] theorem modEng_boot (e : Nat) (f : Engine → Engine) (s : State) : (modEng e f s).boot = s.boot := rfl
@[simp] theorem modEng_power (e : Nat) (f : Engine → Engine) (s : State) : (modEng e f s).power = s.power := rfl
@[simp] theorem modEng_meter (e : Nat) (f : Engine → Engine) (s : State) : (modEng e f s).meter = s.meter := rfl
@[simp] theorem modEng_settings (e : Nat) (f : Engine → Engine) (s : State) : (modEng e f s).settings = s.settings := rfl
@[simp] theorem modEng_free (e : Nat) (f : Engine → Engine) (s : State) : (modEng e f s).free = s.free := rfl
@[simp] theorem modEng_wire (e : Nat) (f : Engine → Engine) (s : State) : (modEng e f s).wire = s.wire := rfl
@[simp] theorem modEng_pending (e : Nat) (f : Engine → Engine) (s : State) : (modEng e f s).pending = s.pending := rfl

/-! `modChain` changes `eng` only. -/

@[simp] theorem modChain_part (h : Nat) (f : Chain → Chain) (s : State) : (modChain h f s).part = s.part := rfl
@[simp] theorem modChain_mode (h : Nat) (f : Chain → Chain) (s : State) : (modChain h f s).mode = s.mode := rfl
@[simp] theorem modChain_cp (h : Nat) (f : Chain → Chain) (s : State) : (modChain h f s).cp = s.cp := rfl
@[simp] theorem modChain_gate (h : Nat) (f : Chain → Chain) (s : State) : (modChain h f s).gate = s.gate := rfl
@[simp] theorem modChain_win (h : Nat) (f : Chain → Chain) (s : State) : (modChain h f s).win = s.win := rfl
@[simp] theorem modChain_sec (h : Nat) (f : Chain → Chain) (s : State) : (modChain h f s).sec = s.sec := rfl
@[simp] theorem modChain_pipe (h : Nat) (f : Chain → Chain) (s : State) : (modChain h f s).pipe = s.pipe := rfl
@[simp] theorem modChain_sward (h : Nat) (f : Chain → Chain) (s : State) : (modChain h f s).sward = s.sward := rfl
@[simp] theorem modChain_fixed (h : Nat) (f : Chain → Chain) (s : State) : (modChain h f s).fixed = s.fixed := rfl
@[simp] theorem modChain_place (h : Nat) (f : Chain → Chain) (s : State) : (modChain h f s).place = s.place := rfl
@[simp] theorem modChain_fab (h : Nat) (f : Chain → Chain) (s : State) : (modChain h f s).fab = s.fab := rfl
@[simp] theorem modChain_mem (h : Nat) (f : Chain → Chain) (s : State) : (modChain h f s).mem = s.mem := rfl
@[simp] theorem modChain_lines (h : Nat) (f : Chain → Chain) (s : State) : (modChain h f s).lines = s.lines := rfl
@[simp] theorem modChain_ports (h : Nat) (f : Chain → Chain) (s : State) : (modChain h f s).ports = s.ports := rfl
@[simp] theorem modChain_links (h : Nat) (f : Chain → Chain) (s : State) : (modChain h f s).links = s.links := rfl
@[simp] theorem modChain_clock (h : Nat) (f : Chain → Chain) (s : State) : (modChain h f s).clock = s.clock := rfl
@[simp] theorem modChain_cap (h : Nat) (f : Chain → Chain) (s : State) : (modChain h f s).cap = s.cap := rfl
@[simp] theorem modChain_pair (h : Nat) (f : Chain → Chain) (s : State) : (modChain h f s).pair = s.pair := rfl
@[simp] theorem modChain_flt (h : Nat) (f : Chain → Chain) (s : State) : (modChain h f s).flt = s.flt := rfl
@[simp] theorem modChain_boot (h : Nat) (f : Chain → Chain) (s : State) : (modChain h f s).boot = s.boot := rfl
@[simp] theorem modChain_power (h : Nat) (f : Chain → Chain) (s : State) : (modChain h f s).power = s.power := rfl
@[simp] theorem modChain_meter (h : Nat) (f : Chain → Chain) (s : State) : (modChain h f s).meter = s.meter := rfl
@[simp] theorem modChain_settings (h : Nat) (f : Chain → Chain) (s : State) : (modChain h f s).settings = s.settings := rfl
@[simp] theorem modChain_free (h : Nat) (f : Chain → Chain) (s : State) : (modChain h f s).free = s.free := rfl
@[simp] theorem modChain_wire (h : Nat) (f : Chain → Chain) (s : State) : (modChain h f s).wire = s.wire := rfl
@[simp] theorem modChain_pending (h : Nat) (f : Chain → Chain) (s : State) : (modChain h f s).pending = s.pending := rfl

/-! `modBank` changes `mem` only. -/

@[simp] theorem modBank_part (n : Nat) (f : Bank → Bank) (s : State) : (modBank n f s).part = s.part := rfl
@[simp] theorem modBank_mode (n : Nat) (f : Bank → Bank) (s : State) : (modBank n f s).mode = s.mode := rfl
@[simp] theorem modBank_cp (n : Nat) (f : Bank → Bank) (s : State) : (modBank n f s).cp = s.cp := rfl
@[simp] theorem modBank_gate (n : Nat) (f : Bank → Bank) (s : State) : (modBank n f s).gate = s.gate := rfl
@[simp] theorem modBank_win (n : Nat) (f : Bank → Bank) (s : State) : (modBank n f s).win = s.win := rfl
@[simp] theorem modBank_sec (n : Nat) (f : Bank → Bank) (s : State) : (modBank n f s).sec = s.sec := rfl
@[simp] theorem modBank_pipe (n : Nat) (f : Bank → Bank) (s : State) : (modBank n f s).pipe = s.pipe := rfl
@[simp] theorem modBank_sward (n : Nat) (f : Bank → Bank) (s : State) : (modBank n f s).sward = s.sward := rfl
@[simp] theorem modBank_fixed (n : Nat) (f : Bank → Bank) (s : State) : (modBank n f s).fixed = s.fixed := rfl
@[simp] theorem modBank_eng (n : Nat) (f : Bank → Bank) (s : State) : (modBank n f s).eng = s.eng := rfl
@[simp] theorem modBank_place (n : Nat) (f : Bank → Bank) (s : State) : (modBank n f s).place = s.place := rfl
@[simp] theorem modBank_fab (n : Nat) (f : Bank → Bank) (s : State) : (modBank n f s).fab = s.fab := rfl
@[simp] theorem modBank_lines (n : Nat) (f : Bank → Bank) (s : State) : (modBank n f s).lines = s.lines := rfl
@[simp] theorem modBank_ports (n : Nat) (f : Bank → Bank) (s : State) : (modBank n f s).ports = s.ports := rfl
@[simp] theorem modBank_links (n : Nat) (f : Bank → Bank) (s : State) : (modBank n f s).links = s.links := rfl
@[simp] theorem modBank_clock (n : Nat) (f : Bank → Bank) (s : State) : (modBank n f s).clock = s.clock := rfl
@[simp] theorem modBank_cap (n : Nat) (f : Bank → Bank) (s : State) : (modBank n f s).cap = s.cap := rfl
@[simp] theorem modBank_pair (n : Nat) (f : Bank → Bank) (s : State) : (modBank n f s).pair = s.pair := rfl
@[simp] theorem modBank_flt (n : Nat) (f : Bank → Bank) (s : State) : (modBank n f s).flt = s.flt := rfl
@[simp] theorem modBank_boot (n : Nat) (f : Bank → Bank) (s : State) : (modBank n f s).boot = s.boot := rfl
@[simp] theorem modBank_power (n : Nat) (f : Bank → Bank) (s : State) : (modBank n f s).power = s.power := rfl
@[simp] theorem modBank_meter (n : Nat) (f : Bank → Bank) (s : State) : (modBank n f s).meter = s.meter := rfl
@[simp] theorem modBank_settings (n : Nat) (f : Bank → Bank) (s : State) : (modBank n f s).settings = s.settings := rfl
@[simp] theorem modBank_free (n : Nat) (f : Bank → Bank) (s : State) : (modBank n f s).free = s.free := rfl
@[simp] theorem modBank_wire (n : Nat) (f : Bank → Bank) (s : State) : (modBank n f s).wire = s.wire := rfl
@[simp] theorem modBank_pending (n : Nat) (f : Bank → Bank) (s : State) : (modBank n f s).pending = s.pending := rfl

/-! `modImage` changes `boot` only. -/

@[simp] theorem modImage_part (i : Nat) (f : Image → Image) (s : State) : (modImage i f s).part = s.part := rfl
@[simp] theorem modImage_mode (i : Nat) (f : Image → Image) (s : State) : (modImage i f s).mode = s.mode := rfl
@[simp] theorem modImage_cp (i : Nat) (f : Image → Image) (s : State) : (modImage i f s).cp = s.cp := rfl
@[simp] theorem modImage_gate (i : Nat) (f : Image → Image) (s : State) : (modImage i f s).gate = s.gate := rfl
@[simp] theorem modImage_win (i : Nat) (f : Image → Image) (s : State) : (modImage i f s).win = s.win := rfl
@[simp] theorem modImage_sec (i : Nat) (f : Image → Image) (s : State) : (modImage i f s).sec = s.sec := rfl
@[simp] theorem modImage_pipe (i : Nat) (f : Image → Image) (s : State) : (modImage i f s).pipe = s.pipe := rfl
@[simp] theorem modImage_sward (i : Nat) (f : Image → Image) (s : State) : (modImage i f s).sward = s.sward := rfl
@[simp] theorem modImage_fixed (i : Nat) (f : Image → Image) (s : State) : (modImage i f s).fixed = s.fixed := rfl
@[simp] theorem modImage_eng (i : Nat) (f : Image → Image) (s : State) : (modImage i f s).eng = s.eng := rfl
@[simp] theorem modImage_place (i : Nat) (f : Image → Image) (s : State) : (modImage i f s).place = s.place := rfl
@[simp] theorem modImage_fab (i : Nat) (f : Image → Image) (s : State) : (modImage i f s).fab = s.fab := rfl
@[simp] theorem modImage_mem (i : Nat) (f : Image → Image) (s : State) : (modImage i f s).mem = s.mem := rfl
@[simp] theorem modImage_lines (i : Nat) (f : Image → Image) (s : State) : (modImage i f s).lines = s.lines := rfl
@[simp] theorem modImage_ports (i : Nat) (f : Image → Image) (s : State) : (modImage i f s).ports = s.ports := rfl
@[simp] theorem modImage_links (i : Nat) (f : Image → Image) (s : State) : (modImage i f s).links = s.links := rfl
@[simp] theorem modImage_clock (i : Nat) (f : Image → Image) (s : State) : (modImage i f s).clock = s.clock := rfl
@[simp] theorem modImage_cap (i : Nat) (f : Image → Image) (s : State) : (modImage i f s).cap = s.cap := rfl
@[simp] theorem modImage_pair (i : Nat) (f : Image → Image) (s : State) : (modImage i f s).pair = s.pair := rfl
@[simp] theorem modImage_flt (i : Nat) (f : Image → Image) (s : State) : (modImage i f s).flt = s.flt := rfl
@[simp] theorem modImage_power (i : Nat) (f : Image → Image) (s : State) : (modImage i f s).power = s.power := rfl
@[simp] theorem modImage_meter (i : Nat) (f : Image → Image) (s : State) : (modImage i f s).meter = s.meter := rfl
@[simp] theorem modImage_settings (i : Nat) (f : Image → Image) (s : State) : (modImage i f s).settings = s.settings := rfl
@[simp] theorem modImage_free (i : Nat) (f : Image → Image) (s : State) : (modImage i f s).free = s.free := rfl
@[simp] theorem modImage_wire (i : Nat) (f : Image → Image) (s : State) : (modImage i f s).wire = s.wire := rfl
@[simp] theorem modImage_pending (i : Nat) (f : Image → Image) (s : State) : (modImage i f s).pending = s.pending := rfl

/-! `stage` changes `gate` only. -/

@[simp] theorem stage_part (g : Staged) (s : State) : (stage g s).part = s.part := rfl
@[simp] theorem stage_mode (g : Staged) (s : State) : (stage g s).mode = s.mode := rfl
@[simp] theorem stage_cp (g : Staged) (s : State) : (stage g s).cp = s.cp := rfl
@[simp] theorem stage_gate (g : Staged) (s : State) : (stage g s).gate = { s.gate with staged := s.gate.staged ++ [g] } := rfl
@[simp] theorem stage_win (g : Staged) (s : State) : (stage g s).win = s.win := rfl
@[simp] theorem stage_sec (g : Staged) (s : State) : (stage g s).sec = s.sec := rfl
@[simp] theorem stage_pipe (g : Staged) (s : State) : (stage g s).pipe = s.pipe := rfl
@[simp] theorem stage_sward (g : Staged) (s : State) : (stage g s).sward = s.sward := rfl
@[simp] theorem stage_fixed (g : Staged) (s : State) : (stage g s).fixed = s.fixed := rfl
@[simp] theorem stage_eng (g : Staged) (s : State) : (stage g s).eng = s.eng := rfl
@[simp] theorem stage_place (g : Staged) (s : State) : (stage g s).place = s.place := rfl
@[simp] theorem stage_fab (g : Staged) (s : State) : (stage g s).fab = s.fab := rfl
@[simp] theorem stage_mem (g : Staged) (s : State) : (stage g s).mem = s.mem := rfl
@[simp] theorem stage_lines (g : Staged) (s : State) : (stage g s).lines = s.lines := rfl
@[simp] theorem stage_ports (g : Staged) (s : State) : (stage g s).ports = s.ports := rfl
@[simp] theorem stage_links (g : Staged) (s : State) : (stage g s).links = s.links := rfl
@[simp] theorem stage_clock (g : Staged) (s : State) : (stage g s).clock = s.clock := rfl
@[simp] theorem stage_cap (g : Staged) (s : State) : (stage g s).cap = s.cap := rfl
@[simp] theorem stage_pair (g : Staged) (s : State) : (stage g s).pair = s.pair := rfl
@[simp] theorem stage_flt (g : Staged) (s : State) : (stage g s).flt = s.flt := rfl
@[simp] theorem stage_boot (g : Staged) (s : State) : (stage g s).boot = s.boot := rfl
@[simp] theorem stage_power (g : Staged) (s : State) : (stage g s).power = s.power := rfl
@[simp] theorem stage_meter (g : Staged) (s : State) : (stage g s).meter = s.meter := rfl
@[simp] theorem stage_settings (g : Staged) (s : State) : (stage g s).settings = s.settings := rfl
@[simp] theorem stage_free (g : Staged) (s : State) : (stage g s).free = s.free := rfl
@[simp] theorem stage_wire (g : Staged) (s : State) : (stage g s).wire = s.wire := rfl
@[simp] theorem stage_pending (g : Staged) (s : State) : (stage g s).pending = s.pending := rfl

/-! `memWrites` changes `mem` only. -/

@[simp] theorem memWrites_part (a : Nat) (bs : List Byte) (s : State) : (memWrites a bs s).part = s.part := rfl
@[simp] theorem memWrites_mode (a : Nat) (bs : List Byte) (s : State) : (memWrites a bs s).mode = s.mode := rfl
@[simp] theorem memWrites_cp (a : Nat) (bs : List Byte) (s : State) : (memWrites a bs s).cp = s.cp := rfl
@[simp] theorem memWrites_gate (a : Nat) (bs : List Byte) (s : State) : (memWrites a bs s).gate = s.gate := rfl
@[simp] theorem memWrites_win (a : Nat) (bs : List Byte) (s : State) : (memWrites a bs s).win = s.win := rfl
@[simp] theorem memWrites_sec (a : Nat) (bs : List Byte) (s : State) : (memWrites a bs s).sec = s.sec := rfl
@[simp] theorem memWrites_pipe (a : Nat) (bs : List Byte) (s : State) : (memWrites a bs s).pipe = s.pipe := rfl
@[simp] theorem memWrites_sward (a : Nat) (bs : List Byte) (s : State) : (memWrites a bs s).sward = s.sward := rfl
@[simp] theorem memWrites_fixed (a : Nat) (bs : List Byte) (s : State) : (memWrites a bs s).fixed = s.fixed := rfl
@[simp] theorem memWrites_eng (a : Nat) (bs : List Byte) (s : State) : (memWrites a bs s).eng = s.eng := rfl
@[simp] theorem memWrites_place (a : Nat) (bs : List Byte) (s : State) : (memWrites a bs s).place = s.place := rfl
@[simp] theorem memWrites_fab (a : Nat) (bs : List Byte) (s : State) : (memWrites a bs s).fab = s.fab := rfl
@[simp] theorem memWrites_lines (a : Nat) (bs : List Byte) (s : State) : (memWrites a bs s).lines = s.lines := rfl
@[simp] theorem memWrites_ports (a : Nat) (bs : List Byte) (s : State) : (memWrites a bs s).ports = s.ports := rfl
@[simp] theorem memWrites_links (a : Nat) (bs : List Byte) (s : State) : (memWrites a bs s).links = s.links := rfl
@[simp] theorem memWrites_clock (a : Nat) (bs : List Byte) (s : State) : (memWrites a bs s).clock = s.clock := rfl
@[simp] theorem memWrites_cap (a : Nat) (bs : List Byte) (s : State) : (memWrites a bs s).cap = s.cap := rfl
@[simp] theorem memWrites_pair (a : Nat) (bs : List Byte) (s : State) : (memWrites a bs s).pair = s.pair := rfl
@[simp] theorem memWrites_flt (a : Nat) (bs : List Byte) (s : State) : (memWrites a bs s).flt = s.flt := rfl
@[simp] theorem memWrites_boot (a : Nat) (bs : List Byte) (s : State) : (memWrites a bs s).boot = s.boot := rfl
@[simp] theorem memWrites_power (a : Nat) (bs : List Byte) (s : State) : (memWrites a bs s).power = s.power := rfl
@[simp] theorem memWrites_meter (a : Nat) (bs : List Byte) (s : State) : (memWrites a bs s).meter = s.meter := rfl
@[simp] theorem memWrites_settings (a : Nat) (bs : List Byte) (s : State) : (memWrites a bs s).settings = s.settings := rfl
@[simp] theorem memWrites_free (a : Nat) (bs : List Byte) (s : State) : (memWrites a bs s).free = s.free := rfl
@[simp] theorem memWrites_wire (a : Nat) (bs : List Byte) (s : State) : (memWrites a bs s).wire = s.wire := rfl
@[simp] theorem memWrites_pending (a : Nat) (bs : List Byte) (s : State) : (memWrites a bs s).pending = s.pending := rfl

/-! `memClear` changes `mem` only. -/

@[simp] theorem memClear_part (lo hi : Nat) (s : State) : (memClear lo hi s).part = s.part := rfl
@[simp] theorem memClear_mode (lo hi : Nat) (s : State) : (memClear lo hi s).mode = s.mode := rfl
@[simp] theorem memClear_cp (lo hi : Nat) (s : State) : (memClear lo hi s).cp = s.cp := rfl
@[simp] theorem memClear_gate (lo hi : Nat) (s : State) : (memClear lo hi s).gate = s.gate := rfl
@[simp] theorem memClear_win (lo hi : Nat) (s : State) : (memClear lo hi s).win = s.win := rfl
@[simp] theorem memClear_sec (lo hi : Nat) (s : State) : (memClear lo hi s).sec = s.sec := rfl
@[simp] theorem memClear_pipe (lo hi : Nat) (s : State) : (memClear lo hi s).pipe = s.pipe := rfl
@[simp] theorem memClear_sward (lo hi : Nat) (s : State) : (memClear lo hi s).sward = s.sward := rfl
@[simp] theorem memClear_fixed (lo hi : Nat) (s : State) : (memClear lo hi s).fixed = s.fixed := rfl
@[simp] theorem memClear_eng (lo hi : Nat) (s : State) : (memClear lo hi s).eng = s.eng := rfl
@[simp] theorem memClear_place (lo hi : Nat) (s : State) : (memClear lo hi s).place = s.place := rfl
@[simp] theorem memClear_fab (lo hi : Nat) (s : State) : (memClear lo hi s).fab = s.fab := rfl
@[simp] theorem memClear_lines (lo hi : Nat) (s : State) : (memClear lo hi s).lines = s.lines := rfl
@[simp] theorem memClear_ports (lo hi : Nat) (s : State) : (memClear lo hi s).ports = s.ports := rfl
@[simp] theorem memClear_links (lo hi : Nat) (s : State) : (memClear lo hi s).links = s.links := rfl
@[simp] theorem memClear_clock (lo hi : Nat) (s : State) : (memClear lo hi s).clock = s.clock := rfl
@[simp] theorem memClear_cap (lo hi : Nat) (s : State) : (memClear lo hi s).cap = s.cap := rfl
@[simp] theorem memClear_pair (lo hi : Nat) (s : State) : (memClear lo hi s).pair = s.pair := rfl
@[simp] theorem memClear_flt (lo hi : Nat) (s : State) : (memClear lo hi s).flt = s.flt := rfl
@[simp] theorem memClear_boot (lo hi : Nat) (s : State) : (memClear lo hi s).boot = s.boot := rfl
@[simp] theorem memClear_power (lo hi : Nat) (s : State) : (memClear lo hi s).power = s.power := rfl
@[simp] theorem memClear_meter (lo hi : Nat) (s : State) : (memClear lo hi s).meter = s.meter := rfl
@[simp] theorem memClear_settings (lo hi : Nat) (s : State) : (memClear lo hi s).settings = s.settings := rfl
@[simp] theorem memClear_free (lo hi : Nat) (s : State) : (memClear lo hi s).free = s.free := rfl
@[simp] theorem memClear_wire (lo hi : Nat) (s : State) : (memClear lo hi s).wire = s.wire := rfl
@[simp] theorem memClear_pending (lo hi : Nat) (s : State) : (memClear lo hi s).pending = s.pending := rfl

end Sys2Proof.Laws
end

