-- ==== Sys2Proof/Tests/Slice0.lean ====
section
/-! SUPPORT. Tests on small states: a witness for what each statement assumes, examples worked in the spec, and terms that are not
well-formed. -/

set_option maxRecDepth 20000
set_option Elab.async false

namespace Sys2Proof.Tests

open Sys2Proof.Machine Sys2Proof.Safety Sys2Proof.Laws

/-! ## Small states -/

/-- A request of the installer role with these parameter bytes. -/
def rq (op : Nat) (ps : List Nat := []) : Req := { opcode := op, role := 2, params := ps.map (BitVec.ofNat 8) }

/-- A node in Commissioning whose data plane runs. -/
def running : State :=
  { mode := { mode := 5 }, boot := { halted := false, step := 0 },
    cp := { started := true }, pipe := { running := true }, clock := { pll := true }, mem := { ready := true },
    meter := { vmet := true, sealSt := 1 } }

/-- A chain of one bundle with one output and one tap. -/
def smallDesc : Desc := { stage := 1, codeBytes := 8, stateBytes := 256, rateMap := 63, tickMap := 63, paramWords := 1, outs := [(1, 0)], taps := [(0, false, 4)] }

/-- A node with that chain in a chain state. -/
def chained (st : Nat) : State := { running with eng := { chains := [(1, { st := st, desc := smallDesc, taps := [4], engine := 0 })] } }

/-- Two drives that are no members. -/
def drives : State := { running with cap := { drives := [(0, { state := 3 }), (1, { state := 3 })] } }

/-- A mounted volume of one drive. -/
def volume : State := { drives with cap := { drives.cap with drives := [(0, { state := 2 }), (1, { state := 3 })], vol := 3, mask := 1 } }

/-- A recorded segment. -/
def segment : Seg := { drive := 0, index := 0, recNo := 1, tracks := 2, n := 2, rate := 1, firstT := 5, lastT := 9, runs := [(5, 5)] }

/-- A volume with that segment. -/
def recorded : State := { volume with cap := { volume.cap with segs := [segment] } }

/-- A paired Active node. -/
def twoNodes : State := { running with mode := { mode := 6 }, pair := { cfg := { flags := 1 }, state := 1, vigilOk := true, vigil := [3] } }

/-- A node in a step of bring-up. -/
def booting (n : Nat) : State := { boot := { step := n }, cp := { started := true } }

/-- A node with a node ID and two link ports up. -/
def linked : State := { running with links := { node := 9, ports := [(0, { state := 2 }), (1, { state := 2 })] } }

/-- A control frame for node 9. -/
def frame : List Byte := [0x02, 0x4C, 0x55, 0, 0, 9] ++ List.replicate 6 0 ++ [0x81, 0, 0, 0, 0x88, 0xB5, 0x12, 0, 0, 0] ++ List.replicate 6 0 ++ [0, 5] ++ List.replicate 34 0

/-- A node in a mode. -/
def inMode (m : Nat) : State := { running with mode := { mode := m } }

/-- A linked node with a precision time clock. -/
def timed (p : Ptp) : State := { linked with clock := { pll := true, ptp := p } }

/-- A node with a state of the service-line plug. -/
def plugged (p : Slp) : State := { running with ports := { slp := p } }

/-- A node with one channel of the Drive Modulator enabled. -/
def driving (c : DrvCh) : State := { running with pipe := { running := true, live := { drv := [(0, { flags := 3 })] } }, ports := { drv := { ch := [(0, c)], cfg := [(0, { flags := 3 })] } } }

/-- A node with a migration in progress. -/
def moving (m : Migr) : State := { chained 5 with pipe := { running := true, cal := 9 }, place := { migr := [m] }, eng := { chains := [(1, { st := 5, desc := smallDesc, engine := 0, first := some 2 })] } }

/-- A Shadow node in a pair state. -/
def shadow (st : Nat) : State := { running with mode := { mode := 7 }, pair := { cfg := { flags := 1 }, state := st, pathUpA := true, pathUpB := true, actIn := true } }

/-- The destination address of a node. -/
def toNode (n : Nat) : List Byte := toBE 4 0x024C5500 ++ toBE 2 n

/-- The destination address of a group. -/
def toGroup (g : Nat) : List Byte := toBE 4 0x034C5501 ++ toBE 2 g

/-- What stands before the Sogus header of a frame. -/
def macHead (dest : List Byte) : List Byte := dest ++ List.replicate 6 0 ++ [0x81, 0, 0, 0, 0x88, 0xB5]

/-- A Sogus header of node 5. -/
def sogus (ty blocks : Nat) : List Byte := toBE 1 (16 + ty) ++ List.replicate 9 0 ++ [0, 5, 0, 0] ++ toBE 1 blocks ++ [0]

/-- A frame of node 5 up to its FCS. -/
def frameTo (dest : List Byte) (ty blocks : Nat) (payload : List Byte) : List Byte := macHead dest ++ sogus ty blocks ++ payload

/-- A key. -/
def key32 : List Byte := List.replicate 32 1

/-- The payload of a pair message of one fragment, number 1, before its seal. -/
def pairMsg (k : Nat) (body : List Byte) : List Byte := toBE 1 k ++ toBE 1 1 ++ toBE 2 body.length ++ toBE 4 1 ++ toBE 6 0 ++ toBE 2 1 ++ body

/-- A pair message of node 5 to node 9, up to its FCS. -/
def pairFr (k : Nat) (body : List Byte) : List Byte :=
  macHead (toNode 9) ++ sogus 3 0 ++ pairMsg k body ++ auth16 key32 (sogus 3 0 ++ pairMsg k body)

/-- Node 9 in a mode and a pair state, with node 5 its partner. -/
def partnered (m st : Nat) : State := { linked with mode := { mode := m }, pair := { cfg := { flags := 1, partner := 5 }, key := key32, state := st } }

/-- A node whose first Heath bank is On. -/
def heath : State := { running with mem := { ready := true, banks := [(0, { pstate := 3 })] } }

/-- The header of a SYS_GET_CAPS request of the observer with a credential slot. -/
def asking (slot : Nat) : List Byte := [2, 0, 1, 1, 0, 0, 0, 0, 0, 0, 0, 1, 0] ++ toBE 1 slot ++ List.replicate 10 0

/-- That request under Local Trust. -/
def trusting : List Byte := asking 7 ++ List.replicate 16 0

/-- That request under the key of slot 0. -/
def keyed : List Byte := asking 0 ++ auth16 key32 (asking 0)

/-- A request with its CRC. -/
def packet (x : List Byte) : List Byte := x ++ toBE 4 (crc32c x)

/-- The bytes of a list as numbers. -/
def toNats (l : List Byte) : List Nat := l.map BitVec.toNat

/-- An engine with nothing on it has all its time left, at whatever rate it runs. -/
theorem slack_unused (s : State) (e : Nat) (hc : cornerMHz s.power.low (leaTempOf s (e / 12)) = none)
    (h : lowestMHz s.power.low (leaTempOf s (e / 12)) ≠ 0) (hu : usable2 s ≠ 0) :
    slackAfter s e 1000 0 0 = 1000 := by
  have hr : engineRate s e ≠ 0 := by simp only [engineRate, hc, Option.getD_none]; omega
  have hp : 0 < engineRate s e * usable2 s := Nat.mul_pos (Nat.pos_of_ne_zero hr) (Nat.pos_of_ne_zero hu)
  unfold slackAfter
  generalize engineRate s e * usable2 s = d at hp
  generalize 2000 * rateHz (rate s) = k
  have h1 : 1000 * d + k * 0 - k * 0 = 1000 * d := by rw [Nat.mul_zero, Nat.add_zero, Nat.sub_zero]
  have h2 : ¬ d = 0 := Nat.pos_iff_ne_zero.1 hp
  simp only [h1, h2, if_false, Nat.mul_div_cancel _ hp, Nat.min_self]

/-- A node with a chain whose code is loaded. -/
def loaded : State := { chained 1 with eng := { chains := [(1, { st := 1, desc := { smallDesc with flags := 1 }, codeGot := [(0, 8)] })] } }

theorem can_move_to_its_pin : ∃ s : State, ∃ r, accepts 0x030D planChainSetPlacement r s = true ∧ bit (par r 2 1) 0 = true ∧
      (chainD s (par r 0 2)).engine ≠ 0xFFFF ∧ (chainD s (par r 0 2)).engine ≠ par r 4 2 ∧
      (∀ m ∈ s.place.migr, m.handle ≠ par r 0 2) ∧ (chainD s (par r 0 2)).pinReq = none ∧
      qualifies (dequeue r s) (par r 0 2) (par r 4 2) false true = true := by
  refine ⟨chained 3, rq 0x030D [0, 1, 1, 0, 0, 1, 0, 0], by decide, by decide, by decide, by decide, by decide, by decide, ?_⟩
  have h : predict (dequeue (rq 0x030D [0, 1, 1, 0, 0, 1, 0, 0]) (chained 3)) 1
      (addCycles (dequeue (rq 0x030D [0, 1, 1, 0, 0, 1, 0, 0]) (chained 3)) (chainD (chained 3) 1)) 0 = 1000 :=
    slack_unused _ 1 (by decide) (by decide) (by decide)
  unfold qualifies
  have e : par (rq 0x030D [0, 1, 1, 0, 0, 1, 0, 0]) 0 2 = 1 ∧ par (rq 0x030D [0, 1, 1, 0, 0, 1, 0, 0]) 4 2 = 1 := by decide
  rw [e.1, e.2]
  simp only [show chainD (dequeue (rq 0x030D [0, 1, 1, 0, 0, 1, 0, 0]) (chained 3)) 1 = chainD (chained 3) 1 from rfl, h]
  decide

theorem can_end_a_load : ∃ s : State, ∃ r, stageable 0x0303 planChainLoadEnd r s = true := by
  refine ⟨loaded, rq 0x0303 [0, 1, 0, 0], ?_⟩
  have hq : qualifies (dequeue (rq 0x0303 [0, 1, 0, 0]) loaded) 1 0 false true = true := by
    have h : predict (dequeue (rq 0x0303 [0, 1, 0, 0]) loaded) 0
      (addCycles (dequeue (rq 0x0303 [0, 1, 0, 0]) loaded) (chainD loaded 1)) 0 = 1000 :=
      slack_unused _ 0 (by decide) (by decide) (by decide)
    unfold qualifies
    simp only [show chainD (dequeue (rq 0x0303 [0, 1, 0, 0]) loaded) 1 = chainD loaded 1 from rfl, h]
    decide
  have ha : admitTo (dequeue (rq 0x0303 [0, 1, 0, 0]) loaded) 1 = some 0 := by
    unfold admitTo
    have : (chainD (dequeue (rq 0x0303 [0, 1, 0, 0]) loaded) 1).desc.pinEngine = 0 := rfl
    rw [if_pos (by decide)]
    simp only [this, hq, if_true]
  have e : par (asRun (rq 0x0303 [0, 1, 0, 0]) (dequeue (rq 0x0303 [0, 1, 0, 0]) loaded)) 0 2 = 1 := by decide
  unfold stageable accepts planChainLoadEnd
  simp only [e, ha]
  decide

theorem a_quiet_period : ∃ s : State, ∃ temps, ∃ occ, ∃ drvQ,
    ((adjustVcore (placePeriod temps occ drvQ s)).eng.engines.any fun g => decide (4 ≤ g.2.missRun)) = false := by
  exact ⟨running, [], [], [], by decide⟩


theorem trusting_desc : packetOf (descBytes 0 44 0, some (packet trusting)) = some (packet trusting) := by
  have h : (packet trusting).length = 44 := by simp [packet, trusting, asking]
  have e : le (descBytes 0 44 0) 8 4 = 44 := by decide
  simp only [packetOf, e, Option.map_some, Option.some.injEq]
  exact List.take_of_length_le (by omega)

theorem keyed_length : (packet keyed).length = 44 := by simp [packet, keyed, asking]

theorem keyed_fits : (packet keyed).length ≤ 4140 := by rw [keyed_length]; decide

/-- A keyed request packet passes the steps of its reception in a state that holds its key and otherwise lets it through. -/
theorem keyed_admitted {src : Src} {ret : Nat × Nat} {s : State} (hs : src ≠ .pair) (hk : keyOf s 0 0 = key32)
    (hr : (let p := packet keyed
      let r := parseReq src ret p
      let u := seqNoted r s
      let q := { r with trust := locallyTrusted s src r.role r.slot (authField p) }
      cpListens s && src != .pair && (src != .link || s.links.node != 0) && fieldsOk p && seqOk s r && opcodeOk r && roleOk r
        && (modeStatus u q).isNone && !absentUnit u q && decide (queueLen u (queueOf r) < queueCap (queueOf r))) = true) :
    admits src ret (packet keyed) s = true := by
  have hb : be (packet keyed) 6 2 = 0 := by decide
  have hl : lengthOk src (packet keyed) = true := by
    unfold lengthOk
    rw [keyed_length, hb]
    cases src <;> decide
  have ha : authOk s (parseReq src ret (packet keyed)) (packet keyed) = true := by
    have h0 : (parseReq src ret (packet keyed)).role = 0 ∧ (parseReq src ret (packet keyed)).slot = 0 := by
      constructor
      · show byteAt (packet keyed) 12 = 0; decide
      · show byteAt (packet keyed) 13 = 0; decide
    have h := authOk_sealed (s := s) (r := parseReq src ret (packet keyed)) (x := asking 0) (c := toBE 4 (crc32c keyed))
    rw [h0.1, h0.2, hk] at h
    exact h (by rw [show asking 0 ++ auth16 key32 (asking 0) ++ toBE 4 (crc32c keyed) = packet keyed from rfl, hb]; decide) (by decide)
  exact admits_sealed hl (by rw [show keyed ++ toBE 4 (crc32c keyed) = packet keyed from rfl, ha, Bool.or_true]) hr

theorem a_keyed_request : admits (udpSrc 0) (0, 0) (packet keyed)
    (if (0 : Nat) = 0 then { running with sec := { work := [(credIx 0 0, key32)] }, links := { mg := { flags := 3, ip := 7 } } }
      else modAl (0 - 1) (fun a => { a with recv := inc16 a.recv })
        { running with sec := { work := [(credIx 0 0, key32)] }, links := { mg := { flags := 3, ip := 7 } } }) = true :=
  keyed_admitted (by decide) (by decide) (by decide)

theorem control_payload : framePayload (frameTo (toNode 9) 2 0 (packet keyed)) = packet keyed := by
  exact List.drop_left' rfl

theorem a_control_request : admits .link (frameSource (frameTo (toNode 9) 2 0 (packet keyed)), 0)
    (framePayload (frameTo (toNode 9) 2 0 (packet keyed)))
    (passed 0 (frameTo (toNode 9) 2 0 (packet keyed)) { linked with sec := { work := [(credIx 0 0, key32)] } }) = true := by
  rw [control_payload]
  exact keyed_admitted (by decide) (by decide) (by decide)

/-! ## What the statements on operations and events assume -/

/-- Every clause of SystemOperations has a state and operands that meet what it assumes. -/
theorem witness_SystemOperations :
    (∃ s : State, ∃ r, (accepts 0x0101 planSysGetCaps r s = true)) ∧
    (∃ s : State, ∃ r, (accepts 0x0102 planSysGetStatus r s = true)) ∧
    (∃ s : State, ∃ r, (stageable 0x0103 planSysSetMode r s = true)) ∧
    (∃ s : State, ∃ r, (stageable 0x0104 planSysSetTimebase r s = true)) ∧
    (∃ s : State, ∃ r, (accepts 0x0105 planSysReset r s = true) ∧ (par r 1 1 = 0)) ∧
    (∃ s : State, ∃ r, (accepts 0x0105 planSysReset r s = true) ∧ (par r 1 1 = 1)) ∧
    (∃ s : State, ∃ r, (stageable 0x0106 planSysMuteAll r s = true)) ∧
    (∃ s : State, ∃ r, (accepts 0x0107 planSysRelay r s = true)) :=
  ⟨⟨running, rq 0x0101, by decide⟩,
    ⟨running, rq 0x0102, by decide⟩,
    ⟨running, rq 0x0103 [6, 0, 0, 0], by decide⟩,
    ⟨running, rq 0x0104 [0, 1, 0, 0], by decide⟩,
    ⟨running, rq 0x0105 (List.replicate 4 0), by decide⟩,
    ⟨twoNodes, { rq 0x0105 [0, 1, 0, 0] with flags := 8 }, by decide⟩,
    ⟨running, rq 0x0106 (List.replicate 4 0), by decide⟩,
    ⟨{ running with links := { dir := [(5, {})] } }, rq 0x0107 ([0, 5] ++ List.replicate 46 0), by decide⟩⟩

/-- Every clause of PlacementAndMemoryOperations has a state and operands that meet what it assumes. -/
theorem witness_PlacementAndMemoryOperations :
    (∃ s : State, ∃ r, (accepts 0x0120 planPlaceSetPolicy r s = true)) ∧
    (∃ s : State, ∃ r, (accepts 0x0121 planPlaceGetPolicy r s = true)) ∧
    (∃ s : State, ∃ r, (accepts 0x0122 planPlaceGetEngines r s = true)) ∧
    (∃ s : State, ∃ r, (accepts 0x0123 planPlaceGetEvents r s = true)) ∧
    (∃ s : State, ∃ r, (accepts 0x0124 planPlaceClearStats r s = true)) ∧
    (∃ s : State, ∃ r, (accepts 0x0130 planMemGetStatus r s = true)) ∧
    (∃ s : State, ∃ r, (accepts 0x0131 planHeathSetPolicy r s = true)) ∧
    (∃ s : State, ∃ r, (accepts 0x0132 planMemClearEcc r s = true)) :=
  ⟨⟨running, rq 0x0120 ([1, 0, 0, 100, 0, 30, 0, 100, 95, 105, 4, 38, 0, 16, 2, 3] ++ List.replicate 16 0), by decide⟩,
    ⟨running, rq 0x0121, by decide⟩,
    ⟨running, rq 0x0122 [0, 0, 0, 1], by decide⟩,
    ⟨running, rq 0x0123 (List.replicate 4 0), by decide⟩,
    ⟨running, rq 0x0124, by decide⟩,
    ⟨running, rq 0x0130, by decide⟩,
    ⟨running, rq 0x0131 (List.replicate 4 0), by decide⟩,
    ⟨running, rq 0x0132, by decide⟩⟩

/-- Every clause of SwardOperations has a state and operands that meet what it assumes. -/
theorem witness_SwardOperations :
    (∃ s : State, ∃ r, (stageable 0x0201 planSwardSetNodes r s = true)) ∧
    (∃ s : State, ∃ r, (stageable 0x0202 planSwardFill r s = true)) ∧
    (∃ s : State, ∃ r, (accepts 0x0203 planSwardDropStaged r s = true)) ∧
    (∃ s : State, ∃ r, (accepts 0x0204 planSwardGetNodes r s = true)) ∧
    (∃ s : State, ∃ r, (accepts 0x0205 planSwardGetColumns r s = true)) ∧
    (∃ s : State, ∃ r, (accepts 0x0206 planSwardGetClip r s = true)) ∧
    (∃ s : State, ∃ r, (accepts 0x0207 planSwardClearClip r s = true)) ∧
    (∃ s : State, ∃ r, (accepts 0x0208 planSwardGetTiles r s = true)) :=
  ⟨⟨running, rq 0x0201 [0, 0, 0, 1, 0, 0, 0, 0, 192, 0, 2, 0], by decide⟩,
    ⟨running, rq 0x0202 [0, 0, 0, 0, 0, 0, 0, 0, 0, 0, 0, 0, 2, 0, 0, 0], by decide⟩,
    ⟨running, rq 0x0203 ([1] ++ List.replicate 7 0), by decide⟩,
    ⟨running, rq 0x0204 (List.replicate 8 0), by decide⟩,
    ⟨running, rq 0x0205 (List.replicate 4 0), by decide⟩,
    ⟨running, rq 0x0206 (List.replicate 4 0), by decide⟩,
    ⟨running, rq 0x0207 (List.replicate 4 0), by decide⟩,
    ⟨running, rq 0x0208 [0, 1], by decide⟩⟩

/-- Every clause of ChainOperations has a state and operands that meet what it assumes. -/
theorem witness_ChainOperations :
    (∃ s : State, ∃ r, (accepts 0x0301 planChainLoadBegin r s = true)) ∧
    (∃ s : State, ∃ r, (accepts 0x0302 planChainLoadData r s = true)) ∧
    (∃ s : State, ∃ r, (stageable 0x0303 planChainLoadEnd r s = true)) ∧
    (∃ s : State, ∃ r, (stageable 0x0304 planChainUnload r s = true)) ∧
    (∃ s : State, ∃ r, (stageable 0x0305 planChainSetParams r s = true)) ∧
    (∃ s : State, ∃ r, (stageable 0x0306 planChainSetTaps r s = true)) ∧
    (∃ s : State, ∃ r, (accepts 0x0307 planChainGetStatus r s = true)) ∧
    (∃ s : State, ∃ r, (accepts 0x0308 planChainClearCounters r s = true)) ∧
    (∃ s : State, ∃ r, (stageable 0x0309 planMapSet r s = true)) ∧
    (∃ s : State, ∃ r, (accepts 0x030A planMapGet r s = true)) ∧
    (∃ s : State, ∃ r, (stageable 0x030B planChainWriteState r s = true)) ∧
    (∃ s : State, ∃ r, (accepts 0x030C planChainReadState r s = true)) ∧
    (∃ s : State, ∃ r, (accepts 0x030D planChainSetPlacement r s = true) ∧ ((bit (par r 2 1) 0 = false ∨ (chainD s (par r 0 2)).engine = 0xFFFF ∨ (chainD s (par r 0 2)).engine = par r 4 2)) ∧ ((∀ m ∈ s.place.migr, m.handle ≠ par r 0 2)) ∧ ((chainD s (par r 0 2)).pinReq = none)) ∧
    (∃ s : State, ∃ r, (accepts 0x030D planChainSetPlacement r s = true) ∧ (bit (par r 2 1) 0 = true) ∧ ((chainD s (par r 0 2)).engine ≠ 0xFFFF) ∧ ((chainD s (par r 0 2)).engine ≠ par r 4 2) ∧ ((∀ m ∈ s.place.migr, m.handle ≠ par r 0 2)) ∧ ((chainD s (par r 0 2)).pinReq = none) ∧ (qualifies (dequeue r s) (par r 0 2) (par r 4 2) false true = true)) :=
  ⟨⟨running, rq 0x0301 [1, 1, 0, 0, 0, 0, 0, 0, 0, 0, 0, 8, 0, 0, 1, 0, 0, 0, 0, 0, 0, 0, 0, 0, 0, 0, 0, 0, 0, 0, 0, 1, 0, 0, 0, 0, 0, 0, 0, 0, 0, 0, 0, 0, 63, 63, 0, 0, 0, 0, 0, 0, 0, 0, 0, 0, 0, 0, 0, 0, 0, 0, 0, 0, 0, 0, 0, 0, 0, 0, 0, 0, 0, 0, 0, 0, 0, 0, 0, 0, 0, 0, 0, 0, 0, 0, 0, 0, 0, 0, 0, 0, 0, 0, 0, 0, 64, 0, 0, 0], by decide⟩,
    ⟨(chained 1), rq 0x0302 ([0, 1] ++ List.replicate 14 0), by decide⟩,
    can_end_a_load,
    ⟨(chained 3), rq 0x0304 [0, 1, 0, 0], by decide⟩,
    ⟨(chained 3), rq 0x0305 [0, 1, 0, 1, 0, 0, 0, 0, 0, 0, 0, 7], by decide⟩,
    ⟨{ chained 3 with lines := { tab := [(0, { len := 100, cap := 128, base := 0, mark := 0 })] } }, rq 0x0306 [0, 1, 0, 1, 0, 0, 0, 0, 0, 0, 0, 4], by decide⟩,
    ⟨(chained 3), rq 0x0307 [0, 1, 0, 0], by decide⟩,
    ⟨running, rq 0x0308 (List.replicate 4 0), by decide⟩,
    ⟨running, rq 0x0309 ([0, 1, 0, 0, 1] ++ List.replicate 7 0), by decide⟩,
    ⟨running, rq 0x030A [1, 0, 0, 0, 0, 1], by decide⟩,
    ⟨(chained 3), rq 0x030B ([0, 1] ++ List.replicate 14 0), by decide⟩,
    ⟨(chained 3), rq 0x030C [0, 1, 0, 0, 0, 0, 0, 0, 0, 4], by decide⟩,
    ⟨(chained 3), rq 0x030D ([0, 1] ++ List.replicate 6 0), by decide⟩,
    can_move_to_its_pin⟩

/-- Every clause of FixedBlockAndLineOperations has a state and operands that meet what it assumes. -/
theorem witness_FixedBlockAndLineOperations :
    (∃ s : State, ∃ r, (stageable 0x0320 planDynConfig r s = true)) ∧
    (∃ s : State, ∃ r, (stageable 0x0321 planDynSetParams r s = true)) ∧
    (∃ s : State, ∃ r, (accepts 0x0322 planDynGet r s = true)) ∧
    (∃ s : State, ∃ r, ∃ b, (accepts 0x0340 planLineAlloc r s = true) ∧ (bestFit s (4 * lineCap (par r 4 4)) = some b)) ∧
    (∃ s : State, ∃ r, (accepts 0x0341 planLineFree r s = true)) ∧
    (∃ s : State, ∃ r, (accepts 0x0342 planLineGet r s = true)) ∧
    (∃ s : State, ∃ r, (accepts 0x0880 planMeterOpSet r s = true)) ∧
    (∃ s : State, ∃ r, (accepts 0x0881 planMeterOpRead r s = true)) ∧
    (∃ s : State, ∃ r, (accepts 0x0890 planSilenceSet r s = true)) ∧
    (∃ s : State, ∃ r, (accepts 0x0891 planSilenceGet r s = true)) :=
  ⟨⟨running, rq 0x0320 ([0, 0, 0, 0, 64] ++ List.replicate 11 0), by decide⟩,
    ⟨running, rq 0x0321 ([0, 0, 0, 0, 1, 0, 0, 0, 0, 0, 0, 1] ++ List.replicate 4 0), by decide⟩,
    ⟨running, rq 0x0322 [0, 0], by decide⟩,
    ⟨running, rq 0x0340 [0, 0, 0, 0, 0, 0, 0, 100], 0, by decide⟩,
    ⟨{ running with lines := { tab := [(0, { len := 100, cap := 128, base := 0, mark := 0 })] } }, rq 0x0341 (List.replicate 4 0), by decide⟩,
    ⟨{ running with lines := { tab := [(0, { len := 100, cap := 128, base := 0, mark := 0 })] } }, rq 0x0342 [0, 0], by decide⟩,
    ⟨running, rq 0x0880 ([0, 0, 0, 0, 0, 0, 0, 0, 0, 0, 0, 0, 0, 0, 0, 1] ++ List.replicate 60 0), by decide⟩,
    ⟨running, rq 0x0881 [0, 0, 0, 1], by decide⟩,
    ⟨running, rq 0x0890 [216, 0, 0, 10], by decide⟩,
    ⟨running, rq 0x0891 [1], by decide⟩⟩

/-- Every clause of PortOperations has a state and operands that meet what it assumes. -/
theorem witness_PortOperations :
    (∃ s : State, ∃ r, (stageable 0x0401 planSpConfig r s = true)) ∧
    (∃ s : State, ∃ r, (accepts 0x0402 planSpGetStatus r s = true)) ∧
    (∃ s : State, ∃ r, (accepts 0x0403 planSpSetMclk r s = true)) ∧
    (∃ s : State, ∃ r, (accepts 0x0404 planSpClear r s = true)) ∧
    (∃ s : State, ∃ r, (stageable 0x0410 planAeConfig r s = true)) ∧
    (∃ s : State, ∃ r, (accepts 0x0411 planAeGetStatus r s = true)) ∧
    (∃ s : State, ∃ r, (stageable 0x0420 planDrvConfig r s = true)) ∧
    (∃ s : State, ∃ r, (stageable 0x0421 planDrvSetFreq r s = true)) ∧
    (∃ s : State, ∃ r, (accepts 0x0422 planDrvRearm r s = true)) ∧
    (∃ s : State, ∃ r, (accepts 0x0423 planDrvGetStatus r s = true)) ∧
    (∃ s : State, ∃ r, (accepts 0x0430 planSlpSetListen r s = true)) ∧
    (∃ s : State, ∃ r, (accepts 0x0431 planSlpTone r s = true)) ∧
    (∃ s : State, ∃ r, (accepts 0x0432 planSlpGetEvents r s = true)) ∧
    (∃ s : State, ∃ r, (stageable 0x0440 planTgSet r s = true)) ∧
    (∃ s : State, ∃ r, (accepts 0x0441 planTgGet r s = true)) :=
  ⟨⟨running, rq 0x0401 ([0, 1, 0, 2, 24, 32] ++ List.replicate 10 0), by decide⟩,
    ⟨running, rq 0x0402, by decide⟩,
    ⟨running, rq 0x0403 (List.replicate 4 0), by decide⟩,
    ⟨running, rq 0x0404, by decide⟩,
    ⟨running, rq 0x0410 (List.replicate 8 0), by decide⟩,
    ⟨running, rq 0x0411, by decide⟩,
    ⟨running, rq 0x0420 (List.replicate 8 0), by decide⟩,
    ⟨running, rq 0x0421 (List.replicate 4 0), by decide⟩,
    ⟨running, rq 0x0422 (List.replicate 5 0), by decide⟩,
    ⟨running, rq 0x0423, by decide⟩,
    ⟨running, rq 0x0430 (List.replicate 12 0), by decide⟩,
    ⟨running, rq 0x0431 [3, 232, 0, 100, 192, 0, 0, 0], by decide⟩,
    ⟨running, rq 0x0432, by decide⟩,
    ⟨running, rq 0x0440 ([0, 1, 1, 1, 0, 0, 192, 0, 0, 0, 3, 232] ++ List.replicate 4 0), by decide⟩,
    ⟨running, rq 0x0441 [0], by decide⟩⟩

/-- Every clause of LinkOperations has a state and operands that meet what it assumes. -/
theorem witness_LinkOperations :
    (∃ s : State, ∃ r, (accepts 0x0501 planLinkSetNode r s = true)) ∧
    (∃ s : State, ∃ r, (stageable 0x0502 planLinkConfig r s = true)) ∧
    (∃ s : State, ∃ r, (accepts 0x0503 planLinkGetStatus r s = true)) ∧
    (∃ s : State, ∃ r, (stageable 0x0504 planFlowOutSet r s = true)) ∧
    (∃ s : State, ∃ r, (stageable 0x0505 planFlowOutDelete r s = true)) ∧
    (∃ s : State, ∃ r, (stageable 0x0506 planFlowInSet r s = true)) ∧
    (∃ s : State, ∃ r, (stageable 0x0507 planFlowInDelete r s = true)) ∧
    (∃ s : State, ∃ r, (accepts 0x0508 planFlowGetStatus r s = true)) ∧
    (∃ s : State, ∃ r, (accepts 0x0509 planGroupSet r s = true)) ∧
    (∃ s : State, ∃ r, (accepts 0x050A planGroupDelete r s = true)) ∧
    (∃ s : State, ∃ r, (accepts 0x050B planDirSet r s = true)) ∧
    (∃ s : State, ∃ r, (accepts 0x050C planDirGet r s = true)) ∧
    (∃ s : State, ∃ r, (accepts 0x050D planRingSet r s = true)) ∧
    (∃ s : State, ∃ r, (stageable 0x0510 planAoipSenderSet r s = true)) ∧
    (∃ s : State, ∃ r, (stageable 0x0511 planAoipReceiverSet r s = true)) ∧
    (∃ s : State, ∃ r, (accepts 0x0512 planAoipGetStatus r s = true)) ∧
    (∃ s : State, ∃ r, (accepts 0x0520 planMgConfig r s = true)) ∧
    (∃ s : State, ∃ r, (accepts 0x0521 planMgSetWake r s = true)) ∧
    (∃ s : State, ∃ r, (accepts 0x0530 planAlConfig r s = true)) ∧
    (∃ s : State, ∃ r, (accepts 0x0531 planAlFrameTx r s = true)) ∧
    (∃ s : State, ∃ r, (accepts 0x0532 planAlFrameRx r s = true)) ∧
    (∃ s : State, ∃ r, (accepts 0x0533 planAlGetStatus r s = true)) ∧
    (∃ s : State, ∃ r, (accepts 0x0540 planLinkClear r s = true)) :=
  ⟨⟨running, rq 0x0501 [0, 5, 136, 181, 0, 0, 0, 1], by decide⟩,
    ⟨running, rq 0x0502 [0, 0, 0, 0, 0, 0, 0, 0, 0, 0, 0, 0, 8, 0, 0, 0], by decide⟩,
    ⟨running, rq 0x0503, by decide⟩,
    ⟨{ running with links := { groups := [(3, {})] } }, rq 0x0504 ([0, 0, 1, 2, 0, 0, 0, 3] ++ List.replicate 8 0), by decide⟩,
    ⟨{ running with pipe := { running := true, live := { flowOut := [(0, {})] } } }, rq 0x0505 (List.replicate 4 0), by decide⟩,
    ⟨running, rq 0x0506 ([0, 5, 0, 0, 0, 0, 1, 1] ++ List.replicate 8 0), by decide⟩,
    ⟨{ running with pipe := { running := true, live := { flowIn := [(flowKey 5 0, {})] } } }, rq 0x0507 [0, 5, 0, 0], by decide⟩,
    ⟨running, rq 0x0508 [0, 0, 0, 1], by decide⟩,
    ⟨running, rq 0x0509 (List.replicate 8 0), by decide⟩,
    ⟨{ running with links := { groups := [(3, {})] } }, rq 0x050A [0, 3, 0, 0], by decide⟩,
    ⟨running, rq 0x050B [0, 5, 1, 0, 255, 1, 0, 0], by decide⟩,
    ⟨running, rq 0x050C [0, 0, 0, 1], by decide⟩,
    ⟨running, rq 0x050D [0, 1, 0, 1, 0, 1, 0, 0], by decide⟩,
    ⟨running, rq 0x0510 ([0, 0, 1, 0, 0, 0, 0, 2, 224, 0, 0, 1, 19, 140, 96, 1] ++ List.replicate 8 0), by decide⟩,
    ⟨running, rq 0x0511 [0, 0, 1, 0, 0, 0, 0, 2, 224, 0, 0, 1, 19, 140, 96, 1, 0, 0, 0, 0, 0, 0, 0, 125], by decide⟩,
    ⟨running, rq 0x0512 [0, 0, 1, 0], by decide⟩,
    ⟨running, rq 0x0520 [0, 24, 0, 1, 0, 0, 0, 0, 0, 0, 0, 0, 2, 0, 0, 0, 0, 1, 0, 0], by decide⟩,
    ⟨running, rq 0x0521 (List.replicate 20 0), by decide⟩,
    ⟨running, rq 0x0530 ([0, 0, 0, 0, 0, 0, 0, 0, 8] ++ List.replicate 7 0), by decide⟩,
    ⟨running, rq 0x0531 ([0, 0, 0, 60] ++ List.replicate 60 0), by decide⟩,
    ⟨running, rq 0x0532 (List.replicate 4 0), by decide⟩,
    ⟨running, rq 0x0533 (List.replicate 4 0), by decide⟩,
    ⟨running, rq 0x0540, by decide⟩⟩

/-- Every clause of ClockOperations has a state and operands that meet what it assumes. -/
theorem witness_ClockOperations :
    (∃ s : State, ∃ r, (accepts 0x0601 planClkSetRef r s = true)) ∧
    (∃ s : State, ∃ r, (accepts 0x0602 planClkSetSelect r s = true)) ∧
    (∃ s : State, ∃ r, (accepts 0x0603 planClkSetDco r s = true)) ∧
    (∃ s : State, ∃ r, (accepts 0x0604 planClkSetHoldover r s = true)) ∧
    (∃ s : State, ∃ r, (accepts 0x0605 planClkGetStatus r s = true)) ∧
    (∃ s : State, ∃ r, (accepts 0x0606 planClkClearHist r s = true)) ∧
    (∃ s : State, ∃ r, (accepts 0x0610 planPtpConfig r s = true)) ∧
    (∃ s : State, ∃ r, (accepts 0x0611 planPtpGetStatus r s = true)) ∧
    (∃ s : State, ∃ r, (accepts 0x0620 planPulseConfig r s = true)) ∧
    (∃ s : State, ∃ r, (accepts 0x0630 planAlmanacSet r s = true)) ∧
    (∃ s : State, ∃ r, (accepts 0x0631 planAlmanacGet r s = true)) ∧
    (∃ s : State, ∃ r, (accepts 0x0640 planTimeGet r s = true)) ∧
    (∃ s : State, ∃ r, (stageable 0x0641 planTimeStep r s = true)) ∧
    (∃ s : State, ∃ r, (stageable 0x0642 planTimeSetEpoch r s = true)) ∧
    (∃ s : State, ∃ r, (accepts 0x0643 planTimeGetStamps r s = true)) :=
  ⟨⟨running, rq 0x0601 ([4, 1, 1, 0, 0, 0, 0, 0, 0, 0, 0, 0, 1, 2, 1, 1] ++ List.replicate 4 0), by decide⟩,
    ⟨running, rq 0x0602 [0, 0, 0, 0, 0, 15, 66, 64, 0, 0, 0, 0, 0, 0, 0, 100], by decide⟩,
    ⟨{ running with clock := { pll := true, mode := 4 } }, rq 0x0603 (List.replicate 4 0), by decide⟩,
    ⟨running, rq 0x0604 [0, 0, 0, 0, 0, 0, 0, 0, 1, 0, 0, 0], by decide⟩,
    ⟨running, rq 0x0605, by decide⟩,
    ⟨running, rq 0x0606 (List.replicate 4 0), by decide⟩,
    ⟨running, rq 0x0610 ([2] ++ List.replicate 15 0), by decide⟩,
    ⟨running, rq 0x0611, by decide⟩,
    ⟨running, rq 0x0620 [0, 5, 0, 0, 0, 0, 0, 1, 0, 0, 0, 0, 0, 0, 0, 10], by decide⟩,
    ⟨running, rq 0x0630 (List.replicate 32 0), by decide⟩,
    ⟨running, rq 0x0631, by decide⟩,
    ⟨running, rq 0x0640, by decide⟩,
    ⟨running, rq 0x0641 (List.replicate 10 0), by decide⟩,
    ⟨running, rq 0x0642 (List.replicate 10 0), by decide⟩,
    ⟨running, rq 0x0643 [0], by decide⟩⟩

/-- Every clause of CaptureOperations has a state and operands that meet what it assumes. -/
theorem witness_CaptureOperations :
    (∃ s : State, ∃ r, (accepts 0x0701 planCapVolumeFormat r s = true)) ∧
    (∃ s : State, ∃ r, (accepts 0x0702 planCapVolumeGet r s = true)) ∧
    (∃ s : State, ∃ r, (accepts 0x0703 planCapSetPolicy r s = true)) ∧
    (∃ s : State, ∃ r, (accepts 0x0704 planCapGetDrives r s = true)) ∧
    (∃ s : State, ∃ r, (accepts 0x0705 planCapDriveJoin r s = true)) ∧
    (∃ s : State, ∃ r, (accepts 0x0710 planCapJobSet r s = true)) ∧
    (∃ s : State, ∃ r, (stageable 0x0711 planCapRecord r s = true)) ∧
    (∃ s : State, ∃ r, (stageable 0x0712 planCapStop r s = true)) ∧
    (∃ s : State, ∃ r, (accepts 0x0713 planCapGetJobs r s = true)) ∧
    (∃ s : State, ∃ r, (stageable 0x0720 planCapReplay r s = true)) ∧
    (∃ s : State, ∃ r, (stageable 0x0721 planCapReplayStop r s = true)) ∧
    (∃ s : State, ∃ r, ∃ t, ∃ g, ∃ x, (accepts 0x0730 planCapFind r s = true) ∧ (par r 0 1 = 0) ∧ (t = par r 12 6) ∧ (runAt (segsOf s (par r 4 4)) t = some (g, x))) ∧
    (∃ s : State, ∃ r, ∃ t, ∃ g, ∃ x, (accepts 0x0730 planCapFind r s = true) ∧ (par r 0 1 = 1) ∧ (findSome (fun g => segTick g ((par r 8 6 : Int) * 1000000000 + (par r 14 4 : Nat))) (segsOf s (par r 4 4)) = some t) ∧ (runAt (segsOf s (par r 4 4)) t = some (g, x))) ∧
    (∃ s : State, ∃ r, ∃ g, ∃ x, (accepts 0x0731 planCapRead r s = true) ∧ (runAt ((segsOf s (par r 0 4)).filter fun g => g.group == par r 4 2 / 64) (par r 8 6) = some (g, x))) ∧
    (∃ s : State, ∃ r, (accepts 0x0732 planCapProtect r s = true)) ∧
    (∃ s : State, ∃ r, (accepts 0x0733 planCapDelete r s = true)) :=
  ⟨⟨drives, rq 0x0701 [1, 0], by decide⟩,
    ⟨running, rq 0x0702, by decide⟩,
    ⟨running, rq 0x0703 (List.replicate 4 0), by decide⟩,
    ⟨running, rq 0x0704, by decide⟩,
    ⟨volume, rq 0x0705 [1, 0, 0, 0], by decide⟩,
    ⟨running, rq 0x0710 [0, 0, 0, 0, 1, 0, 0, 0], by decide⟩,
    ⟨{ volume with cap := { volume.cap with jobs := [(0, { defined := true, tracks := 1 })] } }, rq 0x0711 (List.replicate 4 0), by decide⟩,
    ⟨{ volume with pipe := { volume.pipe with live := { recs := [(0, {})] } } }, rq 0x0712 (List.replicate 4 0), by decide⟩,
    ⟨running, rq 0x0713, by decide⟩,
    ⟨recorded, rq 0x0720 ([0, 0, 0, 1, 0, 0, 0, 1] ++ List.replicate 12 0), by decide⟩,
    ⟨{ volume with pipe := { volume.pipe with live := { replays := [(0, {})] } } }, rq 0x0721 (List.replicate 4 0), by decide⟩,
    ⟨recorded, rq 0x0730 (List.replicate 7 0 ++ [1] ++ List.replicate 9 0 ++ [7]), 7, segment, (5, 5), by decide⟩,
    ⟨recorded, rq 0x0730 ([1, 0, 0, 0, 0, 0, 0, 1] ++ List.replicate 6 0 ++ toNats (toBE 4 300000)), 7, segment, (5, 5), by decide⟩,
    ⟨recorded, rq 0x0731 [0, 0, 0, 1, 0, 0, 0, 1, 0, 0, 0, 0, 0, 7, 0, 0, 0, 0, 0, 1], segment, (5, 5), by decide⟩,
    ⟨recorded, rq 0x0732 [1, 0, 0, 0, 0, 0, 0, 1, 0, 0, 0, 0, 0, 0, 0, 0, 0, 0, 0, 100], by decide⟩,
    ⟨running, rq 0x0733 (List.replicate 4 0), by decide⟩⟩

/-- Every clause of SealedMeterOperations has a state and operands that meet what it assumes. -/
theorem witness_SealedMeterOperations :
    (∃ s : State, ∃ r, (accepts 0x0801 planMeterGetInfo r s = true) ∧ (s.meter.vmet = true)) ∧
    (∃ s : State, ∃ r, (accepts 0x0802 planMeterSetPoint r s = true) ∧ (s.meter.vmet = true)) ∧
    (∃ s : State, ∃ r, (accepts 0x0803 planMeterGetPoints r s = true) ∧ (s.meter.vmet = true)) ∧
    (∃ s : State, ∃ r, (accepts 0x0804 planMeterSeal r s = true) ∧ (s.meter.vmet = true)) ∧
    (∃ s : State, ∃ r, (accepts 0x0805 planMeterUnseal r s = true) ∧ (s.meter.vmet = true)) ∧
    (∃ s : State, ∃ r, (accepts 0x0806 planMeterRead r s = true) ∧ (s.meter.vmet = true) ∧ ((meterRead s.meter (par r 0 4) (par r 4 1)).1 = OK)) ∧
    (∃ s : State, ∃ r, (accepts 0x0807 planMeterAckExport r s = true) ∧ (s.meter.vmet = true)) ∧
    (∃ s : State, ∃ r, (accepts 0x0808 planMeterGetLive r s = true) ∧ (s.meter.vmet = true)) ∧
    (∃ s : State, ∃ r, (accepts 0x0809 planMeterLoudReset r s = true) ∧ (s.meter.vmet = true)) ∧
    (∃ s : State, ∃ r, (accepts 0x080A planMeterSetExport r s = true) ∧ (s.meter.vmet = true)) ∧
    (∃ s : State, ∃ r, (accepts 0x080B planMeterFwLoad r s = true) ∧ (s.meter.vmet = true)) ∧
    (∃ s : State, ∃ r, (accepts 0x080C planMeterFwEnd r s = true) ∧ (s.meter.vmet = true)) ∧
    (∃ s : State, ∃ r, (accepts 0x080D planMeterFwRemove r s = true) ∧ (s.meter.vmet = true)) :=
  ⟨⟨running, rq 0x0801, by decide⟩,
    ⟨running, rq 0x0802 ([0, 0, 3] ++ List.replicate 9 0), by decide⟩,
    ⟨running, rq 0x0803, by decide⟩,
    ⟨{ running with meter := { vmet := true, sealSt := 1, next := [(0, { flags := 1, kind := 1 })] } }, rq 0x0804, by decide⟩,
    ⟨{ running with meter := { vmet := true, sealSt := 2 } }, rq 0x0805, by decide⟩,
    ⟨{ running with meter := { vmet := true, sealSt := 1, idx := 1, records := [(0, [])] } }, rq 0x0806 [0, 0, 0, 0, 1], by decide⟩,
    ⟨running, rq 0x0807 (List.replicate 4 0), by decide⟩,
    ⟨running, rq 0x0808, by decide⟩,
    ⟨running, rq 0x0809 [0, 0], by decide⟩,
    ⟨running, rq 0x080A [0], by decide⟩,
    ⟨running, rq 0x080B (List.replicate 5 0), by decide⟩,
    ⟨{ running with meter := { vmet := true, sealSt := 1, loading := true } }, rq 0x080C [0, 0, 0, 1], by decide⟩,
    ⟨running, rq 0x080D, by decide⟩⟩

/-- Every clause of PowerAndPairOperations has a state and operands that meet what it assumes. -/
theorem witness_PowerAndPairOperations :
    (∃ s : State, ∃ r, (accepts 0x0901 planPwrSetPolicy r s = true)) ∧
    (∃ s : State, ∃ r, (accepts 0x0902 planPwrGetPolicy r s = true)) ∧
    (∃ s : State, ∃ r, (accepts 0x0903 planPwrSetDormant r s = true)) ∧
    (∃ s : State, ∃ r, (accepts 0x0904 planPwrGetStatus r s = true)) ∧
    (∃ s : State, ∃ r, (accepts 0x0A01 planPairConfig r s = true)) ∧
    (∃ s : State, ∃ r, (accepts 0x0A02 planPairSetKey r s = true)) ∧
    (∃ s : State, ∃ r, (accepts 0x0A03 planPairGetStatus r s = true)) ∧
    (∃ s : State, ∃ r, (accepts 0x0A04 planPairRelinquish r s = true)) ∧
    (∃ s : State, ∃ r, (accepts 0x0A05 planPairResync r s = true)) :=
  ⟨⟨running, rq 0x0901 ([0, 0, 2, 208, 3, 132, 0, 0, 0, 150] ++ List.replicate 6 0), by decide⟩,
    ⟨running, rq 0x0902, by decide⟩,
    ⟨running, rq 0x0903 (List.replicate 4 0), by decide⟩,
    ⟨running, rq 0x0904, by decide⟩,
    ⟨running, rq 0x0A01 ([1, 0, 0, 5, 0, 1, 0, 10] ++ List.replicate 8 0), by decide⟩,
    ⟨running, { rq 0x0A02 (List.replicate 32 0) with trust := true }, by decide⟩,
    ⟨running, rq 0x0A03, by decide⟩,
    ⟨twoNodes, rq 0x0A04, by decide⟩,
    ⟨twoNodes, rq 0x0A05, by decide⟩⟩

/-- Every clause of FaultOperations has a state and operands that meet what it assumes. -/
theorem witness_FaultOperations :
    (∃ s : State, ∃ r, (accepts 0x0B01 planFaultGetStatus r s = true)) ∧
    (∃ s : State, ∃ r, (accepts 0x0B02 planFaultGetLog r s = true)) ∧
    (∃ s : State, ∃ r, (accepts 0x0B03 planFaultAck r s = true)) ∧
    (∃ s : State, ∃ r, (accepts 0x0B04 planFaultGetCounters r s = true)) ∧
    (∃ s : State, ∃ r, (accepts 0x0B05 planFaultClear r s = true)) ∧
    (∃ s : State, ∃ r, (accepts 0x0B06 planFaultSetReaction r s = true)) ∧
    (∃ s : State, ∃ r, (accepts 0x0B07 planFaultSetQuiet r s = true)) ∧
    (∃ s : State, ∃ r, (accepts 0x0B0F planFaultInject r s = true)) :=
  ⟨⟨running, rq 0x0B01, by decide⟩,
    ⟨running, rq 0x0B02 (List.replicate 4 0), by decide⟩,
    ⟨running, rq 0x0B03 (List.replicate 4 0), by decide⟩,
    ⟨running, rq 0x0B04 [0], by decide⟩,
    ⟨running, rq 0x0B05, by decide⟩,
    ⟨running, rq 0x0B06 [1, 2, 1], by decide⟩,
    ⟨running, rq 0x0B07 [1, 0], by decide⟩,
    ⟨{ running with mode := { mode := 4 } }, rq 0x0B0F ([1, 2, 0, 1] ++ List.replicate 10 0), by decide⟩⟩

/-- Every clause of FirmwareAndOptionOperations has a state and operands that meet what it assumes. -/
theorem witness_FirmwareAndOptionOperations :
    (∃ s : State, ∃ r, (accepts 0x0C01 planFwBegin r s = true)) ∧
    (∃ s : State, ∃ r, (accepts 0x0C02 planFwData r s = true)) ∧
    (∃ s : State, ∃ r, (accepts 0x0C03 planFwEnd r s = true)) ∧
    (∃ s : State, ∃ r, (accepts 0x0C04 planFwActivate r s = true)) ∧
    (∃ s : State, ∃ r, (accepts 0x0C05 planFwCommit r s = true)) ∧
    (∃ s : State, ∃ r, (accepts 0x0C06 planFwFallback r s = true)) ∧
    (∃ s : State, ∃ r, (accepts 0x0C07 planFwGetStatus r s = true)) ∧
    (∃ s : State, ∃ r, (accepts 0x0C10 planSetSave r s = true)) ∧
    (∃ s : State, ∃ r, (accepts 0x0F01 planOptGet r s = true)) ∧
    (∃ s : State, ∃ r, (accepts 0x0F02 planOptSet r s = true)) :=
  ⟨⟨running, rq 0x0C01 ([1] ++ List.replicate 7 0), by decide⟩,
    ⟨{ running with boot := { running.boot with imgA := { state := 2, len := 16 } } }, rq 0x0C02 [0, 0, 0, 0, 1], by decide⟩,
    ⟨{ running with boot := { running.boot with imgA := { state := 2, len := 16 } } }, rq 0x0C03, by decide⟩,
    ⟨{ running with boot := { running.boot with imgA := { state := 1, len := 16 } } }, rq 0x0C04 [0], by decide⟩,
    ⟨{ running with boot := { running.boot with trial := 0, running := 0, healthy := true } }, rq 0x0C05, by decide⟩,
    ⟨{ running with boot := { running.boot with trial := 0, running := 0 } }, rq 0x0C06, by decide⟩,
    ⟨running, rq 0x0C07, by decide⟩,
    ⟨running, rq 0x0C10, by decide⟩,
    ⟨running, rq 0x0F01, by decide⟩,
    ⟨running, rq 0x0F02 ([1] ++ List.replicate 59 0), by decide⟩⟩

/-- Every clause of SecurityOperations has a state and operands that meet what it assumes. -/
theorem witness_SecurityOperations :
    (∃ s : State, ∃ r, ∃ k, (accepts 0x0D01 planCredSet r s = true) ∧ (wrappedKey (dequeue r s) (asRun r (dequeue r s)) 4 = some k) ∧ (ownSlot r (par r 0 1) (par r 1 1) = false)) ∧
    (∃ s : State, ∃ r, (accepts 0x0D02 planCredClear r s = true) ∧ (ownSlot r (par r 0 1) (par r 1 1) = false)) ∧
    (∃ s : State, ∃ r, (accepts 0x0D02 planCredClear r s = true) ∧ (ownSlot r (par r 0 1) (par r 1 1) = true)) ∧
    (∃ s : State, ∃ r, (accepts 0x0D03 planCredList r s = true)) ∧
    (∃ s : State, ∃ r, (accepts 0x0D10 planAuditRead r s = true)) ∧
    (∃ s : State, ∃ r, (accepts 0x0D11 planAuditStatus r s = true)) ∧
    (∃ s : State, ∃ r, (accepts 0x0D20 planLcGet r s = true)) ∧
    (∃ s : State, ∃ r, (accepts 0x0D21 planLcAdvance r s = true)) ∧
    (∃ s : State, ∃ r, (accepts 0x0D30 planTamperSet r s = true)) ∧
    (∃ s : State, ∃ r, (accepts 0x0D31 planTamperGet r s = true)) ∧
    (∃ s : State, ∃ r, (accepts 0x0D40 planTrustSet r s = true)) :=
  ⟨⟨{ running with sec := { trust := 3 } }, { rq 0x0D01 ([1, 0, 0, 0] ++ List.replicate 32 0) with trust := true }, List.replicate 32 0, by decide⟩,
    ⟨running, rq 0x0D02 [1, 0], by decide⟩,
    ⟨running, rq 0x0D02 [2, 0], by decide⟩,
    ⟨running, rq 0x0D03, by decide⟩,
    ⟨running, rq 0x0D10 (List.replicate 8 0), by decide⟩,
    ⟨running, rq 0x0D11, by decide⟩,
    ⟨running, rq 0x0D20, by decide⟩,
    ⟨{ running with sec := { lc := 2 } }, rq 0x0D21 [3], by decide⟩,
    ⟨running, rq 0x0D30 (List.replicate 4 0), by decide⟩,
    ⟨running, rq 0x0D31, by decide⟩,
    ⟨running, rq 0x0D40 [0], by decide⟩⟩

/-- Every clause of BringUpEvents has a state and operands that meet what it assumes. -/
theorem witness_BringUpEvents :
    (∃ s : State, (bringingUp s && s.boot.step == 1 && !s.boot.pinLow && !s.boot.hot) ∧ (s.boot.depth = depthCold)) ∧
    (∃ s : State, (bringingUp s && s.boot.step == 1 && !s.boot.pinLow && !s.boot.hot) ∧ (s.boot.depth ≠ depthCold) ∧ (s.win.capsOn)) ∧
    (∃ s : State, (atStep s 2)) ∧
    (∃ s : State, (atStep s 4)) ∧
    (∃ s : State, (atStep s 5)) ∧
    (∃ s : State, (atStep s 5)) ∧
    (∃ s : State, (atStep s 6)) ∧
    (∃ s : State, (atStep s 7)) ∧
    (∃ s : State, (atStep s 8) ∧ (clockReady s)) ∧
    (∃ s : State, (atStep s 8) ∧ (clockReady s = false)) ∧
    (∃ s : State, (atStep s 8) ∧ (s.boot.waiting) ∧ (clockReady s = false)) ∧
    (∃ s : State, (trialRuns s) ∧ (4 ≤ s.mode.mode) ∧ (s.mode.limp = false) ∧ (s.boot.badSev = false)) ∧
    (∃ s : State, (trialRuns s) ∧ (4 ≤ s.mode.mode) ∧ (s.mode.limp = false) ∧ (s.boot.badSev)) ∧
    (∃ s : State, (s.boot.planeR = false) ∧ (4 ≤ s.mode.mode)) ∧
    (∃ s : State, (s.boot.planeR)) ∧
    (∃ s : State, (atStep s 8) ∧ (s.boot.waiting) ∧ (clockReady s)) :=
  ⟨⟨booting 1, by decide⟩,
    ⟨{ booting 1 with boot := { step := 1, depth := 2 }, win := { capsOn := true } }, by decide⟩,
    ⟨booting 2, by decide⟩,
    ⟨booting 4, by decide⟩,
    ⟨booting 5, by decide⟩,
    ⟨booting 5, by decide⟩,
    ⟨booting 6, by decide⟩,
    ⟨booting 7, by decide⟩,
    ⟨booting 8, by decide⟩,
    ⟨{ booting 8 with boot := { step := 8, clkMode := 1 } }, by decide⟩,
    ⟨{ booting 8 with boot := { step := 8, waiting := true, clkMode := 1 } }, by decide⟩,
    ⟨{ running with boot := { step := 0, trial := 0, running := 0 } }, by decide⟩,
    ⟨{ running with boot := { step := 0, trial := 0, running := 0, badSev := true } }, by decide⟩,
    ⟨running, by decide⟩,
    ⟨{ running with boot := { step := 0, planeR := true } }, by decide⟩,
    ⟨{ booting 8 with boot := { step := 8, waiting := true } }, by decide⟩⟩

/-- Every clause of CaptureEvents has a state and operands that meet what it assumes. -/
theorem witness_CaptureEvents :
    (∃ s : State, ∃ k, (thas s.cap.groups k && !s.boot.halted)) ∧
    (∃ s : State, ∃ k, ∃ c, ∃ ws, ∃ q, ∃ y, (thas s.cap.groups k && !s.boot.halted) ∧ ((groupAt s k).staged[(groupAt s k).sent]? = some (c, ws)) ∧ ((groupAt s k).staged.length = (groupAt s k).sent + 1) ∧ ((groupAt s k).since.getD (groupAt s k).sent 0 + 20000000 ≤ s.clock.now) ∧ ((groupAt s k).seg = some q) ∧ ((groupAt s k).mseg = none) ∧ (segAt s q = some y) ∧ (segFits (groupAt s k) y (groupAt s k).sent c)) ∧
    (∃ s : State, ∃ k, ∃ d, (writing s k d)) ∧
    (∃ s : State, ∃ k, ∃ d, (writing s k d)) ∧
    (∃ s : State, ∃ d, (hasCap s) ∧ (d < 4)) ∧
    (∃ s : State, ∃ d, (hasCap s) ∧ (d < 4) ∧ ((driveAt s d).state ≠ 0) ∧ ((driveAt s d).state ≠ 4)) ∧
    (∃ s : State, ∃ d, (hasCap s) ∧ (d < 4) ∧ ((driveAt s d).state = 4) ∧ (mounted s = false)) ∧
    (∃ s : State, ∃ d, (hasCap s) ∧ (d < 4) ∧ ((driveAt s d).state = 4) ∧ (mounted s) ∧ (isMember s d)) ∧
    (∃ s : State, ∃ d, (hasCap s) ∧ (d < 4) ∧ ((driveAt s d).state = 4) ∧ (mounted s) ∧ (isMember s d = false)) ∧
    (∃ s : State, ∃ i, ∃ g, (unfilled s i = some g)) ∧
    (∃ s : State, (hasCap s) ∧ (4 ≤ s.mode.mode) ∧ (mounted s = false)) ∧
    (∃ s : State, ∃ d, (hasCap s) ∧ (d < 4) ∧ (((driveAt s d).state = 0 ∨ (driveAt s d).state = 4))) ∧
    (∃ s : State, ∃ d, (hasCap s) ∧ (d < 4) ∧ ((driveAt s d).state ≠ 0)) :=
  ⟨⟨{ volume with cap := { volume.cap with groups := [(0, { sent := 1, seg := some (0, 0) })] } }, 0, by decide⟩,
    ⟨{ recorded with pipe := { running := true, cal := 1000 }, clock := { now := 30000000 }, cap := { recorded.cap with groups := [(0, { staged := [(10, [])], seg := some (0, 0) })] } }, 0, 10, [], (0, 0), segment, by decide⟩,
    ⟨{ volume with cap := { volume.cap with groups := [(0, { sent := 1, seg := some (0, 0) })] } }, 0, 0, by decide⟩,
    ⟨{ volume with cap := { volume.cap with groups := [(0, { sent := 1, seg := some (0, 0) })] } }, 0, 0, by decide⟩,
    ⟨volume, 3, by decide⟩,
    ⟨volume, 0, by decide⟩,
    ⟨{ drives with cap := { drives := [(0, { state := 4 })] } }, 0, by decide⟩,
    ⟨{ volume with cap := { volume.cap with drives := [(0, { state := 4 }), (1, { state := 4, volId := 9 })] } }, 0, by decide⟩,
    ⟨{ volume with cap := { volume.cap with drives := [(0, { state := 4 }), (1, { state := 4, volId := 9 })] } }, 1, by decide⟩,
    ⟨{ running with gate := { staged := [{ req := rq 0x0720 [0], due := 5 }] } }, 0, { req := rq 0x0720 [0], due := 5 }, by decide⟩,
    ⟨drives, by decide⟩,
    ⟨drives, 2, by decide⟩,
    ⟨volume, 0, by decide⟩⟩

/-- Every clause of ClockEvents has a state and operands that meet what it assumes. -/
theorem witness_ClockEvents :
    (∃ s : State, (s.clock.pll)) ∧
    (∃ s : State, ∃ c, (candOn s c) ∧ (edgesOut s c = false)) ∧
    (∃ s : State, ∃ c, (candOn s c) ∧ (edgesOut s c)) ∧
    (∃ s : State, ∃ c, (candOn s c) ∧ (edgesOut s c = false)) ∧
    (∃ s : State, ∃ c, (candOn s c) ∧ (edgesOut s c = false) ∧ ((candAt s c).qual = false) ∧ (10 * (candAt s c).cfg.accS ≤ (candAt s c).good)) ∧
    (∃ s : State, (s.clock.sel < 13) ∧ (s.clock.state = 1 ∨ s.clock.state = 2) ∧ (s.clock.estab = false) ∧ (s.clock.sel = 8) ∧ (s.clock.stepped = false)) ∧
    (∃ s : State, ∃ err, ∃ steered, (s.clock.sel < 13) ∧ (s.clock.state = 1 ∨ s.clock.state = 2) ∧ (s.clock.estab) ∧ (jumps s err steered = false) ∧ (videoAligned s) ∧ ((candAt s s.clock.sel).frame = none ∨ (candAt s s.clock.sel).frame = some 0)) ∧
    (∃ s : State, ∃ n, (videoAligned s) ∧ ((candAt s s.clock.sel).frame = some (n + 1))) ∧
    (∃ s : State, ∃ err, ∃ steered, (s.clock.sel < 13) ∧ (s.clock.state = 1 ∨ s.clock.state = 2) ∧ (s.clock.estab) ∧ (jumps s err steered = false) ∧ (videoAligned s = false)) ∧
    (∃ s : State, ∃ since, (s.clock.state = 1) ∧ (s.clock.within = some since) ∧ (since + 1000000000 ≤ s.clock.now)) ∧
    (∃ s : State, ∃ ns : Nat, (s.clock.state = 2) ∧ (s.clock.wNs + (ns : Int) = 1000000000)) ∧
    (∃ s : State, (s.clock.state = 3) ∧ (s.clock.hoDone = false) ∧ (s.clock.hoLim ≤ holdoverX s)) ∧
    (∃ s : State, ∃ i, (i < 4) ∧ (s.clock.pll)) ∧
    (∃ s : State, ∃ pulse, ∃ n, ∃ t, (thas s.clock.pulseNew pulse = false) ∧ (pulseTime s 0 (tgetD s.clock.pulses pulse {}) n = some t)) ∧
    (∃ s : State, ∃ port, ∃ msg, (s.clock.ptp.state = 4) ∧ (port = ptpByte s 1) ∧ (byteAt msg.body 0 % 16 = 1) ∧ (ptpTaken s msg)) ∧
    (∃ s : State, ∃ port, ∃ o, ∃ msg, (port < 4) ∧ (linkUp s port) ∧ (o < 4) ∧ (o ≠ port) ∧ (linkUp s o) ∧ (port ≠ ptpByte s 1 ∨ ptpTaken s msg = false)) ∧
    (∃ s : State, ∃ msg, (ptpTaken s msg) ∧ (s.clock.ptp.state = 2 ∨ s.clock.ptp.state = 3) ∧ (ptpSender msg.body = s.clock.ptp.parent)) ∧
    (∃ s : State, (1 ≤ s.clock.ptp.state) ∧ (s.clock.ptp.state ≤ 3)) ∧
    (∃ s : State, ∃ msg, (ptpTaken s msg) ∧ (byteAt msg.body 0 % 16 = 11)) ∧
    (∃ s : State, ∃ msg, ∃ t2, ∃ c, (ptpTaken s msg) ∧ (byteAt msg.body 0 % 16 = 8) ∧ (ptpSender msg.body = s.clock.ptp.parent) ∧ (s.clock.ptp.twoStep = some (ptpSeq msg.body, t2, c))) ∧
    (∃ s : State, ∃ msg, (ptpTaken s msg) ∧ (byteAt msg.body 0 % 16 = 9) ∧ (s.clock.ptp.state = 2 ∨ s.clock.ptp.state = 3) ∧ (ptpSender msg.body = s.clock.ptp.parent) ∧ (be msg.body 44 10 = ptpOwn s)) ∧
    (∃ s : State, (mgRuns s) ∧ (s.clock.ptp.state = 4)) ∧
    (∃ s : State, (mgRuns s) ∧ (s.clock.ptp.state = 4) ∧ ((ptpByte s 1 = 4 ∨ bit (ptpByte s 2) 2 = false))) ∧
    (∃ s : State, (mgRuns s) ∧ (s.clock.ptp.state = 2 ∨ s.clock.ptp.state = 3)) ∧
    (∃ s : State, ∃ pulse, ∃ n, ∃ t, ∃ x, (tget s.clock.pulseNew pulse = some x) ∧ (pulseTime s x.1 x.2 n = some t)) :=
  ⟨⟨running, by decide⟩,
    ⟨{ running with clock := { cands := [(12, { cfg := { flags := 1 } })] }, links := { ports := [(3, { state := 2 })] } }, 12, by decide⟩,
    ⟨{ running with clock := { cands := [(12, { cfg := { flags := 1 } })] } }, 12, by decide⟩,
    ⟨{ running with clock := { pll := true, cands := [(0, { cfg := { flags := 1 }, good := 20 })] } }, 0, by decide⟩,
    ⟨{ running with clock := { pll := true, cands := [(0, { cfg := { flags := 1 }, good := 20 })] } }, 0, by decide⟩,
    ⟨{ running with clock := { sel := 8, state := 1 } }, by decide⟩,
    ⟨{ running with clock := { sel := 0, state := 1, estab := true, cands := [(0, { cfg := { type := 2, flags := 5, nominal := 4 } })] } }, 0, 0, by decide⟩,
    ⟨{ running with clock := { sel := 0, state := 1, estab := true, cands := [(0, { cfg := { type := 2, flags := 5, nominal := 4 }, frame := some 2 })] } }, 1, by decide⟩,
    ⟨{ running with clock := { sel := 12, state := 2, estab := true } }, 0, 0, by decide⟩,
    ⟨{ running with clock := { sel := 0, state := 1, within := some 0 } }, 0, by decide⟩,
    ⟨{ running with clock := { state := 2, wNs := 1000000000 } }, 0, by decide⟩,
    ⟨{ running with clock := { state := 3, hoLim := 0 } }, by decide⟩,
    ⟨running, 3, by decide⟩,
    ⟨{ running with clock := { pll := true, pulses := [(0, { source := 5, flags := 1 })] } }, 0, 1577836837, 1577836837000000000, by decide⟩,
    ⟨(timed { raw := [0, 1, 1], state := 4 }), 1, { dest := 0xFFFFFFFFFFFF, udp := false, body := (1 :: List.replicate 5 0 ++ 0 :: List.replicate 57 0) }, by decide⟩,
    ⟨linked, 0, 1, { dest := 0, udp := false, body := [] }, by decide⟩,
    ⟨(timed { raw := [0, 1, 1], state := 2 }), { dest := 0xFFFFFFFFFFFF, udp := false, body := (0 :: List.replicate 5 0 ++ 2 :: List.replicate 57 0) }, by decide⟩,
    ⟨(timed { raw := [0, 1, 1], state := 3 }), by decide⟩,
    ⟨(timed { raw := [0, 1, 1], state := 1 }), { dest := 0xFFFFFFFFFFFF, udp := false, body := (11 :: List.replicate 5 0 ++ 0 :: List.replicate 57 0) }, by decide⟩,
    ⟨(timed { raw := [0, 1, 1], state := 3, twoStep := some (0, 3, 4) }), { dest := 0xFFFFFFFFFFFF, udp := false, body := (8 :: List.replicate 5 0 ++ 0 :: List.replicate 57 0) }, 3, 4, by decide⟩,
    ⟨(timed { raw := [0, 1, 1], state := 2 }), { dest := 0xFFFFFFFFFFFF, udp := false, body := (9 :: List.replicate 43 0 ++ toBE 10 (ptpOwn running)) }, by decide⟩,
    ⟨(timed { raw := [0, 1, 1], state := 4 }), by decide⟩,
    ⟨(timed { raw := [0, 1, 1], state := 4 }), by decide⟩,
    ⟨(timed { raw := [0, 1, 1], state := 2 }), by decide⟩,
    ⟨{ running with clock := { pll := true, pulseNew := [(0, (0, { source := 5, flags := 1 }))] } }, 0, 1577836837, 1577836837000000000, (0, { source := 5, flags := 1 }), by decide⟩⟩

/-- Every clause of FabricAndMemoryEvents has a state and operands that meet what it assumes. -/
theorem witness_FabricAndMemoryEvents :
    (∃ s : State, ∃ x : Access, ((let y := { x with kind := 0, home := false }; granted s y && cleanAt s y))) ∧
    (∃ s : State, ∃ x : Access, ((let y := { x with kind := 1, home := false }; granted s y && cleanAt s y))) ∧
    (∃ s : State, ∃ x : Access, ((let y := { x with kind := 2, home := false }; granted s y && cleanAt s y))) ∧
    (∃ s : State, ∃ x : Access, ((let y := { x with kind := 3, home := false }; granted s y && cleanAt s y))) ∧
    (∃ s : State, ∃ m, ∃ a, (granted s { kind := 4, m := m, addr := a })) ∧
    (∃ s : State, (s.fab.waiting = [])) ∧
    (∃ s : State, ∃ x : Access, (homeOk s x) ∧ (x.kind < 2 ∨ ((x.kind = 2 ∨ x.kind = 3) ∧ (x.n = 4 ∨ x.n = 8) ∧ x.addr % x.n = 0)) ∧ (s.fab.isolated = false)) ∧
    (∃ s : State, ∃ x : Access, (homeOk s x && cleanAt s x && !bankBusy s x && s.fab.waiting.isEmpty) ∧ (x.addr % 64 = 0) ∧ (s.fab.isolated = false) ∧ (x.kind = 0)) ∧
    (∃ s : State, ∃ x : Access, (homeOk s x && cleanAt s x && !bankBusy s x && s.fab.waiting.isEmpty) ∧ (x.addr % 64 = 0) ∧ (s.fab.isolated = false) ∧ (x.kind = 1)) ∧
    (∃ s : State, ∃ x : Access, (homeOk s x && cleanAt s x && !bankBusy s x && s.fab.waiting.isEmpty) ∧ (s.fab.isolated = false) ∧ (x.kind = 2 ∨ x.kind = 3) ∧ (x.n = 4 ∨ x.n = 8) ∧ (x.addr % x.n = 0)) ∧
    (∃ s : State, ∃ x : Access, (awake s) ∧ (x.m = homeMaster (bankOfAddr (physAddr s x.addr))) ∧ (rangeAt s x.addr = 2 ∨ rangeAt s x.addr = 3) ∧ (x.kind = 2 ∨ x.kind = 3) ∧ (x.n = 4 ∨ x.n = 8) ∧ (x.addr % x.n ≠ 0) ∧ (s.fab.isolated = false)) ∧
    (∃ s : State, ∃ n, (awake s) ∧ (n < 20) ∧ ((bankAt s n).pstate = 3)) ∧
    (∃ s : State, (s.mem.ready) ∧ (s.mem.selfRef = false)) ∧
    (∃ s : State, ∃ n, (awake s) ∧ (n < 16) ∧ ((bankAt s n).policy = 0) ∧ ((bankAt s n).pstate = 2 ∨ (bankAt s n).pstate = 3) ∧ ((bankAt s n).waking = false) ∧ (bankHolds s n = false) ∧ (((List.range 12).any fun e => (engAt s (12 * n + e)).pst == 1) = false)) ∧
    (∃ s : State, ∃ n, (awake s) ∧ (n < 16) ∧ ((bankAt s n).policy = 0) ∧ ((bankAt s n).pstate = 2 ∨ (bankAt s n).pstate = 3) ∧ ((bankAt s n).waking = false) ∧ (bankHolds s n ∨ (List.range 12).any (fun e => (engAt s (12 * n + e)).pst == 1))) ∧
    (∃ s : State, ∃ n, (awake s) ∧ (18 ≤ n) ∧ (n < 20) ∧ ((bankAt s n).policy = 0) ∧ ((bankAt s n).pstate = 3) ∧ ((bankAt s n).waking = false)) ∧
    (∃ s : State, ∃ n, ((bankAt s n).waking)) ∧
    (∃ s : State, ∃ n, ((bankAt s n).waking) ∧ (s.fab.waiting = [])) ∧
    (∃ s : State, ∃ n, (n < 20) ∧ ((bankAt s n).pstate = 1)) ∧
    (∃ s : State, (awake s)) ∧
    (∃ s : State, (awake s)) ∧
    (∃ s : State, (awake s)) ∧
    (∃ s : State, (awake s)) ∧
    (∃ s : State, (awake s)) ∧
    (∃ s : State, (awake s)) ∧
    (∃ s : State, (granted s (regAccess 0x11 0x3000010200 1))) ∧
    (∃ s : State, ∃ n, ∃ v, (n < 20) ∧ (v < 2 ^ 32) ∧ (granted s (regAccess 0x11 (0x3000020000 + 16 * n) v))) ∧
    (∃ s : State, ∃ mv, (granted s (regAccess 0x11 0x3000040000 (mv % 1024 * 65536)))) ∧
    (∃ s : State, ∃ v, (v < 2 ^ 32) ∧ (granted s (regAccess 0x11 0x3000030004 v))) ∧
    (∃ s : State, (awake s)) ∧
    (∃ s : State, ∃ m, ∃ a, ∃ v, (a % 4 = 0) ∧ (v < 2 ^ 32) ∧ (rangeAt s (a / 64 * 64) = 8) ∧ (granted s (regAccess m a v))) ∧
    (∃ s : State, ∃ m, ∃ a, (awake s) ∧ (masterHere s m) ∧ (s.fab.isolated = false) ∧ (rangeAt s (a / 64 * 64) = 8) ∧ (mayWriteReg s m = false)) :=
  ⟨⟨running, { addr := poolBase }, by decide⟩,
    ⟨running, { addr := poolBase }, by decide⟩,
    ⟨heath, { addr := 0x0100000000, n := 4 }, by decide⟩,
    ⟨heath, { addr := 0x0100000000, n := 8 }, by decide⟩,
    ⟨heath, 0x11, 0x0100000000, by decide⟩,
    ⟨running, by decide⟩,
    ⟨running, { addr := 0x0100000000 }, by decide⟩,
    ⟨heath, { addr := 0x0100000000 }, by decide⟩,
    ⟨heath, { kind := 1, addr := 0x0100000000 }, by decide⟩,
    ⟨heath, { kind := 2, n := 4, addr := 0x0100000000 }, by decide⟩,
    ⟨heath, { kind := 3, n := 4, addr := 0x0100000002 }, by decide⟩,
    ⟨running, 19, by decide⟩,
    ⟨running, by decide⟩,
    ⟨running, 0, by decide⟩,
    ⟨{ chained 3 with mem := heath.mem }, 0, by decide⟩,
    ⟨running, 18, by decide⟩,
    ⟨{ running with mem := { banks := [(0, { waking := true })] } }, 0, by decide⟩,
    ⟨{ running with mem := { banks := [(0, { waking := true })] } }, 0, by decide⟩,
    ⟨{ running with mem := { banks := [(19, { pstate := 1 })] } }, 19, by decide⟩,
    ⟨running, by decide⟩,
    ⟨running, by decide⟩,
    ⟨running, by decide⟩,
    ⟨running, by decide⟩,
    ⟨running, by decide⟩,
    ⟨running, by decide⟩,
    ⟨running, by decide⟩,
    ⟨running, 19, 0, by decide⟩,
    ⟨running, 800, by decide⟩,
    ⟨running, 0, by decide⟩,
    ⟨running, by decide⟩,
    ⟨running, 0x11, 0x3000030004, 0, by decide⟩,
    ⟨running, 0, 0x3000030004, by decide⟩⟩

/-- Every clause of FaultEvents has a state and operands that meet what it assumes. -/
theorem witness_FaultEvents :
    (∃ s : State, (s.flt.fstate) ∧ (3 ≤ s.mode.mode)) ∧
    (∃ s : State, ∃ x, (s.flt.inject = some x) ∧ (s.mode.mode = 4) ∧ (0 < x.left)) ∧
    (∃ s : State, (s.flt.shed < 4) ∧ (3 ≤ s.mode.mode)) ∧
    (∃ s : State, (0 < s.flt.shed) ∧ (3 ≤ s.mode.mode)) ∧
    (∃ s : State, (2 ≤ s.mode.mode) ∧ (s.boot.halted = false)) ∧
    (∃ s : State, (2 ≤ s.mode.mode) ∧ (s.boot.halted = false) ∧ (s.cp.started ∨ s.mode.mode ≠ 2)) ∧
    (∃ s : State, ∃ src, (s.mode.mode ≠ 0) ∧ (1 ≤ src) ∧ (src ≤ 3)) ∧
    (∃ src, (1 ≤ src) ∧ (src ≤ 3)) :=
  ⟨⟨{ inMode 3 with flt := { fstate := true } }, by decide⟩,
    ⟨{ inMode 4 with flt := { inject := some { id := 0x0102, left := 1 } } }, { id := 0x0102, left := 1 }, by decide⟩,
    ⟨{ inMode 3 with flt := { shed := 3 } }, by decide⟩,
    ⟨{ inMode 3 with flt := { shed := 1 } }, by decide⟩,
    ⟨booting 1, by decide⟩,
    ⟨running, by decide⟩,
    ⟨running, 3, by decide⟩,
    ⟨3, by decide⟩⟩

/-- Every clause of LinkFrameEvents has a state and operands that meet what it assumes. -/
theorem witness_LinkFrameEvents :
    (∃ s : State, ∃ p, (linkUp s p)) ∧
    (∃ s : State, ∃ p, ∃ f : List Byte, ∃ c, ∃ n, ∃ q, ∃ good, (linkUp s p) ∧ (fcsGood f c = good) ∧ (isSogus s f) ∧ (knownType f) ∧ (ownFrame s f = false) ∧ (hopEnd s f = false) ∧ (destNode f = some n) ∧ (n ≠ s.links.node) ∧ ((routeTo s n).filter (unicastOut s p) = [q]) ∧ (linkUp s q)) ∧
    (∃ s : State, ∃ p, ∃ f : List Byte, ∃ c, ∃ n, ∃ good, (linkUp s p) ∧ (fcsGood f c = good) ∧ (isSogus s f) ∧ (knownType f) ∧ (ownFrame s f = false) ∧ (hopEnd s f = false) ∧ (destNode f = some n) ∧ (n ≠ s.links.node) ∧ (thas s.links.dir n = false)) ∧
    (∃ s : State, ∃ p, ∃ f : List Byte, ∃ g, (linkUp s p) ∧ (isSogus s f) ∧ (knownType f) ∧ (ownFrame s f = false) ∧ (hopEnd s f = false) ∧ (destNode f = none) ∧ (destGroup f = some g)) ∧
    (∃ s : State, ∃ p, ∃ f : List Byte, ∃ c, ∃ good, (linkUp s p) ∧ (fcsGood f c = good) ∧ (ownFrame s f = false) ∧ (hopEnd s f)) ∧
    (∃ s : State, ∃ p, ∃ f : List Byte, (consumes p 1 f s)) ∧
    (∃ s : State, ∃ p, ∃ f : List Byte, ∃ ns, ∃ b, ∃ key, ∃ x, (consumes p 1 f s) ∧ ((passed p f s).pipe.running) ∧ (rxBlocks (byteAt f 32) (framePayload f) = [b]) ∧ (entriesFor (passed p f s) (frameSource f) b.flow = [(key, x)]) ∧ (bit (byteAt f 19) 0 = false) ∧ (blockOk x (tickN (passed p f s)) b) ∧ (be f 22 6 ≤ cal (passed p f s) + 1) ∧ (0 ≤ (blockMargin (passed p f s) x (be f 22 6) ns)) ∧ (((tgetD (passed p f s).links.flows key {}).blocks.any fun h => h.1 == be f 22 6 && h.2.1 == b.first) = false)) ∧
    (∃ s : State, ∃ p, ∃ f : List Byte, (consumes p 2 f s) ∧ (destNode f = some (passed p f s).links.node) ∧ (bit (byteAt (framePayload f) 1) 0 = false) ∧ (admits .link (frameSource f, 0) (framePayload f) (passed p f s))) ∧
    (∃ s : State, ∃ p, ∃ f : List Byte, ∃ w, (consumes p 2 f s) ∧ (destNode f = some (passed p f s).links.node) ∧ (bit (byteAt (framePayload f) 1) 0) ∧ (cpListens (passed p f s)) ∧ (((passed p f s).cp.relays.find? fun w => w.node == frameSource f && be w.req.params 6 2 == be (framePayload f) 2 2 && be w.req.params 8 2 == be (framePayload f) 4 2) = some w)) ∧
    (∃ s : State, ∃ p, ∃ f : List Byte, (isType s f 4) ∧ (linkUp s p) ∧ (ownFrame s f = false) ∧ (hopEnd s f = false) ∧ ((tgetD s.links.seen (frameSource f) []).contains (be f 30 2) = false) ∧ (s.links.node ≠ 0) ∧ (isNode (frameSource f)) ∧ ((((upPorts (countFrame p true s)).filter (· != p)).foldl (fun t q => sendCopy f true q t) { (countFrame p true s) with links := { (countFrame p true s).links with seen := tset (countFrame p true s).links.seen (frameSource f) ((be f 30 2 :: (tgetD s.links.seen (frameSource f) [])).take 16) } }).links.dir.length < 4096) ∧ ((tgetD (((upPorts (countFrame p true s)).filter (· != p)).foldl (fun t q => sendCopy f true q t) { (countFrame p true s) with links := { (countFrame p true s).links with seen := tset (countFrame p true s).links.seen (frameSource f) ((be f 30 2 :: (tgetD s.links.seen (frameSource f) [])).take 16) } }).links.dir (frameSource f) {}).pinned = false)) ∧
    (∃ s : State, (s.links.node ≠ 0)) ∧
    (∃ s : State, ∃ node, ∃ e, (tget s.links.dir node = some e)) ∧
    (∃ s : State, ∃ p, ∃ f : List Byte, (isType s f 5) ∧ (linkUp s p)) ∧
    (∃ s : State, ∃ p, ∃ f : List Byte, ∃ i, ∃ q, (linkUp s p) ∧ (isType s f 5) ∧ (s.links.node ≠ 0) ∧ (ownFrame s f = false) ∧ (hopEnd s f = false) ∧ (ringSide s p = some (i, q))) ∧
    (∃ s : State, ∃ p, ((ringOf s p).isSome) ∧ (linkUp s p)) ∧
    (∃ s : State, ∃ p, ∃ i, ∃ q, (ringSide s p = some (i, q)) ∧ ((linkSt s p).lost = false)) ∧
    (∃ s : State, ∃ p, ∃ i, ∃ q, (ringSide s p = some (i, q)) ∧ ((linkSt s p).lost) ∧ (linkUp s p)) ∧
    (∃ s : State, ∃ p, (2 ≤ s.mode.mode) ∧ ((linkSt s p).state = 1 ∨ (linkSt s p).state = 3)) ∧
    (∃ s : State, ∃ p, (linkUp s p ∨ (linkSt s p).state = 4)) ∧
    (∃ s : State, ∃ p, (linkUp s p) ∧ (crcOver s p)) ∧
    (∃ s : State, ∃ p, ((linkSt s p).state = 4)) :=
  ⟨⟨linked, 0, by decide⟩,
    ⟨{ linked with links := { linked.links with dir := [(7, { prim := 1 })] } }, 0, frameTo (toNode 7) 2 0 [], fcsOf (frameTo (toNode 7) 2 0 []), 7, 1, true, by decide⟩,
    ⟨linked, 0, frameTo (toNode 7) 2 0 [], fcsOf (frameTo (toNode 7) 2 0 []), 7, true, by decide⟩,
    ⟨linked, 0, frameTo (toGroup 3) 2 0 [], 3, by decide⟩,
    ⟨linked, 0, (frame.take 20 ++ [0x0F, 0xFF] ++ frame.drop 22), 0, false, by decide⟩,
    ⟨linked, 0, frameTo (toNode 9) 1 0 [], by decide⟩,
    ⟨{ linked with pipe := { running := true, live := { flowIn := [(flowKey 5 0, { source := 5 })] } } }, 0, frameTo (toNode 9) 1 1 ([0, 0, 0, 1, 2, 1, 0, 0] ++ List.replicate 8 0), 0, { flow := 0, first := 0, count := 1, samples := 2, total := 1, data := List.replicate 8 0 }, flowKey 5 0, { source := 5 }, by decide, by decide⟩,
    ⟨{ linked with sec := { work := [(credIx 0 0, key32)] } }, 0, frameTo (toNode 9) 2 0 (packet keyed), by decide, by decide, by decide, a_control_request⟩,
    ⟨{ linked with cp := { started := true, relays := [{ req := rq 0x0107, node := 5 }] } }, 0, frameTo (toNode 9) 2 0 [2, 1], { req := rq 0x0107, node := 5 }, by decide, by decide⟩,
    ⟨linked, 0, frameTo (toGroup 0xFFFF) 4 0 (toBE 8 1), by decide⟩,
    ⟨linked, by decide⟩,
    ⟨{ linked with links := { dir := [(5, {})] } }, 5, {}, by decide⟩,
    ⟨linked, 0, frameTo (toGroup 0xFFFF) 5 0 [1], by decide⟩,
    ⟨{ linked with links := { linked.links with rings := [(0, { enabled := true })] } }, 0, frameTo (toGroup 0xFFFF) 5 0 [2], 0, 1, by decide⟩,
    ⟨{ linked with links := { linked.links with rings := [(0, { enabled := true })] } }, 0, by decide⟩,
    ⟨{ linked with links := { linked.links with rings := [(0, { enabled := true })] } }, 0, 0, 1, by decide⟩,
    ⟨{ linked with links := { linked.links with rings := [(0, { enabled := true })], ports := [(0, { state := 2, lost := true })] } }, 0, 0, 1, by decide⟩,
    ⟨{ running with links := { ports := [(3, { state := 1 })] } }, 3, by decide⟩,
    ⟨linked, 1, by decide⟩,
    ⟨{ linked with links := { linked.links with crcLim := 0, ports := [(0, { state := 2, badAt := [linked.clock.now] })] } }, 0, by decide⟩,
    ⟨{ running with links := { ports := [(3, { state := 4 })] } }, 3, by decide⟩⟩

/-- Every clause of NetworkEvents has a state and operands that meet what it assumes. -/
theorem witness_NetworkEvents :
    (∃ s : State, ∃ p, ∃ rtp : List Byte, (linkUp s p) ∧ (s.pipe.running) ∧ (12 ≤ rtp.length)) ∧
    (∃ s : State, ∃ p, ∃ dest, ∃ source, ∃ udp, ∃ rtp : List Byte, ∃ i, ∃ x, (linkUp s p) ∧ (s.pipe.running) ∧ (12 ≤ rtp.length) ∧ ((s.pipe.live.aoRx.filter fun x => aoMatch p dest source udp rtp x.2) = [(i, x)]) ∧ ((tgetD s.links.aoRx i {}).got = false ∨ be rtp 2 2 = (tgetD s.links.aoRx i {}).seq) ∧ ((cal s * tickN s : Int) ≤ (mediaPos s x (mediaNear s (be rtp 4 4))))) ∧
    (∃ s : State, ∃ p, ∃ dest, ∃ target, ∃ m, (p < 4) ∧ (portAddr (countFrame p true s) p = some (m, target)) ∧ (linkUp s p) ∧ (macTaken m p dest)) ∧
    (∃ s : State, ∃ dest, ∃ target, ∃ m, (portAddr s 4 = some (m, target)) ∧ (macTaken m 4 dest)) ∧
    (∃ s : State, ∃ p, ∃ dest, ∃ target, ∃ m, (4 < p) ∧ (portAddr s p = some (m, target)) ∧ (macTaken m p dest)) ∧
    (∃ s : State, ∃ dest, ∃ target, ∃ m, (portAddr s 4 = some (m, target)) ∧ (bit s.links.mg.flags 1) ∧ (macTaken m 4 dest)) ∧
    (∃ s : State, (mgRuns s) ∧ (s.links.mg.paused = false)) ∧
    (∃ s : State, ∃ quanta, (mgRuns s) ∧ (udpOn s 0) ∧ (s.links.mg.ignore = false) ∧ (quanta ≠ 0)) ∧
    (∃ s : State, (mgRuns s) ∧ (udpOn s 0) ∧ (s.links.mg.ignore = false)) ∧
    (∃ s : State, (mgRuns s) ∧ (s.links.mg.paused)) ∧
    (∃ s : State, (mgRuns s)) ∧
    (∃ s : State, ∃ p, ∃ f, (p < 2) ∧ (2 ≤ s.mode.mode) ∧ (bit (alAt s p).flags 0) ∧ (be f 0 6 = (alAt s p).mac ∨ be f 0 6 = 0xFFFFFFFFFFFF) ∧ (isGcpFrame f = false)) ∧
    (∃ s : State, ∃ p, (p < 2) ∧ (bit (alAt s p).flags 0) ∧ (bit (alAt s p).flags 1) ∧ ((alAt s p).fell = false) ∧ ((alAt s p).plcaId ≠ 0)) ∧
    (∃ s : State, (mgRuns s = false)) :=
  ⟨⟨linked, 0, List.replicate 12 0, by decide⟩,
    ⟨{ linked with pipe := { running := true, live := { aoRx := [(0, { flags := 1 })] } } }, 0, 0, 0, 0, ([0x80, 96] ++ List.replicate 10 0), 0, { flags := 1 }, by decide⟩,
    ⟨{ linked with pipe := { running := true, live := { links := [(0, { ip := 7 })] } } }, 0, 0xFFFFFFFFFFFF, 7, macNode 9, by decide⟩,
    ⟨{ running with links := { mg := { flags := 3, ip := 7 } } }, 0xFFFFFFFFFFFF, 7, toBE 6 0, by decide⟩,
    ⟨{ running with links := { al0 := { flags := 1, ip := 7 } } }, 5, 0xFFFFFFFFFFFF, 7, toBE 6 0, by decide⟩,
    ⟨{ running with links := { mg := { flags := 3, ip := 7 } } }, 0xFFFFFFFFFFFF, 7, toBE 6 0, by decide⟩,
    ⟨running, by decide⟩,
    ⟨{ running with links := { mg := { flags := 3, ip := 7 } } }, 1, by decide⟩,
    ⟨{ running with links := { mg := { flags := 3, ip := 7 } } }, by decide⟩,
    ⟨{ running with links := { mg := { paused := true } } }, by decide⟩,
    ⟨running, by decide⟩,
    ⟨{ running with links := { al1 := { flags := 1 } } }, 1, List.replicate 6 0xFF, by decide⟩,
    ⟨{ running with links := { al1 := { flags := 3, plcaId := 1 } } }, 1, by decide⟩,
    ⟨{ running with mode := { mode := 1 } }, by decide⟩⟩

/-- Every clause of MeterEvents has a state and operands that meet what it assumes. -/
theorem witness_MeterEvents :
    (∃ s : State, (hasMeter s)) ∧
    (∃ s : State, (hasMeter s) ∧ (s.meter.vmet = false)) ∧
    (∃ s : State, (hasMeter s) ∧ (s.meter.vmet)) ∧
    (∃ s : State, (hasMeter s) ∧ (s.meter.vmet)) ∧
    (∃ s : State, (hasMeter s) ∧ (s.meter.vmet)) ∧
    (∃ s : State, (hasMeter s) ∧ (s.meter.vmet)) ∧
    (∃ s : State, (hasMeter s) ∧ (s.meter.vmet)) ∧
    (∃ s : State, ∃ r, ∃ rest, (s.cp.meterWait = r :: rest)) ∧
    (∃ s : State, ∃ code, (hasMeter s) ∧ (s.meter.vmet) ∧ (bit s.meter.alarms code)) ∧
    (∃ s : State, (hasMeter s)) ∧
    (∃ s : State, (hasMeter s)) ∧
    (∃ s : State, (hasMeter s) ∧ (s.meter.vmet = false)) ∧
    (∃ s : State, (hasMeter s)) :=
  ⟨⟨running, by decide⟩,
    ⟨{ running with meter := { vmet := false } }, by decide⟩,
    ⟨running, by decide⟩,
    ⟨running, by decide⟩,
    ⟨running, by decide⟩,
    ⟨running, by decide⟩,
    ⟨running, by decide⟩,
    ⟨{ running with cp := { meterWait := [rq 0x0801] } }, rq 0x0801, [], by decide⟩,
    ⟨{ running with meter := { vmet := true, alarms := 128 } }, 7, by decide⟩,
    ⟨running, by decide⟩,
    ⟨running, by decide⟩,
    ⟨{ running with meter := { vmet := false } }, by decide⟩,
    ⟨running, by decide⟩⟩

/-- Every clause of MigrationEvents has a state and operands that meet what it assumes. -/
theorem witness_MigrationEvents :
    (∃ s : State, ∃ temps, ∃ occ, ∃ drvQ, (((adjustVcore (placePeriod temps occ drvQ s)).eng.engines.any fun g => decide (4 ≤ g.2.missRun)) = false)) ∧
    (∃ s : State, ∃ h, ∃ m, (migrOf s h = some m) ∧ (m.handle = h) ∧ (m.phase = 0) ∧ (destReady s m) ∧ (poisonIn (chainD s h) m.lines = false) ∧ (m.lines.length ≤ 64 ∨ 8 ≤ m.rounds + 1)) ∧
    (∃ s : State, ∃ h, ∃ m, (migrOf s h = some m) ∧ (m.handle = h) ∧ (m.phase = 0) ∧ (destReady s m) ∧ (poisonIn (chainD s h) m.lines = false) ∧ (64 < m.lines.length) ∧ (m.rounds + 1 < 8)) ∧
    (∃ s : State, ∃ h, ∃ m, ∃ k, (migrOf s h = some m) ∧ (m.phase = 1) ∧ (stageTick s (chainD s h).desc.stage = some k) ∧ (m.commit ≤ k ∨ k + 1 = m.commit ∧ ended s h) ∧ (poisonIn (chainD s h) (chainD s h).cum = false)) ∧
    (∃ s : State, ∃ m, (twinDue s m = false) ∧ ((engAt s m.dst).cur ≠ twinOf m.handle)) ∧
    (∃ s : State, ∃ h, ∃ m, ∃ k, (migrOf s h = some m) ∧ (m.phase = 1) ∧ (stageTick s (chainD s h).desc.stage = some k) ∧ (m.commit ≤ k ∨ k + 1 = m.commit ∧ ended s h)) ∧
    (∃ s : State, ∃ h, ∃ m, (migrOf s h = some m) ∧ (twinDue s m) ∧ (ended s h) ∧ (m.failed = false) ∧ (m.bad = false) ∧ (m.phase ≠ 1) ∧ (m.other.isSome) ∧ (sameRun s m)) ∧
    (∃ s : State, ∃ h, ∃ m, (migrOf s h = some m) ∧ (twinDue s m) ∧ (ended s h) ∧ (m.failed = false) ∧ (m.bad = false) ∧ (m.phase ≠ 1)) ∧
    (∃ s : State, ∃ h, ∃ m, (migrOf s h = some m) ∧ (twinDue s m) ∧ (ended s h) ∧ (m.failed = false)) ∧
    (∃ s : State, ∃ h, ∃ m, (migrOf s h = some m) ∧ (twinDue s m) ∧ (ended s h) ∧ (m.failed)) ∧
    (∃ s : State, ∃ h, ((s.place.migr.any fun m => m.handle == h && m.phase == 3 && ((engAt s m.dst).waking || !banksReady s h)) = false)) ∧
    (∃ s : State, ∃ h, (migrOf s h = none) ∧ (joiningChain s = some h) ∧ (s.pair.join.phase = 0) ∧ (poisonIn (chainD s h) s.pair.join.lines = false) ∧ (s.pair.join.lines.length ≤ 64 ∨ 8 ≤ s.pair.join.rounds + 1)) ∧
    (∃ s : State, ∃ h, ∃ k, (migrOf s h = none) ∧ (joiningChain s = some h) ∧ (s.pair.join.phase = 1) ∧ (stageTick s (chainD s h).desc.stage = some k) ∧ (s.pair.join.commit ≤ k ∨ k + 1 = s.pair.join.commit ∧ ended s h) ∧ (poisonIn (chainD s h) (chainD s h).cum = false)) ∧
    (∃ s : State, ∃ e, (hasEngine s e)) ∧
    (∃ s : State, ∃ e, (mayTest s e)) ∧
    (∃ s : State, ∃ e, (mayTest s e)) :=
  ⟨a_quiet_period,
    ⟨{ moving { handle := 1, src := 0, dst := 1, phase := 0 } with mem := heath.mem }, 1, { handle := 1, src := 0, dst := 1, phase := 0 }, by decide⟩,
    ⟨{ moving { handle := 1, src := 0, dst := 1, phase := 0, lines := List.range 65 } with mem := heath.mem }, 1, { handle := 1, src := 0, dst := 1, phase := 0, lines := List.range 65 }, by decide⟩,
    ⟨{ moving { handle := 1, src := 0, dst := 1, phase := 1 } with mem := heath.mem }, 1, { handle := 1, src := 0, dst := 1, phase := 1 }, 8, by decide⟩,
    ⟨{ moving { handle := 1, src := 0, dst := 1, phase := 0 } with mem := heath.mem }, { handle := 1, src := 0, dst := 1, phase := 0 }, by decide⟩,
    ⟨{ moving { handle := 1, src := 0, dst := 1, phase := 1 } with mem := heath.mem }, 1, { handle := 1, src := 0, dst := 1, phase := 1 }, 8, by decide⟩,
    ⟨{ moving { handle := 1, src := 0, dst := 1, phase := 2, mine := some ([], [], []), other := some ([], [], []) } with mem := heath.mem }, 1, { handle := 1, src := 0, dst := 1, phase := 2, mine := some ([], [], []), other := some ([], [], []) }, by decide⟩,
    ⟨{ moving { handle := 1, src := 0, dst := 1, phase := 2 } with mem := heath.mem }, 1, { handle := 1, src := 0, dst := 1, phase := 2 }, by decide⟩,
    ⟨{ moving { handle := 1, src := 0, dst := 1, phase := 2 } with mem := heath.mem }, 1, { handle := 1, src := 0, dst := 1, phase := 2 }, by decide⟩,
    ⟨{ moving { handle := 1, src := 0, dst := 1, phase := 2, failed := true } with mem := heath.mem }, 1, { handle := 1, src := 0, dst := 1, phase := 2, failed := true }, by decide⟩,
    ⟨running, 1, by decide⟩,
    ⟨{ chained 3 with pipe := { running := true, cal := 9, live := { chains := [(1, {})] } }, pair := { state := 1, step := 3, serve := [1], join := { phase := 0 } } }, 1, by decide⟩,
    ⟨{ chained 3 with pipe := { running := true, cal := 9, live := { chains := [(1, {})] } }, pair := { state := 1, step := 3, serve := [1], join := { phase := 1 } } }, 1, 8, by decide⟩,
    ⟨running, 191, by decide⟩,
    ⟨running, 191, by decide⟩,
    ⟨running, 191, by decide⟩⟩

/-- Every clause of PairEvents has a state and operands that meet what it assumes. -/
theorem witness_PairEvents :
    (∃ s : State, ∃ p, ∃ f : List Byte, (message p 1 f s) ∧ ((heard p 1 f s).pair.state = 5 ∨ byteAt (messageBody f) 2 = variantCode (heard p 1 f s).part.variant ∧ be (messageBody f) 3 4 = (heard p 1 f s).boot.fwVer) ∧ ((heard p 1 f s).pair.listen = 0) ∧ ((heard p 1 f s).mode.mode ≠ 6 ∨ byteAt (messageBody f) 0 ≠ 6) ∧ (byteAt (messageBody f) 11 ≠ 1)) ∧
    (∃ s : State, ∃ p, ∃ f : List Byte, (message p 1 f s) ∧ ((heard p 1 f s).pair.state ≠ 5) ∧ (byteAt (messageBody f) 2 ≠ variantCode (heard p 1 f s).part.variant ∨ be (messageBody f) 3 4 ≠ (heard p 1 f s).boot.fwVer) ∧ ((heard p 1 f s).pair.listen = 0) ∧ ((heard p 1 f s).mode.mode ≠ 6)) ∧
    (∃ s : State, ∃ p, ∃ f : List Byte, (message p 2 f s) ∧ ((heard p 2 f s).mode.mode = 7) ∧ (isMirrored (mirrorReq (messageSeq f) (messageBody f)).opcode) ∧ (tget (heard p 2 f s).pair.doneMir (mirrorReq (messageSeq f) (messageBody f)).acc = none) ∧ ((((heard p 2 f s).cp.p0 ++ (heard p 2 f s).cp.p1 ++ (heard p 2 f s).cp.p2 ++ (heard p 2 f s).cp.p3).any fun x => x.src == .pair && x.acc == (mirrorReq (messageSeq f) (messageBody f)).acc) = false) ∧ ((mirrorReq (messageSeq f) (messageBody f)).applyAt = 0 ∨ bit (mirrorReq (messageSeq f) (messageBody f)).applyAt 63 ∨ cal (heard p 2 f s) < (mirrorReq (messageSeq f) (messageBody f)).applyAt) ∧ (queueLen (heard p 2 f s) (queueOf (mirrorReq (messageSeq f) (messageBody f))) < queueCap (queueOf (mirrorReq (messageSeq f) (messageBody f))))) ∧
    (∃ s : State, ∃ p, ∃ f : List Byte, ∃ st, (message p 2 f s) ∧ ((heard p 2 f s).mode.mode = 7) ∧ (isMirrored (mirrorReq (messageSeq f) (messageBody f)).opcode) ∧ (tget (heard p 2 f s).pair.doneMir (mirrorReq (messageSeq f) (messageBody f)).acc = some st)) ∧
    (∃ s : State, ∃ p, ∃ f : List Byte, ∃ w, (message p 3 f s) ∧ (((heard p 3 f s).cp.partner.find? fun w => w.node == be (messageBody f) 0 4) = some w)) ∧
    (∃ s : State, ∃ p, ∃ f : List Byte, ∃ m, (message p 3 f s) ∧ (((heard p 3 f s).cp.partner.find? fun w => w.node == be (messageBody f) 0 4) = none) ∧ (((heard p 3 f s).pair.out.find? fun m => m.seq == be (messageBody f) 0 4) = some m)) ∧
    (∃ s : State, ∃ p, ∃ f : List Byte, (message p 4 f s) ∧ ((heard p 4 f s).mode.mode = 7) ∧ ((heard p 4 f s).pair.state = 3)) ∧
    (∃ s : State, ∃ p, ∃ f : List Byte, (message p 5 f s) ∧ ((heard p 5 f s).mode.mode = 6)) ∧
    (∃ s : State, ∃ p, ∃ f : List Byte, (message p 6 f s) ∧ ((heard p 6 f s).mode.mode = 6) ∧ ((heard p 6 f s).pair.state = 1)) ∧
    (∃ s : State, ∃ p, ∃ f : List Byte, (message p 7 f s) ∧ ((heard p 7 f s).mode.mode = 7) ∧ ((heard p 7 f s).pair.state = 2 ∨ (heard p 7 f s).pair.state = 4) ∧ ((heard p 7 f s).pair.paused = false)) ∧
    (∃ s : State, ∃ cfg : Cfg, ∃ hs : List Nat, ((s.eng.chains.all fun c => hs.contains c.1)) ∧ (cfg.rate = rate s) ∧ (cfg.n = tickN s)) ∧
    (∃ s : State, ∃ p, ∃ f : List Byte, (message p 8 f s) ∧ ((heard p 8 f s).mode.mode = 7)) ∧
    (∃ s : State, ∃ p, ∃ f : List Byte, (message p 8 f s) ∧ ((heard p 8 f s).mode.mode ≠ 7)) ∧
    (∃ s : State, ∃ seq, ∃ m, ((s.pair.out.find? fun m => m.seq == seq) = some m) ∧ (m.due = 0 ∨ cal s < m.due)) ∧
    (∃ s : State, (s.mode.mode = 7)) ∧
    (∃ s : State, (s.mode.mode = 6) ∧ (s.pair.state = 1) ∧ (s.pair.absent = false)) ∧
    (∃ s : State, (paired s) ∧ (s.pair.pathUpB)) ∧
    (∃ s : State, (paired s) ∧ (s.pair.pathUpA = false) ∧ (s.mode.mode = 7) ∧ (s.pair.state = 2 ∨ s.pair.state = 3)) ∧
    (∃ s : State, (s.pair.actIn) ∧ (s.mode.mode = 7) ∧ (s.pair.state = 3)) ∧
    (∃ s : State, (s.pair.actIn) ∧ (s.mode.mode = 7) ∧ (s.pair.state ≠ 3)) ∧
    (∃ s : State, (s.pair.listen ≠ 0)) ∧
    (∃ s : State, (s.pair.listen = 1) ∧ (s.pair.cfg.rank = 1)) ∧
    (∃ s : State, (s.pair.listen ≠ 0) ∧ (s.pair.listen ≠ 1 ∨ s.pair.cfg.rank ≠ 1)) ∧
    (∃ s : State, ∃ acc, ∃ w, ((s.cp.partner.find? fun w => w.req.acc == acc) = some w)) ∧
    (∃ s : State, (s.mode.mode = 7) ∧ (s.pair.state = 2 ∨ s.pair.state = 4) ∧ (s.pair.paused = false)) ∧
    (∃ s : State, (s.mode.mode = 6) ∧ (s.pair.state = 1)) ∧
    (∃ s : State, (s.pair.step = 1)) ∧
    (∃ s : State, (s.mode.mode = 7) ∧ (s.pair.state = 2) ∧ (stepComplete s) ∧ (s.pair.step ≠ 5)) ∧
    (∃ s : State, (s.mode.mode = 7) ∧ (s.pair.state = 2) ∧ (stepComplete s) ∧ (s.pair.step = 5)) ∧
    (∃ s : State, (s.mode.mode = 7) ∧ (s.pair.state = 2)) :=
  ⟨⟨partnered 7 5, 0, pairFr 1 [], message_sealed (d := macHead (toNode 9)) (h := sogus 3 0) (x := pairMsg 1 []) rfl rfl rfl (by decide) (by decide) (by decide) (by decide), by decide⟩,
    ⟨partnered 5 0, 0, pairFr 1 [0, 0, 0xFF], message_sealed (d := macHead (toNode 9)) (h := sogus 3 0) (x := pairMsg 1 [0, 0, 0xFF]) rfl rfl rfl (by decide) (by decide) (by decide) (by decide), by decide⟩,
    ⟨partnered 7 3, 0, pairFr 2 ([2, 2, 3, 9] ++ List.replicate 30 0), message_sealed (d := macHead (toNode 9)) (h := sogus 3 0) (x := pairMsg 2 ([2, 2, 3, 9] ++ List.replicate 30 0)) rfl rfl rfl (by decide) (by decide) (by decide) (by decide), by decide⟩,
    ⟨{ partnered 7 3 with pair := { (partnered 7 3).pair with doneMir := [(0, 0)] } }, 0, pairFr 2 ([2, 2, 3, 9] ++ List.replicate 30 0), 0, message_sealed (d := macHead (toNode 9)) (h := sogus 3 0) (x := pairMsg 2 ([2, 2, 3, 9] ++ List.replicate 30 0)) rfl rfl rfl (by decide) (by decide) (by decide) (by decide), by decide⟩,
    ⟨{ partnered 6 1 with cp := { started := true, partner := [{ req := rq 0x0105, node := 0 }] } }, 0, pairFr 3 (List.replicate 6 0), { req := rq 0x0105, node := 0 }, message_sealed (d := macHead (toNode 9)) (h := sogus 3 0) (x := pairMsg 3 (List.replicate 6 0)) rfl rfl rfl (by decide) (by decide) (by decide) (by decide), by decide⟩,
    ⟨{ partnered 6 1 with pair := { (partnered 6 1).pair with out := [{ seq := 0, req := rq 0x0309, due := 5 }] } }, 0, pairFr 3 (List.replicate 6 0), { seq := 0, req := rq 0x0309, due := 5 }, message_sealed (d := macHead (toNode 9)) (h := sogus 3 0) (x := pairMsg 3 (List.replicate 6 0)) rfl rfl rfl (by decide) (by decide) (by decide) (by decide), by decide⟩,
    ⟨partnered 7 3, 0, pairFr 4 (List.replicate 6 0), message_sealed (d := macHead (toNode 9)) (h := sogus 3 0) (x := pairMsg 4 (List.replicate 6 0)) rfl rfl rfl (by decide) (by decide) (by decide) (by decide), by decide⟩,
    ⟨partnered 6 1, 0, pairFr 5 [], message_sealed (d := macHead (toNode 9)) (h := sogus 3 0) (x := pairMsg 5 []) rfl rfl rfl (by decide) (by decide) (by decide) (by decide), by decide⟩,
    ⟨partnered 6 1, 0, pairFr 6 [], message_sealed (d := macHead (toNode 9)) (h := sogus 3 0) (x := pairMsg 6 []) rfl rfl rfl (by decide) (by decide) (by decide) (by decide), by decide⟩,
    ⟨partnered 7 2, 0, pairFr 7 [], message_sealed (d := macHead (toNode 9)) (h := sogus 3 0) (x := pairMsg 7 []) rfl rfl rfl (by decide) (by decide) (by decide) (by decide), by decide⟩,
    ⟨running, {}, [], by decide⟩,
    ⟨partnered 7 3, 0, pairFr 8 [1], message_sealed (d := macHead (toNode 9)) (h := sogus 3 0) (x := pairMsg 8 [1]) rfl rfl rfl (by decide) (by decide) (by decide) (by decide), by decide⟩,
    ⟨partnered 6 1, 0, pairFr 8 [1], message_sealed (d := macHead (toNode 9)) (h := sogus 3 0) (x := pairMsg 8 [1]) rfl rfl rfl (by decide) (by decide) (by decide) (by decide), by decide⟩,
    ⟨{ twoNodes with pair := { out := [{ seq := 4, req := rq 0x0309, due := 5 }] } }, 4, { seq := 4, req := rq 0x0309, due := 5 }, by decide⟩,
    ⟨shadow 3, by decide⟩,
    ⟨twoNodes, by decide⟩,
    ⟨shadow 3, by decide⟩,
    ⟨{ shadow 3 with pair := { (shadow 3).pair with pathUpA := false } }, by decide⟩,
    ⟨shadow 3, by decide⟩,
    ⟨shadow 2, by decide⟩,
    ⟨{ running with pair := { listen := 1 } }, by decide⟩,
    ⟨{ running with pair := { listen := 1, cfg := { rank := 1 } } }, by decide⟩,
    ⟨{ running with pair := { listen := 2, cfg := { rank := 1 } } }, by decide⟩,
    ⟨{ twoNodes with cp := { partner := [{ req := { rq 0x0105 with acc := 4 } }] } }, 4, { req := { rq 0x0105 with acc := 4 } }, by decide⟩,
    ⟨shadow 4, by decide⟩,
    ⟨twoNodes, by decide⟩,
    ⟨{ running with pair := { step := 1 } }, by decide⟩,
    ⟨{ shadow 2 with pair := { (shadow 2).pair with step := 1, loaded := 1 } }, by decide⟩,
    ⟨{ shadow 2 with pair := { (shadow 2).pair with step := 5, checks := 16 } }, by decide⟩,
    ⟨shadow 2, by decide⟩⟩

/-- Every clause of AudioPortEvents has a state and operands that meet what it assumes. -/
theorem witness_AudioPortEvents :
    (∃ s : State, ∃ p, ((spSt s p).state = 2 ∨ (spSt s p).state = 5) ∧ (bit (tgetD s.pipe.live.sp p {}).flags 3 = false)) ∧
    (∃ s : State, ∃ p, ((spSt s p).state = 3 ∨ (spSt s p).state = 4 ∨ (spSt s p).unmute) ∧ (bit (tgetD s.pipe.live.sp p {}).flags 0)) ∧
    (∃ s : State, ∃ p, ∃ n, (spLive (spSt s p)) ∧ (n < (tgetD s.pipe.live.sp p {}).ch * (tgetD s.pipe.live.sp p {}).slot)) ∧
    (∃ s : State, ∃ p, (spLive (spSt s p))) ∧
    (∃ s : State, ∃ p, (aeLive s p ∨ (aeSt s p).unmute ∨ (aeSt s p).lock)) ∧
    (∃ s : State, ∃ p, ((aeSt s p).state = 1 ∨ (aeSt s p).state = 4) ∧ (bit (tgetD s.pipe.live.ae p {}).flags 2 = false)) ∧
    (∃ s : State, ∃ p, (aeLive s p)) ∧
    (∃ s : State, ∃ p, ∃ block, (aeLive s p) ∧ (byteAt (fit 24 block) 0 % 2 = 0)) ∧
    (∃ s : State, ∃ p, ∃ block, (aeLive s p) ∧ (byteAt (fit 24 block) 0 % 2 = 1) ∧ (crcc ((fit 24 block).take 23) = byteAt (fit 24 block) 23)) ∧
    (∃ s : State, ∃ p, ∃ block, (aeLive s p) ∧ (byteAt (fit 24 block) 0 % 2 = 1) ∧ (crcc ((fit 24 block).take 23) ≠ byteAt (fit 24 block) 23)) ∧
    (∃ s : State, ∃ p, ∃ hz, (28000 ≤ hz) ∧ (hz ≤ 216000) ∧ (bit (tgetD s.pipe.live.ae p {}).flags 2) ∧ (bit (tgetD s.pipe.live.ae p {}).flags 0)) ∧
    (∃ s : State, ∃ p, ∃ hz, (28000 ≤ hz) ∧ (hz ≤ 216000) ∧ (bit (tgetD s.pipe.live.sp p {}).flags 3) ∧ (bit (tgetD s.pipe.live.sp p {}).flags 0) ∧ ((tgetD s.pipe.live.sp p {}).ch * (tgetD s.pipe.live.sp p {}).slot * hz ≤ 98304000)) ∧
    (∃ s : State, ∃ p, ∃ hz, (98304000 < (tgetD s.pipe.live.sp p {}).ch * (tgetD s.pipe.live.sp p {}).slot * hz)) ∧
    (∃ s : State, ∃ p, ∃ pos, (aeLive s p) ∧ (bit (tgetD s.pipe.live.ae p {}).flags 2 = false) ∧ (pos < tickN s)) ∧
    (∃ s : State, ∃ p, (aeLive s p) ∧ (bit (tgetD s.pipe.live.ae p {}).flags 2)) ∧
    (∃ s : State, ∃ p, ∃ hz, ((spSt s p).state = 2 ∨ (spSt s p).state = 5) ∧ (bit (tgetD s.pipe.live.sp p {}).flags 3) ∧ (28000 ≤ hz) ∧ (hz ≤ 216000) ∧ ((tgetD s.pipe.live.sp p {}).ch * (tgetD s.pipe.live.sp p {}).slot * hz ≤ 98304000)) ∧
    (∃ s : State, ∃ p, ∃ hz, (bit (tgetD s.pipe.live.sp p {}).flags 3) ∧ (hz < 28000 ∨ 216000 < hz ∨ 98304000 < (tgetD s.pipe.live.sp p {}).ch * (tgetD s.pipe.live.sp p {}).slot * hz)) ∧
    (∃ s : State, ∃ p, ∃ hz, ((aeSt s p).state = 1 ∨ (aeSt s p).state = 4) ∧ (bit (tgetD s.pipe.live.ae p {}).flags 2) ∧ (28000 ≤ hz) ∧ (hz ≤ 216000)) ∧
    (∃ s : State, ∃ p, ∃ hz, (bit (tgetD s.pipe.live.ae p {}).flags 2) ∧ (hz < 28000 ∨ 216000 < hz)) :=
  ⟨⟨{ running with pipe := { running := true, live := { sp := [(7, { flags := 1 })] } }, ports := { sp := [(7, { state := 5 })] } }, 7, by decide⟩,
    ⟨{ running with pipe := { running := true, live := { sp := [(7, { flags := 1 })] } }, ports := { sp := [(7, { state := 4 })] } }, 7, by decide⟩,
    ⟨{ running with pipe := { running := true, live := { sp := [(7, { flags := 1, ch := 2, slot := 32 })] } }, ports := { sp := [(7, { state := 1 })] } }, 7, 3, by decide⟩,
    ⟨{ running with pipe := { running := true, live := { sp := [(7, { flags := 1 })] } }, ports := { sp := [(7, { state := 1 })] } }, 7, by decide⟩,
    ⟨{ running with pipe := { running := true, live := { ae := [(3, { flags := 1 })] } }, ports := { ae := [(3, { state := 2 })] } }, 3, by decide⟩,
    ⟨{ running with pipe := { running := true, live := { ae := [(3, { flags := 1 })] } }, ports := { ae := [(3, { state := 4 })] } }, 3, by decide⟩,
    ⟨{ running with pipe := { running := true, live := { ae := [(3, { flags := 1 })] } }, ports := { ae := [(3, { state := 2 })] } }, 3, by decide⟩,
    ⟨{ running with pipe := { running := true, live := { ae := [(3, { flags := 1 })] } }, ports := { ae := [(3, { state := 2 })] } }, 3, [], by decide⟩,
    ⟨{ running with pipe := { running := true, live := { ae := [(3, { flags := 1 })] } }, ports := { ae := [(3, { state := 2 })] } }, 3, ([1] ++ List.replicate 22 0 ++ [BitVec.ofNat 8 (crcc ([1] ++ List.replicate 22 0))]), by decide⟩,
    ⟨{ running with pipe := { running := true, live := { ae := [(3, { flags := 1 })] } }, ports := { ae := [(3, { state := 2 })] } }, 3, ([1] ++ List.replicate 22 0 ++ [BitVec.ofNat 8 (crcc ([1] ++ List.replicate 22 0) + 1)]), by decide⟩,
    ⟨{ running with pipe := { running := true, live := { ae := [(3, { flags := 5 })] } }, ports := { ae := [(3, { state := 1 })] } }, 3, 28000, by decide⟩,
    ⟨{ running with pipe := { running := true, live := { sp := [(7, { flags := 9, ch := 2, slot := 32 })] } }, ports := { sp := [(7, { state := 2 })] } }, 7, 28000, by decide⟩,
    ⟨{ running with pipe := { running := true, live := { sp := [(7, { flags := 9, ch := 16, slot := 32 })] } }, ports := { sp := [(7, { state := 2 })] } }, 7, 216000, by decide⟩,
    ⟨{ running with pipe := { running := true, live := { ae := [(3, { flags := 1 })] } }, ports := { ae := [(3, { state := 2 })] } }, 3, 0, by decide⟩,
    ⟨{ running with pipe := { running := true, live := { ae := [(3, { flags := 5 })] } }, ports := { ae := [(3, { state := 2 })] } }, 3, by decide⟩,
    ⟨{ running with pipe := { running := true, live := { sp := [(7, { flags := 9, ch := 2, slot := 32 })] } }, ports := { sp := [(7, { state := 5 })] } }, 7, 216000, by decide⟩,
    ⟨{ running with pipe := { running := true, live := { sp := [(7, { flags := 9, ch := 2, slot := 32 })] } }, ports := { sp := [(7, { state := 2 })] } }, 7, 216001, by decide⟩,
    ⟨{ running with pipe := { running := true, live := { ae := [(3, { flags := 5 })] } }, ports := { ae := [(3, { state := 4 })] } }, 3, 28000, by decide⟩,
    ⟨{ running with pipe := { running := true, live := { ae := [(3, { flags := 5 })] } }, ports := { ae := [(3, { state := 4 })] } }, 3, 27999, by decide⟩⟩

/-- Every clause of DriveModulatorEvents has a state and operands that meet what it assumes. -/
theorem witness_DriveModulatorEvents :
    (∃ s : State, ∃ c, (drvOn s c) ∧ ((drvCh s c).trip = false) ∧ (200000000 ≤ (drvCh s c).dcOver)) ∧
    (∃ s : State, (hasDrv s) ∧ (s.ports.drv.clkErr = false)) ∧
    (∃ s : State, (s.ports.drv.clkErr)) ∧
    (∃ s : State, (s.ports.drv.clkErr) ∧ (s.mode.mode = 7 ∨ s.ports.drv.fault ∨ s.pipe.running = false)) ∧
    (∃ s : State, (s.ports.drv.clkErr) ∧ (s.mode.mode ≠ 7) ∧ (s.ports.drv.fault = false) ∧ (s.pipe.running)) ∧
    (∃ s : State, (hasDrv s) ∧ (s.ports.drv.faultN = false)) ∧
    (∃ s : State, (hasDrv s) ∧ (s.ports.drv.faultN)) ∧
    (∃ s : State, ∃ c, (drvOn s c) ∧ (bit (drvCfg s c).flags 1) ∧ ((drvCh s c).run = 3) ∧ ((drvCh s c).fbLost = false)) ∧
    (∃ s : State, ∃ v, (s.ports.drv.pendCode = some v)) ∧
    (∃ s : State, (s.ports.drv.pendCode = none)) :=
  ⟨⟨driving { dcOver := 200000000 }, 0, by decide⟩,
    ⟨running, by decide⟩,
    ⟨{ running with ports := { drv := { clkErr := true } } }, by decide⟩,
    ⟨{ running with ports := { drv := { clkErr := true, fault := true } } }, by decide⟩,
    ⟨{ running with ports := { drv := { clkErr := true } } }, by decide⟩,
    ⟨{ running with ports := { drv := { faultN := false } } }, by decide⟩,
    ⟨running, by decide⟩,
    ⟨driving { run := 3 }, 0, by decide⟩,
    ⟨{ running with ports := { drv := { pendCode := some 0 } } }, 0, by decide⟩,
    ⟨running, by decide⟩⟩

/-- Every clause of PlugEvents has a state and operands that meet what it assumes. -/
theorem witness_PlugEvents :
    (∃ s : State, (detects s.mode.mode) ∧ (s.ports.slp.plug = false)) ∧
    (∃ s : State, (detects s.mode.mode) ∧ (s.ports.slp.plug) ∧ (s.ports.slp.kind = 0) ∧ (s.mode.mode ≠ 3) ∧ (limping s = false)) ∧
    (∃ s : State, ∃ mv, (150 ≤ mv) ∧ (mv ≤ 1650) ∧ (limping s) ∧ (detects s.mode.mode) ∧ (s.ports.slp.plug) ∧ (s.ports.slp.kind = 0)) ∧
    (∃ s : State, (detects s.mode.mode) ∧ (s.ports.slp.plug)) ∧
    (∃ s : State, (detects s.mode.mode) ∧ (s.ports.slp.kind = 2) ∧ (s.ports.slp.press = false)) ∧
    (∃ s : State, (s.ports.slp.press) ∧ (s.ports.slp.held = false)) ∧
    (∃ s : State, (s.ports.slp.press) ∧ (s.ports.slp.long = false)) ∧
    (∃ s : State, (s.ports.slp.press) ∧ (s.ports.slp.long = false) ∧ (s.ports.slp.held = false)) ∧
    (∃ s : State, (s.ports.slp.press) ∧ (s.ports.slp.long = false) ∧ (s.ports.slp.held)) ∧
    (∃ s : State, (s.ports.slp.press = false)) ∧
    (∃ s : State, (s.ports.slp.press = false) ∧ (s.ports.slp.shorts = 1) ∧ (s.mode.mode ≠ 3)) ∧
    (∃ s : State, (s.ports.slp.press = false) ∧ (s.ports.slp.shorts = 2)) ∧
    (∃ s : State, (s.ports.slp.press = false) ∧ (3 ≤ s.ports.slp.shorts)) ∧
    (∃ s : State, (s.ports.slp.tone.isSome) ∧ (s.ports.slp.tones ≠ [])) ∧
    (∃ s : State, (s.ports.slp.tone.isSome) ∧ (s.ports.slp.tones = [])) ∧
    (∃ s : State, (limping s) ∧ (s.ports.slp.kind = 2)) :=
  ⟨⟨inMode 2, by decide⟩,
    ⟨plugged { plug := true }, by decide⟩,
    ⟨{ plugged { plug := true } with mode := { mode := 5, limp := true } }, 1650, by decide⟩,
    ⟨plugged { plug := true }, by decide⟩,
    ⟨plugged { kind := 2 }, by decide⟩,
    ⟨plugged { press := true }, by decide⟩,
    ⟨plugged { press := true }, by decide⟩,
    ⟨plugged { press := true }, by decide⟩,
    ⟨plugged { press := true, held := true }, by decide⟩,
    ⟨running, by decide⟩,
    ⟨plugged { shorts := 1 }, by decide⟩,
    ⟨plugged { shorts := 2 }, by decide⟩,
    ⟨plugged { shorts := 3 }, by decide⟩,
    ⟨plugged { tone := some (1000, 100, 0), tones := [(1000, 100, 0)] }, by decide⟩,
    ⟨plugged { tone := some (1000, 100, 0) }, by decide⟩,
    ⟨{ plugged { kind := 2 } with mode := { mode := 5, limp := true } }, by decide⟩⟩

/-- Every clause of PowerEvents has a state and operands that meet what it assumes. -/
theorem witness_PowerEvents :
    (∃ s : State, (s.mode.mode ≠ 0)) ∧
    (∃ s : State, (s.mode.mode ≠ 0)) ∧
    (∃ s : State, ∃ rail, (s.mode.mode ≠ 0) ∧ (rail ≤ 13) ∧ (meterRail rail = false) ∧ (rail ≠ railVaon) ∧ (shutting s = false)) ∧
    (∃ s : State, (s.boot.rising)) ∧
    (∃ s : State, (3 ≤ s.mode.mode) ∧ (s.power.seq = 0)) ∧
    (∃ s : State, (s.mode.mode ≠ 0) ∧ (s.mode.mode ≠ 2) ∧ (s.mode.mode < 3 ∨ s.power.seq ≠ 0)) ∧
    (∃ s : State, (s.power.seq ≠ 0)) ∧
    (∃ s : State, (s.mode.mode ≠ 0) ∧ (s.power.seq ≠ 0)) ∧
    (∃ s : State, (s.mode.mode ≠ 0) ∧ (s.power.seq = 0) ∧ (s.mode.parked)) ∧
    (∃ s : State, (s.mode.mode ≠ 0) ∧ (s.power.seq = 0) ∧ (s.mode.parked = false)) ∧
    (∃ s : State, ∃ v, (s.power.pend = some v) ∧ (2 ≤ s.mode.mode)) ∧
    (∃ s : State, (s.power.slew) ∧ (2 ≤ s.mode.mode)) ∧
    (∃ s : State, (s.power.slew) ∧ (2 ≤ s.mode.mode)) ∧
    (∃ s : State, (s.mode.mode ≠ 0)) ∧
    (∃ s : State, (s.boot.hot)) ∧
    (∃ s : State, (2 ≤ s.mode.mode) ∧ (s.boot.rising = false)) ∧
    (∃ s : State, (s.mode.mode = 1) ∧ (s.boot.rising = false)) ∧
    (∃ s : State, (s.mode.mode ≠ 0)) ∧
    (∃ s : State, (s.mode.mode ≠ 4) ∧ (trustCeiling (modBoot (fun b => { b with testEn := false }) s) = trustCeiling s)) ∧
    (∃ s : State, (s.mode.mode = 4) ∧ (trustCeiling (modBoot (fun b => { b with testEn := false }) s) = trustCeiling s)) ∧
    (∃ s : State, ∃ f, (s.mode.mode = 1) ∧ (wakes s f)) :=
  ⟨⟨running, by decide⟩,
    ⟨running, by decide⟩,
    ⟨running, 0, by decide⟩,
    ⟨{ booting 1 with boot := { step := 1, rising := true } }, by decide⟩,
    ⟨running, by decide⟩,
    ⟨inMode 1, by decide⟩,
    ⟨{ running with power := { seq := 1 } }, by decide⟩,
    ⟨{ running with power := { seq := 1 } }, by decide⟩,
    ⟨{ running with mode := { mode := 1, parked := true } }, by decide⟩,
    ⟨running, by decide⟩,
    ⟨{ running with power := { pend := some 800 } }, 800, by decide⟩,
    ⟨{ inMode 2 with power := { slew := true } }, by decide⟩,
    ⟨{ inMode 2 with power := { slew := true } }, by decide⟩,
    ⟨running, by decide⟩,
    ⟨{ booting 1 with boot := { step := 1, hot := true } }, by decide⟩,
    ⟨inMode 2, by decide⟩,
    ⟨inMode 1, by decide⟩,
    ⟨running, by decide⟩,
    ⟨running, by decide⟩,
    ⟨inMode 4, by decide⟩,
    ⟨{ inMode 1 with links := { mg := { wake := [(0, (true, crc16 [0], 1))] } } }, [0], by decide⟩⟩

/-- Every clause of TickEvents has a state and operands that meet what it assumes. -/
theorem witness_TickEvents :
    (∃ s : State, ∃ e, (almDue s (cal s + 1) (almAt s e)) ∧ (almHeld s (almAt s e) = false) ∧ ((almAt s e).action = 1 ∨ (almAt s e).action = 4)) ∧
    (∃ s : State, (ticking s = false)) ∧
    (∃ s : State, (ticking s) ∧ (({ (fireDue (cal (settleEvents (finishInput (deadline s))) + 1) (settleEvents (finishInput (deadline s)))) with pipe := { (fireDue (cal (settleEvents (finishInput (deadline s))) + 1) (settleEvents (finishInput (deadline s)))).pipe with cal := (cal (settleEvents (finishInput (deadline s))) + 1) }, clock := clockTo (tickStart { (fireDue (cal (settleEvents (finishInput (deadline s))) + 1) (settleEvents (finishInput (deadline s)))) with pipe := { (fireDue (cal (settleEvents (finishInput (deadline s))) + 1) (settleEvents (finishInput (deadline s)))).pipe with cal := (cal (settleEvents (finishInput (deadline s))) + 1) } } (cal (settleEvents (finishInput (deadline s))) + 1)) (fireDue (cal (settleEvents (finishInput (deadline s))) + 1) (settleEvents (finishInput (deadline s)))).clock, flt := { (fireDue (cal (settleEvents (finishInput (deadline s))) + 1) (settleEvents (finishInput (deadline s)))).flt with tickOk := true } }).mode.dormant = none) ∧ (cal (commit (cal (settleEvents (finishInput (deadline s))) + 1) (pairBoundary (cal (settleEvents (finishInput (deadline s))) + 1) (freeUnloaded ({ (fireDue (cal (settleEvents (finishInput (deadline s))) + 1) (settleEvents (finishInput (deadline s)))) with pipe := { (fireDue (cal (settleEvents (finishInput (deadline s))) + 1) (settleEvents (finishInput (deadline s)))).pipe with cal := (cal (settleEvents (finishInput (deadline s))) + 1) }, clock := clockTo (tickStart { (fireDue (cal (settleEvents (finishInput (deadline s))) + 1) (settleEvents (finishInput (deadline s)))) with pipe := { (fireDue (cal (settleEvents (finishInput (deadline s))) + 1) (settleEvents (finishInput (deadline s)))).pipe with cal := (cal (settleEvents (finishInput (deadline s))) + 1) } } (cal (settleEvents (finishInput (deadline s))) + 1)) (fireDue (cal (settleEvents (finishInput (deadline s))) + 1) (settleEvents (finishInput (deadline s)))).clock, flt := { (fireDue (cal (settleEvents (finishInput (deadline s))) + 1) (settleEvents (finishInput (deadline s)))).flt with tickOk := true } })))) = (cal (settleEvents (finishInput (deadline s))) + 1)) ∧ (tickStart (commit (cal (settleEvents (finishInput (deadline s))) + 1) (pairBoundary (cal (settleEvents (finishInput (deadline s))) + 1) (freeUnloaded ({ (fireDue (cal (settleEvents (finishInput (deadline s))) + 1) (settleEvents (finishInput (deadline s)))) with pipe := { (fireDue (cal (settleEvents (finishInput (deadline s))) + 1) (settleEvents (finishInput (deadline s)))).pipe with cal := (cal (settleEvents (finishInput (deadline s))) + 1) }, clock := clockTo (tickStart { (fireDue (cal (settleEvents (finishInput (deadline s))) + 1) (settleEvents (finishInput (deadline s)))) with pipe := { (fireDue (cal (settleEvents (finishInput (deadline s))) + 1) (settleEvents (finishInput (deadline s)))).pipe with cal := (cal (settleEvents (finishInput (deadline s))) + 1) } } (cal (settleEvents (finishInput (deadline s))) + 1)) (fireDue (cal (settleEvents (finishInput (deadline s))) + 1) (settleEvents (finishInput (deadline s)))).clock, flt := { (fireDue (cal (settleEvents (finishInput (deadline s))) + 1) (settleEvents (finishInput (deadline s)))).flt with tickOk := true } })))) (cal (settleEvents (finishInput (deadline s))) + 1) = (commit (cal (settleEvents (finishInput (deadline s))) + 1) (pairBoundary (cal (settleEvents (finishInput (deadline s))) + 1) (freeUnloaded ({ (fireDue (cal (settleEvents (finishInput (deadline s))) + 1) (settleEvents (finishInput (deadline s)))) with pipe := { (fireDue (cal (settleEvents (finishInput (deadline s))) + 1) (settleEvents (finishInput (deadline s)))).pipe with cal := (cal (settleEvents (finishInput (deadline s))) + 1) }, clock := clockTo (tickStart { (fireDue (cal (settleEvents (finishInput (deadline s))) + 1) (settleEvents (finishInput (deadline s)))) with pipe := { (fireDue (cal (settleEvents (finishInput (deadline s))) + 1) (settleEvents (finishInput (deadline s)))).pipe with cal := (cal (settleEvents (finishInput (deadline s))) + 1) } } (cal (settleEvents (finishInput (deadline s))) + 1)) (fireDue (cal (settleEvents (finishInput (deadline s))) + 1) (settleEvents (finishInput (deadline s)))).clock, flt := { (fireDue (cal (settleEvents (finishInput (deadline s))) + 1) (settleEvents (finishInput (deadline s)))).flt with tickOk := true } })))).clock.now) ∧ ((commit (cal (settleEvents (finishInput (deadline s))) + 1) (pairBoundary (cal (settleEvents (finishInput (deadline s))) + 1) (freeUnloaded ({ (fireDue (cal (settleEvents (finishInput (deadline s))) + 1) (settleEvents (finishInput (deadline s)))) with pipe := { (fireDue (cal (settleEvents (finishInput (deadline s))) + 1) (settleEvents (finishInput (deadline s)))).pipe with cal := (cal (settleEvents (finishInput (deadline s))) + 1) }, clock := clockTo (tickStart { (fireDue (cal (settleEvents (finishInput (deadline s))) + 1) (settleEvents (finishInput (deadline s)))) with pipe := { (fireDue (cal (settleEvents (finishInput (deadline s))) + 1) (settleEvents (finishInput (deadline s)))).pipe with cal := (cal (settleEvents (finishInput (deadline s))) + 1) } } (cal (settleEvents (finishInput (deadline s))) + 1)) (fireDue (cal (settleEvents (finishInput (deadline s))) + 1) (settleEvents (finishInput (deadline s)))).clock, flt := { (fireDue (cal (settleEvents (finishInput (deadline s))) + 1) (settleEvents (finishInput (deadline s)))).flt with tickOk := true } })))).pipe.running)) ∧
    (∃ s : State, ∃ col, (rampDone (rampAt s.sward col))) ∧
    (∃ s : State, ∃ t, ((tgetD s.sward.tiles t {}).state = 1)) ∧
    (∃ s : State, ∃ source, ∃ flow, ∃ x, ∃ f, (tget s.pipe.live.flowIn (flowKey source flow) = some x) ∧ (tget s.links.flows (flowKey source flow) = some f) ∧ (f.state = 2) ∧ ((f.missing.any fun m => decide (x.conceal ≤ m)))) ∧
    (∃ s : State, (s.pipe.running) ∧ (s.pipe.mid)) ∧
    (∃ s : State, ∃ slot, (isSilent s 3 slot)) ∧
    (∃ s : State, ∃ h, ∃ c, (chainAt s h = some c) ∧ (parkDue s c)) ∧
    (∃ s : State, ∃ r, ((s.pipe.recs.find? fun r => r.k % 1024 == 0 && decide (r.k + 3 < cal s || (r.k + 3 == cal s && !s.pipe.mid))) = some r) ∧ (paired s) ∧ ((∀ c, s.pair.check = some c → c.1 ≠ r.k))) ∧
    (∃ s : State, (s.pipe.running)) ∧
    (∃ s : State, (handDue s (cal s)) ∧ (s.mode.mode = 6)) ∧
    (∃ s : State, (takeDue s (cal s))) :=
  ⟨⟨{ running with clock := { alm := [(31, { action := 1, tick := true, next := some 1 })] } }, 31, by decide⟩,
    ⟨booting 1, by decide⟩,
    ⟨running, by decide⟩,
    ⟨{ running with sward := { ramps := [(4095, { on := true, pos := 1, len := 1 })] } }, 4095, by decide⟩,
    ⟨{ running with sward := { tiles := [(63, { state := 1 })] } }, 63, by decide⟩,
    ⟨{ running with pipe := { running := true, live := { flowIn := [(flowKey 5 0, {})] } }, links := { flows := [(flowKey 5 0, { state := 2, missing := [2] })] } }, 5, 0, {}, { state := 2, missing := [2] }, by decide⟩,
    ⟨{ running with pipe := { running := true, mid := true } }, by decide⟩,
    ⟨{ running with fixed := { silDst := 1000000 } }, 0, by decide⟩,
    ⟨{ running with eng := { chains := [(1, { st := 3, desc := { smallDesc with flags := 4, ins := [(0, 0)] }, ran := true, quiet := 1000000 })] } }, 1, { st := 3, desc := { smallDesc with flags := 4, ins := [(0, 0)] }, ran := true, quiet := 1000000 }, by decide⟩,
    ⟨{ twoNodes with pipe := { cal := 1027, recs := [{ k := 1024 }] } }, { k := 1024 }, by decide, by decide, by intro c h; cases h⟩,
    ⟨running, by decide⟩,
    ⟨{ twoNodes with pipe := { cal := 5 }, pair := { handover := some 5 } }, by decide⟩,
    ⟨{ shadow 3 with pair := { (shadow 3).pair with takeNow := true } }, by decide⟩⟩

/-- Every clause of TransportEvents has a state and operands that meet what it assumes. -/
theorem witness_TransportEvents :
    (∃ s : State, ∃ src, ∃ ret, ∃ bytes, (admits src ret bytes s)) ∧
    (∃ s : State, ∃ v, (2 ≤ s.mode.mode) ∧ (s.boot.halted = false) ∧ (s.win.reqEn) ∧ (((v % 65536 + 65536 - s.win.reqCons) % 65536) ≤ 2 ^ s.win.reqSize)) ∧
    (∃ s : State, ∃ v, (2 ≤ s.mode.mode) ∧ (s.boot.halted = false) ∧ (2 ^ s.win.reqSize < (v % 65536 + 65536 - s.win.reqCons) % 65536)) ∧
    (∃ s : State, ∃ v, (2 ≤ s.mode.mode) ∧ (s.boot.halted = false) ∧ (s.win.rplEn) ∧ (((v % 65536 + 65536 - s.win.rplDone) % 65536) ≤ 2 ^ s.win.rplSize) ∧ (s.win.waiting = []) ∧ (s.win.fetched = [])) ∧
    (∃ s : State, ∃ v, ∃ d : List Byte × Bool, ∃ p, (2 ≤ s.mode.mode) ∧ (s.boot.halted = false) ∧ (s.win.rplEn) ∧ ((v % 65536 + 65536 - s.win.rplDone) % 65536 = 1) ∧ (s.win.posted = []) ∧ (s.win.waiting = [p]) ∧ (s.win.fetched = []) ∧ (p.length ≤ le d.1 8 4) ∧ (d.2 = true)) ∧
    (∃ s : State, ∃ v, (2 ≤ s.mode.mode) ∧ (s.boot.halted = false) ∧ (2 ^ s.win.rplSize < (v % 65536 + 65536 - s.win.rplDone) % 65536)) ∧
    (∃ s : State, ∃ port, ∃ dest, ∃ ip, ∃ sport, ∃ bytes, (cpListens s) ∧ (udpOn s port) ∧ (udpTaken s port dest) ∧ (bytes.length ≤ 4140) ∧ (admits (udpSrc port) (ip, sport) bytes (if port = 0 then s else modAl (port - 1) (fun a => { a with recv := inc16 a.recv }) s))) ∧
    (∃ s : State, ∃ dest, ∃ ip, ∃ ident, ∃ off, ∃ more : Bool, ∃ bytes : List Byte, (cpListens s) ∧ (udpOn s 0) ∧ (udpTaken s 0 dest) ∧ (off ≠ 0 ∨ more) ∧ (off + bytes.length ≤ 4140) ∧ ((s.cp.reasm.find? (isReasm 0 ip ident)).isSome ∨ (s.cp.reasm.filter fun x => decide (x.port = .mg)).length < 8) ∧ (whole ({ ((s.cp.reasm.find? (isReasm 0 ip ident)).getD { port := .mg, ident := ip * 65536 + ident }) with got := if ((s.cp.reasm.find? (isReasm 0 ip ident)).getD { port := .mg, ident := ip * 65536 + ident }).got.any (fun g => g.1 == off) then ((s.cp.reasm.find? (isReasm 0 ip ident)).getD { port := .mg, ident := ip * 65536 + ident }).got else ((s.cp.reasm.find? (isReasm 0 ip ident)).getD { port := .mg, ident := ip * 65536 + ident }).got ++ [(off, bytes)], last := if more then ((s.cp.reasm.find? (isReasm 0 ip ident)).getD { port := .mg, ident := ip * 65536 + ident }).last else some (off + bytes.length) }) = none)) ∧
    (∃ s : State, ∃ node, ∃ bytes : List Byte, ∃ w, (cpListens s) ∧ ((w.req.src = .link → bytes.length ≤ 1440)) ∧ ((s.cp.relays.find? fun w => w.node == node && be w.req.params 6 2 == be bytes 2 2 && be w.req.params 8 2 == be bytes 4 2) = some w)) ∧
    (∃ s : State, ∃ acc, ∃ w, (cpListens s) ∧ ((s.cp.relays.find? fun w => w.req.acc == acc) = some w)) :=
  ⟨⟨{ running with sec := { trust := 3 } }, .pcie, (0, 0), packet trusting, admits_sealed (by decide) (by decide) (by decide)⟩,
    ⟨{ running with win := { reqEn := true } }, 0, by decide⟩,
    ⟨running, 65535, by decide⟩,
    ⟨{ running with win := { rplEn := true } }, 0, by decide⟩,
    ⟨{ running with win := { rplEn := true, waiting := [[]] } }, 1, (descBytes 0 5000 0, true), [], by decide⟩,
    ⟨running, 65535, by decide⟩,
    ⟨{ running with sec := { work := [(credIx 0 0, key32)] }, links := { mg := { flags := 3, ip := 7 } } }, 0, 0xFFFFFFFFFFFF, 0, 0, packet keyed, by decide, by decide, by decide, keyed_fits, a_keyed_request⟩,
    ⟨{ running with links := { mg := { flags := 3, ip := 7 } } }, 0xFFFFFFFFFFFF, 0, 0, 8, true, [], by decide⟩,
    ⟨{ running with cp := { started := true, relays := [{ req := rq 0x0107, node := 5 }] } }, 5, [], { req := rq 0x0107, node := 5 }, by decide⟩,
    ⟨{ running with cp := { started := true, relays := [{ req := { rq 0x0107 with acc := 4 } }] } }, 4, { req := { rq 0x0107 with acc := 4 } }, by decide⟩⟩

/-! ## What the statements on engines assume -/

/-- An engine that runs the chain of one bundle within a tick, with a pointer out of line in P0. -/
def engine : State :=
  { running with
    pipe := { running := true, cal := 9, mid := true },
    eng := {
      chains := [(1, { st := 3, desc := { smallDesc with codeBytes := 24 }, engine := 0, first := some 0 })],
      engines := [(0, { pst := 1, cur := 1, todo := [1], regs := { p := [(0, { addr := 3 })] } })] } }

/-- Operands of an M operation: VSATN needs a width of at least 1. -/
def anyM (op : Nat) : MArgs := if op = 0x0F then { mi := 1 } else {}

/-- Every operation of VectorOperations executes, with its predicate on and off. -/
theorem witness_VectorOperations :
    ∀ op ∈ [0x01, 0x02, 0x03, 0x04, 0x05, 0x06, 0x07, 0x08, 0x09, 0x0A, 0x0B, 0x0C, 0x0D, 0x0E, 0x0F, 0x11, 0x1F, 0x2A, 0x2B, 0x2D, 0x2E,
        0x40, 0x42, 0x43, 0x44], ∀ off ∈ [false, true],
      (let b : Bundle := { m := { op := op, x := { anyM op with pe := off } } }
       executes 0 b engine && completes 0 engine (lDoes 0 b engine) && mActs 0 b engine == !off) := by decide

/-- Every operation of ScalarAndAccumulatorOperations executes, with its predicate on and off. -/
theorem witness_ScalarAndAccumulatorOperations :
    ∀ op ∈ [0x10, 0x18, 0x19, 0x1A, 0x1B, 0x1C, 0x1D, 0x1E, 0x2C, 0x30, 0x31, 0x32, 0x33, 0x34, 0x35, 0x36, 0x37, 0x38, 0x39, 0x3B, 0x3C,
        0x41], ∀ off ∈ [false, true],
      (let b : Bundle := { m := { op := op, x := { anyM op with pe := off } } }
       executes 0 b engine && completes 0 engine (lDoes 0 b engine) && mActs 0 b engine == !off) := by decide

/-- Every bundle of FilterAndImmediateOperations executes, and FIRS with all its words in the state block. -/
theorem witness_FilterAndImmediateOperations :
    executes 0 {} engine ∧ executes 0 { fmt := 1, m := { op := 0x45, x := {} }, imm := 2 ^ 31 - 1 } engine ∧
    executes 0 { fmt := 1, m := { op := 0x3A, x := {} }, imm := 0 } engine ∧
    (∀ op ∈ [0x3A, 0x28],
      (let b : Bundle := { m := { op := op, x := {} } }
       executes 0 b engine && completes 0 engine (lDoes 0 b engine))) ∧
    (let b : Bundle := { m := { op := 0x29, x := { mb := 1 } } }
     executes 0 b engine && completes 0 engine (lDoes 0 b engine) && mActs 0 b engine
       && (List.range 8).all fun i => within (chainOf 0 engine) (advance (gp (regsOf 0 engine) 1) (4 * i)).addr.toNat 4 4
            && !meetsBad (chainOf 0 engine) [] (advance (gp (regsOf 0 engine) 1) (4 * i)).addr.toNat 4) := by decide

/-- Every operation of LoadAndStoreOperations executes, at the first and at the last vector of the state block. -/
theorem witness_LoadAndStoreOperations :
    (∀ op ∈ [0x01, 0x02, 0x03, 0x04, 0x05, 0x06, 0x07, 0x08, 0x09, 0x0A, 0x0B, 0x0E, 0x0F, 0x25],
      (let b : Bundle := { l := { op := op, x := { lp := if op = 0x0E ∨ op = 0x25 then 0 else 1 } } }
       executes 0 b engine && completes 0 engine (mDoes 0 b engine) && lActs 0 b engine)) ∧
    within (chainOf 0 engine) 0 32 32 ∧ within (chainOf 0 engine) 224 32 32 ∧ within (chainOf 0 engine) 128 128 32 := by decide

/-- Every window operation executes. -/
theorem witness_WindowOperations :
    ∀ op ∈ List.range 32, 0x10 ≤ op → (let b : Bundle := { l := { op := op, x := {} } }
      executes 0 b engine && completes 0 engine (mDoes 0 b engine) && !(lActs 0 b engine && b.l.x.late)) := by decide

/-- Every clause of ControlOperations has a state and operands that meet what it assumes. -/
theorem witness_ControlOperations :
    (∀ op ∈ [0x0C, 0x0D, 0x21], executes 0 { fmt := 2, l := { op := op, x := {} }, imm := 16 } engine) ∧
    (∀ op ∈ [0x20, 0x24, 0x27], (let b : Bundle := { l := { op := op, x := {} } }
      executes 0 b engine && completes 0 engine (mDoes 0 b engine))) ∧
    (let b : Bundle := { l := { op := 0x22, x := { lx := 1 } } }
     executes 0 b engine && loopOk (engAt (takeEdges 0 engine) 0) 0 1 && completes 0 engine (mDoes 0 b engine)) ∧
    (let b : Bundle := { fmt := 2, l := { op := 0x23, x := { lx := 1 } }, imm := 2 }
     executes 0 b engine && loopOk (engAt (takeEdges 0 engine) 0) 0 1) ∧
    stageTick (takeEdges 0 engine) (chainOf 0 engine).desc.stage = some 8 ∧
    (∃ s : State, ∃ x rest, engRuns s 0 ∧ (engAt s 0).loops = x :: rest ∧ (engAt s 0).pc = x.stop ∧ x.left ≤ 1) ∧
    (∃ s : State, ∃ b, (engAt s 0).stalled = some b) ∧ (∃ s : State, blockMayArrive s 0) :=
  ⟨by decide, by decide, by decide, by decide, by decide,
   ⟨{ engine with eng := { engines := [(0, { cur := 1, pc := 16, loops := [{ lc := 0, start := 8, stop := 16, left := 1 }] })] } },
    { lc := 0, start := 8, stop := 16, left := 1 }, [], by decide⟩,
   ⟨{ engine with eng := { engines := [(0, { cur := 1, stalled := some {} })] } }, {}, by decide⟩,
   ⟨{ engine with eng := { engines := [(0, { cur := 1, swapWait := true })] } }, by decide⟩⟩

/-! ## What the statements from the rules assume -/

/-- A node whose Command Processor listens, with a request in P1. -/
def queued : State := { running with cp := { started := true, p1 := [rq 0x0101], p3 := [rq 0x0130], p3Wait := 63 } }

theorem witness_StepTakesTheFrontCommand : ∃ c rest, ∃ s : State, s.pending = c :: rest :=
  ⟨.tickBoundaryLate, [], { running with pending := [.tickBoundaryLate] }, by decide⟩

/-- At 63 executions P1 comes first; at 64 it is P3's turn. -/
theorem witness_QueueOrder :
    (queued.pending = [] ∧ cpListens queued ∧ (∃ i, instrOf (rq 0x0101) = some i) ∧
      ((64 ≤ queued.cp.p3Wait ∧ ∃ l, queued.cp.p3 = rq 0x0101 :: l)
        ∨ (queued.cp.p3Wait < 64 ∨ queued.cp.p3 = []) ∧ ((∃ l, queued.cp.p0 = rq 0x0101 :: l)
          ∨ queued.cp.p0 = [] ∧ ((∃ l, queued.cp.p1 = rq 0x0101 :: l)
            ∨ queued.cp.p1 = [] ∧ ((∃ l, queued.cp.p2 = rq 0x0101 :: l) ∨ queued.cp.p2 = [] ∧ ∃ l, queued.cp.p3 = rq 0x0101 :: l))))) ∧
    (∃ s : State, s.pending = [] ∧ cpListens s ∧ (∃ i, instrOf (rq 0x0130) = some i) ∧ 64 ≤ s.cp.p3Wait ∧ ∃ l, s.cp.p3 = rq 0x0130 :: l) :=
  ⟨⟨by decide, by decide, ⟨_, rfl⟩, .inr ⟨.inl (by decide), .inr ⟨by decide, .inl ⟨[], by decide⟩⟩⟩⟩,
   ⟨{ queued with cp := { queued.cp with p3Wait := 64 } }, by decide, by decide, ⟨_, rfl⟩, by decide, [], by decide⟩⟩

/-- An absent unit, a mode that does not allow, a wrong length, a first check that fails, and a guarded change without FORCE. -/
theorem witness_RefusedOperations :
    (let r := rq 0x0105 [0, 0, 0, 0]
     interrupting (dequeue r twoNodes) r && guardedMode (dequeue r twoNodes) && !bit r.flags 3) ∧
    (let s : State := { running with part := { variant := .s } }
     let r := rq 0x0702
     !(interrupting (dequeue r s) r && guardedMode (dequeue r s) && !bit r.flags 3) && absentUnit (dequeue r s) r) ∧
    (let r := rq 0x0B0F (List.replicate 14 0)
     !absentUnit (dequeue r running) r && (planFaultInject (dequeue r running) r).len && !opMode (dequeue r running) r) ∧
    (let r := rq 0x0101 [0]
     !absentUnit (dequeue r running) r && !wantsMirror (dequeue r running) r && !(planSysGetCaps (dequeue r running) (asRun r running)).len) ∧
    (let r := rq 0x0131 [20, 0, 0, 0]
     let p := planHeathSetPolicy (dequeue r running) (asRun r (dequeue r running))
     !absentUnit (dequeue r running) r && opMode (dequeue r running) r && !wantsMirror (dequeue r running) r && p.len
       && ((headChecks (dequeue r running) (asRun r (dequeue r running)) ++ p.checks).find? fun k => !k.1)
            == some (false, BAD_PARAM, 0)) ∧
    (∃ s : State, (let r := { rq 0x0106 [0, 0, 0, 0] with applyAt := 100 }
      accepts 0x0106 planSysMuteAll r s && !s.gate.frozen
        && decide (64 < (pendTicks (cal (dequeue r s)) (s.gate.staged ++ [stagedOf (dequeue r s) (asRun r (dequeue r s))])).length))) :=
  ⟨by decide, by decide, by decide, by decide, by decide,
   ⟨{ running with gate := { staged := (List.range 64).map fun i => { req := rq 0x0106 [0, 0, 0, 0], due := i + 5 } } }, by decide⟩⟩

theorem witness_ApplyAtLimit :
    (let r := { rq 0x0106 [0, 0, 0, 0] with applyAt := 16777217 }
     isStaged r.opcode && !(interrupting (dequeue r running) r && guardedMode (dequeue r running) && !bit r.flags 3)
       && !absentUnit (dequeue r running) r && opMode (dequeue r running) r && !wantsMirror (dequeue r running) r
       && (planSysMuteAll (dequeue r running) (asRun r (dequeue r running))).len
       && decide (r.applyAt < 2 ^ 63) && decide (cal running + 16777216 < r.applyAt)) := by decide

theorem witness_MirroredCopyComesFirst :
    (let r := rq 0x0106 [0, 0, 0, 0]
     let u := dequeue r twoNodes
     !(interrupting u r && guardedMode u && !bit r.flags 3) && !absentUnit u r && (planSysMuteAll u r).len && opMode u r && paired u
       && u.mode.mode == 6 && u.pair.state == 1 && r.src != .pair && isMirrored r.opcode) := by decide

theorem witness_PredicatedSlots :
    (let b : Bundle := { m := { op := 0x01, x := { pe := true } } }
     executes 0 b engine && !mActs 0 b engine && completes 0 engine (lDoes 0 b engine)) ∧
    (let b : Bundle := { l := { op := 0x01, x := { pe := true } } }
     executes 0 b engine && !lActs 0 b engine && completes 0 engine (mDoes 0 b engine)) ∧
    (∀ op ∈ [0x0C, 0x0D, 0x21], (let b : Bundle := { fmt := 2, l := { op := op, x := { pe := true } } }
      executes 0 b engine && !lActs 0 b engine)) ∧
    (∀ fmt ∈ [0, 1], (let b : Bundle := { fmt := fmt, m := { op := 0x3A, x := { pe := true } } }
      executes 0 b engine && !mActs 0 b engine && completes 0 engine (lDoes 0 b engine))) ∧
    (let b : Bundle := { fmt := 1, m := { op := 0x45, x := { pe := true } } }
     executes 0 b engine && !mActs 0 b engine) := by decide

theorem witness_IllegalBundles :
    (engRuns engine 0 ∧ bundleOk { m := { op := 0x01, x := { ma := 32 } } } = false) ∧
    (let s := modEng 0 (fun g => { g with pc := 24 }) engine
     engRuns s 0 && decide ((chainOf 0 s).desc.codeBytes < (engAt (takeEdges 0 s) 0).pc + 8)) := by decide

/-- A vector just past the block, a vector out of line, and a word of FIRS out of line. -/
theorem witness_OutOfBlockAccesses :
    (let b : Bundle := { l := { op := 0x01, x := { lp := 1, lx := 8 } } }
     executes 0 b engine && lActs 0 b engine && completes 0 engine (mDoes 0 b engine) && decide (256 < 32 * signed 13 8 + 32)) ∧
    (let b : Bundle := { l := { op := 0x02, x := {} } }
     executes 0 b engine && lActs 0 b engine && completes 0 engine (mDoes 0 b engine) && (gp (regsOf 0 engine) 0).addr == 3#18) ∧
    (let b : Bundle := { m := { op := 0x29, x := {} } }
     executes 0 b engine && mActs 0 b engine && completes 0 engine (lDoes 0 b engine)
       && decide ((advance (gp (regsOf 0 engine) 0) (4 * 7)).addr.toNat % 4 ≠ 0)) := by decide

theorem witness_PointerAdvance : ∃ p q : Ptr, p.len ≠ 0 ∧ q.len = 0 := ⟨{ addr := 0, base := 0, len := 64 }, { addr := 0, base := 0, len := 0 }, by decide⟩

theorem witness_TickEntryRegisters : (engAt engine 0).todo = 1 :: [] := by decide

theorem witness_StoresAndPoison :
    (0 ≤ 8 * 0 ∧ 8 * 0 + 8 ≤ 0 + (List.replicate 8 (0 : Byte)).length) ∧ ¬ (4 ≤ 8 * 0 ∧ 8 * 0 + 8 ≤ 4 + (List.replicate 8 (0 : Byte)).length) ∧
    within (chainOf 0 engine) 224 32 32 := by decide

theorem witness_MemoryBytes : ∃ s t : State, Memory.wf s.mem.cells ∧ Memory.wf t.mem.cells ∧ ∀ i, memRead s i = memRead t i :=
  ⟨State.reset, running, by decide, by decide, fun _ => rfl⟩

theorem witness_NodeContribution : (0 < 1 ∧ 1 < 65536) ∧ (0 < 65535 ∧ 65535 < 65536) := by decide

theorem witness_RampCodes :
    (1 ≤ 1 ∧ 1 ≤ 4 ∧ 4 ≤ 4) ∧
    (∃ s : State, (rampAt s.sward 0).on ∧ (rampAt s.sward 0).len ≤ (rampAt s.sward 0).pos ∧ tget s.sward.nodes 12 = some { tgt := 1 }) ∧
    (rampAt running.sward 0).on = false :=
  ⟨by decide, ⟨{ running with sward := { ramps := [(0, { on := true, pos := 4, len := 4 })], nodes := [(12, { tgt := 1 })] } }, by decide⟩,
   by decide⟩

theorem witness_CalendarCount : 0 < 1 ∧ 0 < 32 := by decide

theorem witness_SampleRange :
    (sat (2 ^ 31)).toInt = 2 ^ 31 - 1 ∧ (sat (-2 ^ 31)).toInt = -(2 ^ 31 - 1) ∧ (sat (2 ^ 31 - 1)).toInt = 2 ^ 31 - 1 := by decide

theorem witness_SwardAfterReset :
    ∃ s : State, s.sward.bound = [] ∧ tget s.sward.nodes 12 = some { tgt := 1 } ∧ ∃ g ∈ s.gate.staged, g.req.opcode / 256 = 2 :=
  ⟨{ running with sward := { nodes := [(12, { tgt := 1 })] }, gate := { staged := [{ req := rq 0x0201, due := 5 }] } }, by decide⟩

theorem witness_PolicyAfterReset : (3 = 3 ∨ 3 = 4) ∧ (4 = 3 ∨ 4 = 4) := by decide

theorem witness_LocalClockCycles :
    (∃ res, res < 65536) ∧ (∃ w : Int, -500000000 ≤ w ∧ w ≤ 500000000)
    ∧ (∃ (t : Nat) (k : Clock), -500000000 ≤ k.w ∧ k.w ≤ 500000000 ∧ k.now ≤ t) :=
  ⟨⟨65535, by decide⟩, ⟨-500000000, by decide⟩, ⟨1577836837000000000, {}, by decide⟩⟩

theorem witness_FirstErrorAndResetCause :
    (∃ s : State, s.flt.ff.valid = false) ∧ (∃ s : State, s.flt.ff.valid ∧ s.flt.ff.cls < 3) ∧ (∃ s : State, s.flt.ff.valid ∧ 2 ≤ s.flt.ff.cls) ∧
    awake running ∧ 15 < 16 :=
  ⟨⟨running, by decide⟩, ⟨{ running with flt := { ff := { valid := true, cls := 2 } } }, by decide⟩,
   ⟨{ running with flt := { ff := { valid := true, cls := 2 } } }, by decide⟩, by decide, by decide⟩

theorem witness_QuietIsKept : ∃ s t : State, Quiet s ∧ step s = .next t :=
  ⟨{ running with pending := [.tickBoundaryLate] }, _, ⟨rfl, rfl⟩, rfl⟩

theorem witness_BundleWords :
    (∃ b, bundleOk b ∧ bundlePlain b) ∧ (∃ w, w < 2 ^ 64 ∧ bundleOk (bundleOf w)) :=
  ⟨⟨{ fmt := 2, l := { op := 0x21, x := {} }, imm := 2 ^ 31 - 1 }, by decide⟩, ⟨0x2002820020000000, by decide⟩⟩

/-! ## Examples worked in the spec -/

/-- 04, the worked chain: bundles 9, 10 and 11. -/
theorem test_worked_bundles :
    bundleOf 0x2002820020000000 = { m := { op := 0x40, x := { md := 10, ma := 1 } }, l := { op := 0x10, x := {} } } ∧
    bundleOf 0x1502940020070001 = { m := { op := 0x2A, x := { md := 10, ma := 10 } }, l := { op := 0x10, x := { ld := 7, lx := 1 } } } ∧
    bundleOf 0x1400402000000000 = { m := { op := 0x28, x := { md := 1, mb := 2 } } } := by decide

/-- 13 R514 and 16 R622: the checks of the string 123456789. -/
theorem test_checks : crc32c ((List.range 9).map fun i => BitVec.ofNat 8 (0x31 + i)) = 0xE3069283 ∧
    crc16 ((List.range 9).map fun i => BitVec.ofNat 8 (0x31 + i)) = 0x29B1 := by decide

/-- 03, the example of R93: the codes of sample ticks 1000 to 1003. -/
theorem test_ramp_example :
    liveCode { on := true, pos := 1, len := 4 } { cur := 0xB600, tgt := 0xC000 } = 0xB880 ∧
    liveCode { on := true, pos := 2, len := 4 } { cur := 0xB600, tgt := 0xC000 } = 0xBB00 ∧
    liveCode { on := true, pos := 1, len := 2 } { cur := 0xBB00, tgt := 0xAC00 } = 0xB380 ∧
    liveCode { on := true, pos := 2, len := 2 } { cur := 0xBB00, tgt := 0xAC00 } = 0xAC00 := by decide

/-- 06, the compressor example: 10 dB over at a ratio of 4:1 asks for 1920/256 dB. -/
theorem test_compressor_slope : slopeOf { ratio := 0x0400 } = 49152 ∧ 2560 * slopeOf { ratio := 0x0400 } = 1920 * 65536 := by decide

/-- 06 R258: the default threshold of -90 dBFS. -/
theorem test_silence_level : silLevel (-23040) = 265 := by decide +kernel

/-- 09, the example of R347: stations at 693, 909 and 1089 kHz. -/
theorem test_station_avoidance : freqScore [693, 909, 1089] 5 = 107 ∧ freqScore [693, 909, 1089] 2 = 13 := by decide

/-- 19, the example of record 100,000: four 12-bit codes. -/
theorem test_meter_codes : packCodes [2483, 2547, 2762, 2479] = [0x9B, 0x39, 0xF3, 0xAC, 0xA9, 0xAF] := by decide

/-- 13, the worked exchange: the fields of the request. -/
theorem test_worked_request :
    (let r := parseReq .mg (0, 0) ([0x02, 0x02, 0x02, 0x01, 0x00, 0x17, 0x00, 0x0C, 0x00, 0x00, 0x1A, 0x2B, 0x00, 0x03, 0x00, 0x00,
      0x00, 0x00, 0x00, 0x12, 0x34, 0x56, 0x78, 0x30, 0x00, 0x2F, 0x00, 0x01, 0x00, 0x0C, 0x02, 0xBC, 0xC0, 0x00, 0x04, 0x00]
      ++ List.replicate 20 0)
     r.opcode = 0x0201 ∧ r.tag = 0x17 ∧ r.seq = 0x1A2B ∧ r.slot = 3 ∧ r.applyAt = 0x1234567830 ∧ par r 0 2 = 47 ∧ r.params.length = 12) := by
  decide

/-- What holds of the next state. -/
def nextHas (x : Answer) (p : State → Bool) : Bool := match x with | .next t => p t | _ => false

/-- 13, the same request once accepted: one record in staging for that tick, and the gains as they were. -/
theorem test_worked_staging :
    nextHas (exec (.swardSetNodes { rq 0x0201 [0, 47, 0, 1, 0, 12, 2, 0xBC, 0xC0, 0, 4, 0] with
        flags := 2, role := 0, slot := 3, applyAt := 0x1234567830 })
      { running with pipe := { running := true, cal := 0x1234567800 } })
      fun t => t.gate.staged.map (·.due) == [0x1234567830] && t.sward == {} := by decide

/-! ## Terms that are not well-formed -/

theorem test_ill_formed_requests :
    (Instr.sysGetCaps (rq 0x0102)).wf = false ∧ (Instr.sysGetCaps { rq 0x0101 with ver := 3 }).wf = false ∧
    (Instr.sysGetCaps { rq 0x0101 with flags := 256 }).wf = false ∧ (Instr.sysGetCaps { rq 0x0101 with tag := 65536 }).wf = false ∧
    (Instr.sysGetCaps { rq 0x0101 with seq := 2 ^ 32 }).wf = false ∧ (Instr.sysGetCaps { rq 0x0101 with role := 3 }).wf = false ∧
    (Instr.sysGetCaps { rq 0x0101 with slot := 8 }).wf = false ∧ (Instr.sysGetCaps { rq 0x0101 with applyAt := 2 ^ 64 }).wf = false ∧
    (Instr.sysGetCaps { rq 0x0101 with crc := 2 ^ 32 }).wf = false ∧ (Instr.sysGetCaps (rq 0x0101)).wf = true := by decide

theorem test_ill_formed_bundles :
    mArgsOk { pq := 4 } = false ∧ mArgsOk { md := 32 } = false ∧ mArgsOk { ma := 32 } = false ∧ mArgsOk { mb := 32 } = false ∧
    mArgsOk { mi := 32 } = false ∧ lArgsOk { pq := 4 } = false ∧ lArgsOk { ld := 32 } = false ∧ lArgsOk { lp := 8 } = false ∧
    lArgsOk { lx := 8192 } = false ∧ mSlotOk { op := 128 } = false ∧ lSlotOk { op := 64 } = false ∧ immOk (some (2 ^ 31)) = false ∧
    (Instr.vadd 192 {} {}).wf = false ∧ (Instr.vadd 0 { md := 32 } {}).wf = false ∧ (Instr.vadd 0 {} { op := 64 }).wf = false := by decide

theorem test_ill_formed_operands :
    (Instr.fabricRead { m := 32 }).wf = false ∧ (Instr.fabricRead { addr := 2 ^ 40 }).wf = false ∧ (Instr.fabricRead { n := 17 }).wf = false ∧
    (Instr.rampEnd 4096).wf = false ∧ (Instr.tileWakeDone 64).wf = false ∧ (Instr.engineWakeDone 192).wf = false ∧
    (Instr.heathIdleTimeout 20).wf = false ∧ (Instr.linkDown 4).wf = false ∧ (Instr.almanacFire 32).wf = false ∧
    (Instr.missingEdge 13 true).wf = false ∧ (Instr.driveFail 4).wf = false ∧ (Instr.spUnderrun { port := 8 }).wf = false ∧
    (Instr.registerWrite true 32 0 0).wf = false ∧ (Instr.registerWrite true 0 0 (2 ^ 32)).wf = false ∧
    (Instr.ptpEventMessage 5 0 [] { dest := 0, udp := true, body := [] }).wf = false ∧ (Instr.powerOnReset 4 0 false).wf = false ∧ (Instr.mirrorResend (2 ^ 32)).wf = false := by
  decide

end Sys2Proof.Tests
end

namespace Sys2Proof.Proofs

open Sys2Proof.Machine Sys2Proof.Safety Sys2Proof.Laws

/-! ## The refusals that come before a request's parameters

They fall in the order of 13 R520 steps 8 and 9 and of the operation's own mode rule (13 R525), each judged on the state in which the
request has left its queue. -/

section
variable {op : Nat} {plan : State → Req → Plan} {r : Req} {s : State}

theorem execOp_unforced (ho : r.opcode = op)
    (hc : (interrupting (dequeue r s) r && guardedMode (dequeue r s) && !bit r.flags 3) = true) :
    execOp op plan r s = finish r MODE_DENIED 0 0 false false [] (dequeue r s) := by
  unfold execOp
  simp only [with_opcode ho, hc, if_true]

theorem execOp_absent (ho : r.opcode = op)
    (hc : (interrupting (dequeue r s) r && guardedMode (dequeue r s) && !bit r.flags 3) = false)
    (ha : absentUnit (dequeue r s) r = true) :
    execOp op plan r s = finish r UNIT_ABSENT 0 0 false false [] (dequeue r s) := by
  unfold execOp
  simp only [with_opcode ho, hc, ha, Bool.false_eq_true, if_false, if_true]

theorem execOp_wrong_mode (ho : r.opcode = op)
    (hc : (interrupting (dequeue r s) r && guardedMode (dequeue r s) && !bit r.flags 3) = false)
    (ha : absentUnit (dequeue r s) r = false) (hl : (plan (dequeue r s) r).len = true) (hm : opMode (dequeue r s) r = false) :
    execOp op plan r s = finish r MODE_DENIED 0 0 false false [] (dequeue r s) := by
  unfold execOp
  simp only [with_opcode ho, hc, ha, hl, hm, Bool.not_false, Bool.and_true, Bool.false_eq_true, if_false, if_true]

/-! ## Accepted operations and the room in the Commit Gate -/

theorem find?_failing_eq_none {l : List (Bool × Nat × Nat)} (h : l.all (·.1) = true) : l.find? (fun k => !k.1) = none := by
  simpa [List.find?_eq_none, List.all_eq_true] using h

/-- An accepted operation is carried out on the state in which its request has left its queue, and no check of it fails. -/
theorem execOp_of_accepts (h : accepts op plan r s = true) :
    r.opcode = op
    ∧ execOp op plan r s = carryOut (asRun r (dequeue r s)) false (plan (dequeue r s) (asRun r (dequeue r s))) (dequeue r s)
    ∧ (plan (dequeue r s) (asRun r (dequeue r s))).len = true
    ∧ (headChecks (dequeue r s) (asRun r (dequeue r s)) ++ (plan (dequeue r s) (asRun r (dequeue r s))).checks).find?
        (fun k => !k.1) = none := by
  simp only [accepts, Bool.and_eq_true, beq_iff_eq, Bool.not_eq_true'] at h
  obtain ⟨⟨⟨⟨⟨⟨⟨ho, hc⟩, ha⟩, hm⟩, hw⟩, hl⟩, hk⟩, _⟩ := h
  exact ⟨ho, execOp_through ho hc ha (.inr hm) hw, hl, find?_failing_eq_none hk⟩

/-- The record's tick alone decides whether there is room for it (02 R71), not whether it is mirrored or forced. -/
theorem gateRoom_eq_false_of_ticks {u : State} {g : Staged} (mirr forced : Bool)
    (h : 64 < (pendTicks (cal u) (u.gate.staged ++ [g])).length) :
    gateRoom u { g with mirr := mirr, forced := forced } = false := by
  simp only [pendTicks, List.foldl_append] at h
  simpa [gateRoom, pendTicks, List.foldl_append] using h

/-- An accepted staged operation whose tick would be the 65th that waits answers BUSY and is not staged (02 R71). -/
theorem execOp_gate_full (h : accepts op plan r s = true) (hs : isStaged op = true)
    (hg : 64 < (pendTicks (cal (dequeue r s)) ((dequeue r s).gate.staged ++ [stagedOf (dequeue r s) (asRun r (dequeue r s))])).length) :
    execOp op plan r s = finish (asRun r (dequeue r s)) BUSY 0 0 false false [] (dequeue r s) := by
  obtain ⟨rfl, hx, hl, hk⟩ := execOp_of_accepts h
  rw [hx]
  exact carryOut_full hl hk hs (.inr (gateRoom_eq_false_of_ticks _ _ hg))

end

/-- Settles O3: every operation of the table is its plan executed, and the refusals fall in the order unforced change, absent unit, mode,
length, first failing check, full gate. -/
theorem refusedOperations : Obligations.RefusedOperations := by
  unfold Obligations.RefusedOperations
  constructor
  · intro x hx r s ho
    dsimp only
    simp only [exec_operation x hx, Bool.not_eq_true']
    refine ⟨fun hc => ?_, fun hc ha => ?_, fun hc ha hl hm => ?_, fun hc ha hm hw hl => ?_, fun st off hc ha hm hw hl hk => ?_⟩
    · rw [execOp_unforced ho hc]
    · rw [execOp_absent ho hc ha]
    · rw [execOp_wrong_mode ho hc ha hl hm]
    · rw [execOp_through ho hc ha hm hw, carryOut_length hl]
    · rw [execOp_through ho hc ha hm hw, carryOut_check hl hk]
  · intro x hx hs r s h _ hg
    rw [exec_operation x hx, execOp_gate_full h hs hg]

end Sys2Proof.Proofs

namespace Sys2Proof.Proofs

open Sys2Proof.Machine Sys2Proof.Safety

/-! ## Events of the Fault Collector and of the tamper sources

A command that carries out an event settles `if guard then effect else s`, which is `ends (if guard then effect else s)` by definition. So
where the guard is met it answers `ends effect`, and `congrArg ends (if_pos guard)` says so; an event with several outcomes has a lemma of
its own that says which of them the state decides. -/

theorem rng_eq_true {lo hi v : Nat} : rng lo hi v = true ↔ lo ≤ v ∧ v ≤ hi := by
  simp [rng]

/-- The next occurrence of an injection raises its fault, with one occurrence fewer left (16 R627). -/
theorem exec_faultInjectFire {x : Inject} {s : State} (hx : s.flt.inject = some x) (hm : s.mode.mode = 4) (hl : 0 < x.left) :
    exec .faultInjectFire s = ends (raiseX x.id x.detail {} true x.allow
      { s with flt := { s.flt with inject := if x.left = 1 then none else some { x with left := x.left - 1 } } }) := by
  have hgo : ¬ (s.mode.mode ≠ 4 ∨ x.left = 0) := by omega
  change execFaultInjectFire s = _
  unfold execFaultInjectFire
  rw [hx]
  exact congrArg ends (if_neg hgo)

/-- Settles O49: every clause assumes its event's guard, or its event has none; a firing injection goes by its lemma. -/
theorem faultEvents : Obligations.FaultEvents := by
  unfold Obligations.FaultEvents
  refine ⟨fun s hf hm => ?exit, fun x s hx hm hl => exec_faultInjectFire hx hm hl, fun s hn hm => ?up, fun s hn hm => ?down,
    fun s hm hh => ?mgmt, fun s hm hh hc => ?cp, fun s => rfl, fun s => rfl, fun s => rfl, fun src s hm h1 h3 => ?tamper,
    fun src s h1 h3 => ?rearm⟩
  case exit => exact congrArg ends (if_pos (by simp [hf, hm]))
  case up | down => exact congrArg ends (if_pos ⟨hn, hm⟩)
  case mgmt => exact congrArg ends (if_pos ⟨hm, by simp [hh]⟩)
  case cp => exact congrArg ends (if_pos ⟨hm, by simp [hh], by simpa using hc⟩)
  case tamper => exact congrArg ends (if_pos ⟨hm, rng_eq_true.mpr ⟨h1, h3⟩⟩)
  case rearm => exact congrArg ends (if_pos (rng_eq_true.mpr ⟨h1, h3⟩))

/-! ## Events of bring-up and of the Plane reset -/

/-- Where bring-up waits in step 8 for CLK_MODE, the end of the wait starts the data plane, in Free run without lock (11 R474). -/
theorem exec_clkModeTimeout {s : State} (hs : atStep s 8 = true) (hw : s.boot.waiting = true) :
    exec .clkModeTimeout s = ends (if clockReady s then startNode s
      else startNode (enterFreeRun { s with clock := { s.clock with unset := true } })) :=
  congrArg ends (if_neg (by simp [hs, hw]))

/-- A trial's time ends in a start mode other than Settings-Limp: a Severe fault within it lets it start over (17 R650). -/
theorem exec_trialHealthy {s : State} (ht : trialRuns s = true) (hm : 4 ≤ s.mode.mode) (hl : s.mode.limp = false) :
    exec .trialHealthy s = ends (if s.boot.badSev then modBoot (fun b => { b with badSev := false }) s
      else modBoot (fun b => { b with healthy := true, tries := 0 }) s) :=
  congrArg ends (if_pos (by simp [ht, hm, hl]))

/-- After step 1 the options are loaded at Cold depth or while they have not been loaded yet; else the straps are sampled (17 R648). -/
theorem exec_crystalStartupDone {s : State} (hs : (bringingUp s && s.boot.step == 1 && !s.boot.pinLow && !s.boot.hot) = true) :
    exec .crystalStartupDone s = ends (bringUpGate (if (s.boot.depth == depthCold || !s.win.capsOn) = true
      then modBoot (fun b => { b with step := 2 }) s else sampleStraps s)) :=
  congrArg ends (if_pos hs)

/-- Settles O45: every clause assumes its event's guard; events with several outcomes go by their lemmas. -/
theorem bringUpEvents : Obligations.BringUpEvents := by
  unfold Obligations.BringUpEvents
  refine ⟨fun s hs hd => ?crystalCold, fun s hs hd hc => ?crystalWarm, fun s hs => ?options, fun s hs => ?pll, fun s hs => ?trained,
    fun s hs => ?untrained, fun s hs => ?rom, fun s hs => ?settings, fun s hs hc => ?startReady, fun s hs hc => ?startWaits,
    fun s hs hw hc => ?timeoutFree, fun s ht hm hl hb => ?healthy, fun s ht hm hl hb => ?severe, fun s hp hm => ?planeReset,
    fun s hp => ?planeRestart, fun s hs hw hc => ?timeoutReady⟩
  case crystalCold => rw [exec_crystalStartupDone hs, if_pos (by simp [hd])]
  case crystalWarm => rw [exec_crystalStartupDone hs, if_neg (by simp [hd, hc])]
  case options | pll | trained | untrained | rom | settings => exact congrArg ends (if_pos hs)
  case startReady => exact congrArg ends ((if_pos hs).trans (if_pos hc))
  case startWaits => exact congrArg ends ((if_pos hs).trans (if_neg (by simp [hc])))
  case timeoutFree => rw [exec_clkModeTimeout hs hw, if_neg (by simp [hc])]; rfl
  case timeoutReady => rw [exec_clkModeTimeout hs hw, if_pos hc]
  case healthy => rw [exec_trialHealthy ht hm hl, if_neg (by simp [hb])]
  case severe => rw [exec_trialHealthy ht hm hl, if_pos hb]
  case planeReset => exact congrArg ends (if_neg (by simp [hp, hm]))
  case planeRestart => exact congrArg ends ((if_pos hp).trans (by simp only [Bool.not_eq_true']))

/-! ## Events of supplies, temperature, the pins and Dormant -/

/-- The always-on rail takes a node that is not Off to Off, whether or not it is shutting down (18 R662). -/
theorem brownOut_vaon {s : State} (hm : s.mode.mode ≠ 0) : brownOut railVaon s = goOff s := by
  have hgo : ¬ (s.mode.mode = 0 ∨ 13 < railVaon ∨ meterRail railVaon = true) := by simp [hm, railVaon, meterRail]
  exact (if_neg hgo).trans (if_pos rfl)

/-- Any other rail that is not the Sealed Meter's resets the node at the rail's depth where it is not shutting down (17 R631, 18 R674). -/
theorem brownOut_of_not_shutting {r : Nat} {s : State} (hm : s.mode.mode ≠ 0) (hr : r ≤ 13) (hk : meterRail r = false) (hv : r ≠ railVaon)
    (hs : shutting s = false) : brownOut r s = faultReset 0x1001 r (railDepth s r) (railCause r) s := by
  have hgo : ¬ (s.mode.mode = 0 ∨ 13 < r ∨ meterRail r = true) := by simp [hm, hr, hk]
  exact (if_neg hgo).trans ((if_neg hv).trans (if_neg (by simp [hs])))

/-- PWRFAIL_N outside bring-up begins the shut-down sequence where the node is up and no sequence runs (18 R672). -/
theorem powerFail_of_not_bringingUp {s : State} (hb : s.mode.mode ≠ 2) :
    powerFail s = if 3 ≤ s.mode.mode ∧ s.power.seq = 0 then beginShutdown { s with power := { s.power with pwrLow := true } }
      else { s with power := { s.power with pwrLow := true } } :=
  if_neg (by simpa [bringingUp] using hb)

/-- Off, PWRFAIL_N and the return of supply mean nothing (18 R672, R675); in every other mode they take their effect. -/
theorem exec_pwrfail {s : State} (hm : s.mode.mode ≠ 0) : exec .pwrfail s = ends (powerFail s) :=
  congrArg ends (if_neg hm)

theorem exec_supplyReturn {s : State} (hm : s.mode.mode ≠ 0) : exec .supplyReturn s = ends (supplyReturn s) :=
  congrArg ends (if_neg hm)

/-- The latest set point that waits is sent (18 R665). -/
theorem exec_avsRequest {v : Nat} {s : State} (hv : s.power.pend = some v) (hm : 2 ≤ s.mode.mode) :
    exec .avsRequest s = ends (sendAvs v s) := by
  change execAvsRequest s = _
  unfold execAvsRequest
  rw [hv]
  exact congrArg ends (if_pos hm)

/-- RESET_N resets a node whose rails have settled; in Dormant the cause bit of a wake is set as well (17 R631, R633, R636). -/
theorem exec_resetNAssert {s : State} (hm : s.mode.mode ≠ 0) (hr : s.boot.rising = false) :
    exec .resetNAssert s = ends (holdReset (resetNow (if s.boot.opt.resetMap = 1 then depthWarm else depthSystem)
      (if s.mode.mode = 1 then 0x4040 else 0x40) (modBoot (fun b => { b with pinLow := true }) s))) :=
  congrArg ends ((if_neg hm).trans (if_neg (by simp [hr])))

/-- The fall of TEST_EN that leaves the Local Trust ceiling is not audited; it resets a node in Factory Test (01 R36, 14 R565). -/
theorem exec_testEnFall {s : State} (ht : trustCeiling (modBoot (fun b => { b with testEn := false }) s) = trustCeiling s) :
    exec .testEnFall s = ends (if s.mode.mode = 4 then resetNow depthSystem 0x8000 (modBoot (fun b => { b with testEn := false }) s)
      else modBoot (fun b => { b with testEn := false }) s) := by
  change execTestEnFall s = _
  simp [execTestEnFall, ht, ends]

/-- Settles O58: every clause assumes its event's guard; events with several outcomes go by their lemmas. -/
theorem powerEvents : Obligations.PowerEvents := by
  unfold Obligations.PowerEvents
  refine ⟨fun s hm => ?vaonLoss, fun _ _ _ _ => rfl, fun s hm => ?brownVaon, fun r s hm hr hk hv hs => ?brownRail,
    fun s => ⟨rfl, rfl, rfl⟩, fun s h => ?railsSettled, fun s hm hq => ?failBegins, fun s hm hb hn => ?failMarks,
    fun s h => ?shutdownDone, fun s hm hq => ?returnLater, fun s hm hq hp => ?returnParked, fun s hm hq hp => ?returnOnly,
    fun v s hv hm => exec_avsRequest hv hm, fun s hw hm => ?avsSlewDone, fun s hw hm => ?avsTimeout, fun n s hm => ?thermalTrip,
    fun s h => ?thermalRelease, fun s hm hr => ?pinReset, fun s hm hr => ?pinWakes, fun s hm => ?pinRelease,
    fun s hm ht => ?testStays, fun s hm ht => ?testResets, fun f s hm hf => ?wakeMatch⟩
  case vaonLoss | thermalTrip | pinRelease => exact congrArg ends (if_neg hm)
  case railsSettled | shutdownDone | thermalRelease => exact congrArg ends (if_pos h)
  case avsSlewDone | avsTimeout => exact congrArg ends (if_pos ⟨hw, hm⟩)
  case wakeMatch => exact congrArg ends (if_pos ⟨hm, rfl, hf⟩)
  case brownVaon => exact congrArg ends (brownOut_vaon hm)
  case brownRail => exact congrArg ends (brownOut_of_not_shutting hm hr hk hv hs)
  case failBegins =>
    rw [exec_pwrfail (by omega), powerFail_of_not_bringingUp (by omega), if_pos ⟨hm, hq⟩]
  case failMarks =>
    rw [exec_pwrfail hm, powerFail_of_not_bringingUp hb, if_neg (by omega)]
  case returnLater => rw [exec_supplyReturn hm]; exact congrArg ends (if_pos hq)
  case returnParked => rw [exec_supplyReturn hm]; exact congrArg ends ((if_neg fun hn => hn hq).trans (if_pos hp))
  case returnOnly => rw [exec_supplyReturn hm]; exact congrArg ends ((if_neg fun hn => hn hq).trans (if_neg (by simp [hp])))
  case pinReset => rw [exec_resetNAssert (by omega) hr, if_neg (c := s.mode.mode = 1) (by omega)]
  case pinWakes => rw [exec_resetNAssert (by omega) hr, if_pos (c := s.mode.mode = 1) hm]
  case testStays => rw [exec_testEnFall ht, if_neg hm]
  case testResets => rw [exec_testEnFall ht, if_pos hm]

end Sys2Proof.Proofs

namespace Sys2Proof.Proofs

open Sys2Proof.Machine Sys2Proof.Safety Sys2Proof.Laws

/-! ## An apply-at tick beyond the reach of the Calendar -/

/-- An apply-at value below 2^63 is a Calendar tick and names no Almanac entry (02 R70, 11 R467). -/
theorem almOf_eq_none {r : Req} (h : r.applyAt < 2 ^ 63) : almOf r = none := by
  have hb : bit r.applyAt 63 = false := by
    rw [bit, Nat.div_eq_of_lt h]
    rfl
  simp [almOf, hb]

/-- The check of an apply-at tick too far ahead comes before every check of the operation's own parameters, and fails. -/
theorem headChecks_too_far {u : State} {q : Req} (hs : isStaged q.opcode = true) (ha : q.applyAt < 2 ^ 63)
    (hf : cal u + 16777216 < q.applyAt) (l : List (Bool × Nat × Nat)) :
    (headChecks u q ++ l).find? (fun k => !k.1) = some (false, BAD_PARAM, 0xFFFF) := by
  have hn : decide (q.applyAt ≤ cal u + 16777216) = false := decide_eq_false (by omega)
  simp [headChecks, hs, almOf_eq_none ha, hn, chkRel]

/-- A tick at 48 kHz with 2 samples takes 1/24000 s, and 16,777,216 of them 699 s. -/
theorem tickNs_16777216 : tickNs 1 2 16777216 / 10 ^ 9 = 699 := by decide

/-- Settles O4: the operation comes through to its checks, and the first of them, that of the apply-at tick, fails. -/
theorem applyAtLimit : Obligations.ApplyAtLimit := by
  unfold Obligations.ApplyAtLimit
  refine ⟨fun x hx hs r s ho => ?_, tickNs_16777216⟩
  intro u hc ha hm hw hl ht hf
  have hs' : isStaged r.opcode = true := ho ▸ hs
  have hk := headChecks_too_far (u := u) (q := asRun r u) hs' ht hf (x.plan u (asRun r u)).checks
  rw [exec_operation x hx, execOp_through ho hc ha (.inr hm) hw, carryOut_check hl hk, if_pos rfl]

/-! ## Saturation to a sample (02 R51, 04 R139) -/

theorem sat32_within {v : Int} (h1 : -(2 ^ 31 - 1) ≤ v) (h2 : v ≤ 2 ^ 31 - 1) : sat32 v = v :=
  (if_neg (by omega)).trans (if_neg (by omega))

theorem sat32_above {v : Int} (h : 2 ^ 31 - 1 < v) : sat32 v = 2 ^ 31 - 1 :=
  (if_neg (by omega)).trans (if_pos h)

theorem sat32_below {v : Int} (h : v < -(2 ^ 31 - 1)) : sat32 v = -(2 ^ 31 - 1) := if_pos h

theorem sat32_mem (v : Int) : -(2 ^ 31 - 1) ≤ sat32 v ∧ sat32 v ≤ 2 ^ 31 - 1 := by
  simp only [sat32, clampI]
  split
  · omega
  · split <;> omega

/-- What saturation leaves fits a sample word. -/
theorem sat_toInt (v : Int) : (sat v).toInt = sat32 v := by
  have h := sat32_mem v
  exact BitVec.toInt_ofInt_eq_self (by decide) (by omega) (by omega)

/-- Settles O16: the word holds the limited value, and the limit is the range's bound on either side. -/
theorem sampleRange : Obligations.SampleRange := by
  unfold Obligations.SampleRange
  intro v
  rw [sat_toInt]
  exact ⟨(sat32_mem v).1, (sat32_mem v).2, sat32_within, sat32_above, sat32_below⟩

/-! ## Events of the tick -/

/-- A pulse or a notification that is due by the next boundary and not held back fires (11 R466, R475). -/
theorem exec_almanacFire {e : Nat} {s : State} (hd : almDue s (cal s + 1) (almAt s e) = true) (hh : almHeld s (almAt s e) = false)
    (ha : (almAt s e).action = 1 ∨ (almAt s e).action = 4) : exec (.almanacFire e) s = ends (fireAlm e (cal s + 1) s) :=
  congrArg ends (if_pos (by simp [hd, hh, ha]))

theorem exec_tickBoundary (x : TickIn) (s : State) : exec (.tickBoundary x) s = ends (tickBoundary x s) := rfl

/-- Without the clean-up PLL, below Bring-up or halted, no boundary comes (11 R455). -/
theorem tickBoundary_of_not_ticking {x : TickIn} {s : State} (h : ticking s = false) : tickBoundary x s = s :=
  if_pos (by simp [h])

/-- The count and the local clock move to boundary `c`, and the Frame Sequencer has issued a tick (11 R454). -/
def moveCount (c : Nat) (s : State) : State :=
  let s := { s with pipe := { s.pipe with cal := c } }
  let s := { s with clock := clockTo (tickStart s c) s.clock }
  { s with flt := { s.flt with tickOk := true } }

theorem moveCount_eq (c : Nat) (s : State) : moveCount c s =
    { s with
      pipe := { s.pipe with cal := c }, clock := clockTo (tickStart { s with pipe := { s.pipe with cal := c } } c) s.clock,
      flt := { s.flt with tickOk := true } } := rfl

/-- What boundary `c`, once reached, does with the state: the change to Dormant, or the sets, the Almanac anew where a set moved the
count, and the work of the tick where one starts at once. -/
def boundaryWork (x : TickIn) (c : Nat) (t : State) : State :=
  match t.mode.dormant with
  | some keep => enterDormant keep false t
  | none =>
    let v := commit c (pairBoundary c (freeUnloaded t))
    if tickStart v (cal v) ≠ v.clock.now then v
    else
      let w := if cal v ≠ c then commit (cal v) (fireDue (cal v) v) else v
      if tickStart w (cal w) ≠ w.clock.now then w
      else if w.pipe.running then tickWork x (cal w) w else toneTick (tapLost (if w.boot.planeR then idleLines w else w))

theorem tickBoundary_of_ticking {x : TickIn} {s : State} (h : ticking s = true) :
    tickBoundary x s = (let u := settleEvents (finishInput (deadline s))
      boundaryWork x (cal u + 1) (moveCount (cal u + 1) (fireDue (cal u + 1) u))) :=
  if_neg (by simp [h])

/-- Where the node stays awake, its sets leave the count and the time of the tick as they were and the data plane runs, the tick's work
begins (02 R62, 11 R457). -/
theorem boundaryWork_of_running {x : TickIn} {c : Nat} {t v : State} (hv : commit c (pairBoundary c (freeUnloaded t)) = v)
    (hd : t.mode.dormant = none) (hc : cal v = c) (hn : tickStart v c = v.clock.now) (hr : v.pipe.running = true) :
    boundaryWork x c t = tickWork x c v := by
  unfold boundaryWork
  simp only [hd, hv, hc, hn, hr, ne_eq, not_true, if_false, if_true]

/-- A flow in concealment, one of whose gaps is CONCEAL ticks long, presents zeros from now on (10 R391). -/
theorem exec_concealExpiry {source flow : Nat} {x : FlowIn} {f : FlowRx} {s : State}
    (hx : tget s.pipe.live.flowIn (flowKey source flow) = some x) (hf : tget s.links.flows (flowKey source flow) = some f)
    (hs : f.state = 2) (hm : (f.missing.any fun m => decide (x.conceal ≤ m)) = true) :
    exec (.concealExpiry source flow) s = ends { s with links := { s.links with
      flows := tupd s.links.flows (flowKey source flow) fun f => { f with state := 3 } } } := by
  refine congrArg ends (if_pos ?_)
  rw [hx, hf]
  simp [hs, hm]

/-- The deadline ends the tick in progress (02 R77). -/
theorem deadline_ends_tick {s : State} (hr : s.pipe.running = true) (hm : s.pipe.mid = true) : (deadline s).pipe.mid = false := by
  unfold deadline
  rw [if_neg (by simp [hr, hm])]

/-- A chain that has been quiet for its hold time parks (04 R177). -/
theorem exec_parkHoldExpiry {h : Nat} {c : Chain} {s : State} (hc : chainAt s h = some c) (hp : parkDue s c = true) :
    exec (.parkHoldExpiry h) s = ends (park h s) := by
  refine congrArg ends ?_
  rw [hc]
  exact if_pos hp

/-- A sample tick whose check has not been formed yet has it formed once and compared with the partner's (15 R590). -/
theorem dstCheck_forms {r : TickRec} {s : State} (hp : paired s = true) (hk : r.k % 1024 = 0)
    (hn : ∀ c, s.pair.check = some c → c.1 ≠ r.k) :
    dstCheck r s = compareCheck (modPair (fun p => { p with check := some (r.k, dstCrc r), chkNew := true }) s) := by
  refine if_pos ?_
  cases hc : s.pair.check with
  | none => simp [hp, hk]
  | some c => simp [hp, hk, hn c hc]

/-- The newest complete sample tick whose number is a multiple of 1024 is the one that DST_CHECK takes (15 R590). -/
theorem exec_dstCheck {r : TickRec} {s : State}
    (hr : (s.pipe.recs.find? fun r => r.k % 1024 == 0 && decide (r.k + 3 < cal s || (r.k + 3 == cal s && !s.pipe.mid))) = some r) :
    exec .dstCheck s = ends (dstCheck r s) := by
  refine congrArg ends ?_
  rw [hr]

/-- Settles O59: every clause assumes its event's guard, or its event has none; a boundary with its work, and the events that look up a
flow, a chain or a sample tick, go by their lemmas. -/
theorem tickEvents : Obligations.TickEvents := by
  unfold Obligations.TickEvents
  refine ⟨fun e s hd hh ha => exec_almanacFire hd hh ha, fun x s ht => ?noBoundary, ?boundary, fun col s h => ?ramp,
    fun t s h => ?wake, fun source flow x f s hx hf hs hm => exec_concealExpiry hx hf hs hm, fun s => rfl,
    fun s hr hm => deadline_ends_tick hr hm, fun i s => rfl, fun i s => rfl, fun slot s h => ?silence,
    fun h c s hc hp => exec_parkHoldExpiry hc hp, fun r s hr hp hn => ?check, fun s hr => ?late, fun s hd hm => ?handover,
    fun s hd => ?takeover⟩
  case noBoundary => rw [exec_tickBoundary, tickBoundary_of_not_ticking ht]
  case boundary =>
    intro x s u c t t' v ht hd hc hn hr
    have e : moveCount c t = t' := moveCount_eq c t
    have key := boundaryWork_of_running (x := x) (v := v) rfl hd hc hn hr
    rw [exec_tickBoundary, tickBoundary_of_ticking ht, ← key, ← e]
  case ramp | wake | late | takeover => exact congrArg ends (if_pos ‹_›)
  case silence => exact congrArg ends (if_pos ⟨rfl, h⟩)
  case handover => exact congrArg ends (if_pos (by simp [hd, hm]))
  case check =>
    have hk := List.find?_some hr
    simp only [Bool.and_eq_true, beq_iff_eq] at hk
    rw [exec_dstCheck hr, dstCheck_forms hp hk.1 hn]

end Sys2Proof.Proofs

namespace Sys2Proof.Proofs

open Sys2Proof.Machine Sys2Proof.Safety Sys2Proof.Laws

/-! ## What accepted operations answer -/

section
variable {op : Nat} {plan : State → Req → Plan} {r : Req} {s : State}

/-- An accepted operation whose plan only gives a payload and an effect is answered at once with them. -/
theorem execOp_answered {payload : State → List Byte} {effect : State → State} (h : accepts op plan r s = true)
    (hs : isStaged op = false)
    (ha : (plan (dequeue r s) (asRun r (dequeue r s))).act (dequeue r s)
      = { st := effect (dequeue r s), payload := payload (dequeue r s) }) :
    ends (execOp op plan r s) = answered r s payload effect := by
  rw [execOp_accepted h hs, answered]
  simp [ha, OK]

/-- An accepted operation whose plan leaves the machine as it is has its record staged, and its whole effect is at the binding. -/
theorem execOp_stagedOnly (h : stageable op plan r s = true) (hs : isStaged op = true)
    (ha : (plan (dequeue r s) (asRun r (dequeue r s))).act = noAct) :
    ends (execOp op plan r s) = stagedOnly r s := by
  rw [execOp_staged h hs, stagedOnly, stagedAs]
  simp [ha, noAct]

end

/-- Settles O27: node sets and fills have no effect before their binding, every other plan gives a payload and an effect. -/
theorem swardOperations : Obligations.SwardOperations := by
  unfold Obligations.SwardOperations
  exact ⟨fun r s h => execOp_stagedOnly h rfl rfl, fun r s h => execOp_stagedOnly h rfl rfl,
    fun r s h => execOp_answered h rfl rfl, fun r s h => execOp_answered h rfl rfl, fun r s h => execOp_answered h rfl rfl,
    fun r s h => execOp_answered h rfl rfl, fun r s h => execOp_answered h rfl rfl, fun r s h => execOp_answered h rfl rfl⟩

end Sys2Proof.Proofs

namespace Sys2Proof.Proofs

open Sys2Proof.Machine Sys2Proof.Safety Sys2Proof.Laws

/-! ## Ramps of the crosspoint (03 R92) -/

/-- Reading the entry just changed, where there was one. -/
theorem tget_tupd_self {α : Type} (t : Tab α) (i : Nat) (f : α → α) : tget (tupd t i f) i = (tget t i).map f := by
  unfold tupd
  cases h : tget t i with
  | none => simpa using h
  | some v => simp

/-- A ramp moves from CURRENT towards TARGET and never past it, so its code is no less than the smaller of the two. -/
theorem ramp_nonneg (cur tgt : Nat) {p l : Nat} (h : p ≤ l) : 0 ≤ (cur : Int) + (((tgt : Int) - cur) * p).tdiv l := by
  rcases Nat.le_total cur tgt with hup | hdown
  · have : 0 ≤ (((tgt : Int) - cur) * p).tdiv l := Int.tdiv_nonneg (Int.mul_nonneg (by omega) (by omega)) (by omega)
    omega
  · obtain ⟨d, rfl⟩ := Nat.exists_eq_add_of_le hdown
    have hd : d * p / l ≤ d := Nat.div_le_of_le_mul (by rw [Nat.mul_comm l]; exact Nat.mul_le_mul_left d h)
    have hneg : ((tgt : Int) - (tgt + d : Nat)) * p = -((d * p : Nat) : Int) := by
      rw [show (tgt : Int) - (tgt + d : Nat) = -(d : Int) by omega, Int.neg_mul, Int.natCast_mul]
    have hdiv : (((tgt : Int) - (tgt + d : Nat)) * p).tdiv l = -((d * p / l : Nat) : Int) := by
      rw [hneg, Int.neg_tdiv, Int.ofNat_tdiv]
    omega

theorem rampCode_eq (cur tgt : Nat) {p l : Nat} (hp : 1 ≤ p) (h : p ≤ l) :
    (rampCode cur tgt p l : Int) = cur + (((tgt : Int) - cur) * p).tdiv l := by
  rw [rampCode, if_neg (by omega), Int.toNat_of_nonneg (ramp_nonneg cur tgt h)]

theorem liveCode_of_on (n : Node) {x : Ramp} (h : x.on = true) : liveCode x n = rampCode n.cur n.tgt x.pos x.len := if_pos h

theorem liveCode_of_idle (n : Node) {x : Ramp} (h : x.on = false) : liveCode x n = n.cur := if_neg (by simp [h])

/-- A running ramp has its entry in the table: an absent one reads as idle. -/
theorem tget_ramps_of_on {w : Sward} {j : Nat} (h : (rampAt w j).on = true) : tget w.ramps j = some (rampAt w j) := by
  unfold rampAt tgetD at h ⊢
  cases hj : tget w.ramps j with
  | none => simp [hj] at h
  | some x => rfl

theorem rampAt_stepRamps {w : Sward} {j : Nat} (h : (rampAt w j).on = true) :
    rampAt (stepRamps w) j = { rampAt w j with pos := (rampAt w j).pos + 1 } := by
  rw [rampAt, tgetD, stepRamps, tget_tmap, tget_ramps_of_on h]
  exact if_pos h

/-- A column that is finished is idle, whether or not its ramp ran. -/
theorem rampAt_finishCol_on (w : Sward) (j : Nat) : (rampAt (finishCol j w) j).on = false := by
  rw [rampAt, tgetD, finishCol, tget_tupd_self]
  cases tget w.ramps j <;> rfl

/-- Every node of a finished column takes its target. -/
theorem tget_nodes_finishCol {w : Sward} {j k : Nat} {n : Node} (h : tget w.nodes k = some n) (hk : k / 4096 = j) :
    tget (finishCol j w).nodes k = some { n with cur := n.tgt } := by
  simp [finishCol, h, hk]

theorem exec_rampEnd {s : State} {j : Nat} (h : rampDone (rampAt s.sward j) = true) :
    exec (.rampEnd j) s = ends { s with sward := finishCol j s.sward } :=
  congrArg ends (if_pos h)

/-- Settles O14: the code of a ramp is never negative, so it is the formula of R92 itself; a pass moves the entry of each running ramp;
the end finishes the column. -/
theorem rampCodes : Obligations.RampCodes := by
  unfold Obligations.RampCodes
  refine ⟨fun n p len hp h => ?_, fun w j h => ?_, fun s j h hl => ⟨?_, fun k n hn hk => ?_, ?_⟩, fun x n h => ?_⟩
  · rw [liveCode_of_on n rfl, rampCode_eq n.cur n.tgt hp h]
  · rw [rampAt_stepRamps h]
  · exact exec_rampEnd (by simp [rampDone, h, hl])
  · exact tget_nodes_finishCol hn hk
  · exact rampAt_finishCol_on s.sward j
  · rw [liveCode_of_idle n h]

end Sys2Proof.Proofs

namespace Sys2Proof.Proofs

open Sys2Proof.Machine Sys2Proof.Safety Sys2Proof.Laws

/-! ## What leaves the crosspoint and the Commit Gate alone

A Plane reset ends migrations, which can fail ticks, restart chains, raise faults and answer requests. None of it touches the crosspoint or
a staged set: each lemma says so of one function, through the functions that it calls. -/

/-- The crosspoint and the Commit Gate of a state. -/
def swardGate (s : State) : Sward × Gate := (s.sward, s.gate)

theorem sward_of_swardGate {s t : State} (h : swardGate s = swardGate t) : s.sward = t.sward := congrArg Prod.fst h

theorem gate_of_swardGate {s t : State} (h : swardGate s = swardGate t) : s.gate = t.gate := congrArg Prod.snd h

/-- A fold of updates that leave them alone leaves them alone. -/
theorem swardGate_foldl {α : Type} {f : State → α → State} (h : ∀ s a, swardGate (f s a) = swardGate s) (l : List α) (s : State) :
    swardGate (l.foldl f s) = swardGate s := by
  induction l generalizing s with
  | nil => rfl
  | cons a l ih => rw [List.foldl_cons, ih, h]

/-- A choice between two states that both leave them alone leaves them alone. -/
theorem swardGate_ite {c : Prop} [Decidable c] {s a b : State} (ha : swardGate a = swardGate s) (hb : swardGate b = swardGate s) :
    swardGate (if c then a else b) = swardGate s := by
  split
  · exact ha
  · exact hb

/-! ### The named updates of the state -/

@[simp] theorem swardGate_emit (o : Out) (s : State) : swardGate (emit o s) = swardGate s := rfl
@[simp] theorem swardGate_modAl (p : Nat) (f : Al → Al) (s : State) : swardGate (modAl p f s) = swardGate s := rfl
@[simp] theorem swardGate_modEng (e : Nat) (f : Engine → Engine) (s : State) : swardGate (modEng e f s) = swardGate s := rfl
@[simp] theorem swardGate_modChain (h : Nat) (f : Chain → Chain) (s : State) : swardGate (modChain h f s) = swardGate s := rfl
@[simp] theorem swardGate_memWrites (a : Nat) (bs : List Byte) (s : State) : swardGate (memWrites a bs s) = swardGate s := rfl
@[simp] theorem swardGate_freshNat (w : Nat) (s : State) : swardGate (freshNat w s).2 = swardGate s := rfl
@[simp] theorem swardGate_placeCount (i : Nat) (s : State) : swardGate (placeCount i s) = swardGate s := rfl
@[simp] theorem swardGate_placeEvent (ev reason h a b d : Nat) (s : State) : swardGate (placeEvent ev reason h a b d s) = swardGate s := rfl
@[simp] theorem swardGate_restore (e h : Nat) (s : State) : swardGate (restore e h s) = swardGate s := rfl
@[simp] theorem swardGate_countQuiet (h : Nat) (q : Bool) (s : State) : swardGate (countQuiet h q s) = swardGate s := rfl
@[simp] theorem swardGate_takeOff (h : Nat) (s : State) : swardGate (takeOff h s) = swardGate s := rfl
@[simp] theorem swardGate_noteCause (d c : Nat) (s : State) : swardGate (noteCause d c s) = swardGate s := rfl
@[simp] theorem swardGate_dropFrames (s : State) : swardGate (dropFrames s) = swardGate s := rfl
@[simp] theorem swardGate_lowOutputs (s : State) : swardGate (lowOutputs s) = swardGate s := rfl

/-! ### Replies -/

@[simp] theorem swardGate_sendFrame (p ty b : Nat) (d : List Byte) (f : List Byte → List Byte) (s : State) :
    swardGate (sendFrame p ty b d f s) = swardGate s := by
  unfold sendFrame
  split
  · rfl
  · split
    · split <;> rfl
    · rfl

@[simp] theorem swardGate_sendNode (node ty b : Nat) (p : List Byte) (s : State) : swardGate (sendNode node ty b p s) = swardGate s :=
  swardGate_foldl (fun s q => swardGate_sendFrame q ty b _ _ s) _ s

@[simp] theorem swardGate_emitMg (o : Out) (s : State) : swardGate (emitMg o s) = swardGate s := by
  unfold emitMg
  split
  · rfl
  · split <;> rfl

@[simp] theorem swardGate_alAttempt (p n : Nat) (o : Out) (s : State) : swardGate (alAttempt p n o s) = swardGate s := by
  unfold alAttempt
  split <;> simp

@[simp] theorem swardGate_alBeacon (p : Nat) (s : State) : swardGate (alBeacon p s) = swardGate s := by
  unfold alBeacon
  split <;> simp

@[simp] theorem swardGate_alSend (p : Nat) (o : Out) (s : State) : swardGate (alSend p o s) = swardGate s := by
  unfold alSend
  split <;> simp

@[simp] theorem swardGate_msixFrom (before : Nat) (s : State) : swardGate (msixFrom before s) = swardGate s := by
  unfold msixFrom
  split
  · exact swardGate_foldl (fun s i => by split <;> rfl) _ s
  · rfl

@[simp] theorem swardGate_drainReplies (n : Nat) (s : State) : swardGate (drainReplies n s) = swardGate s := by
  induction n generalizing s with
  | zero => rfl
  | succ n ih =>
    unfold drainReplies
    split
    · rw [ih, swardGate_msixFrom]
      split
      · rfl
      · split <;> rfl
    · rfl

@[simp] theorem swardGate_sendOn (src : Src) (ret : Nat × Nat) (p : List Byte) (s : State) : swardGate (sendOn src ret p s) = swardGate s := by
  cases src with
  | pcie => exact swardGate_drainReplies _ _
  | link => exact swardGate_sendNode _ _ _ _ _
  | pair => rfl
  | mg => exact swardGate_emitMg _ _
  | al0 | al1 => exact swardGate_alSend _ _ _

@[simp] theorem swardGate_audit (r : Req) (reads : Bool) (st ap : Nat) (fo : Bool) (s : State) :
    swardGate (audit r reads st ap fo s) = swardGate s := by
  unfold audit
  split
  · rfl
  · rfl
  · split <;> rfl

@[simp] theorem swardGate_sendKept (r : Req) (p : List Byte) (s : State) : swardGate (sendKept r p s) = swardGate s :=
  swardGate_sendOn r.src r.ret p s

@[simp] theorem swardGate_reply (r : Req) (key : List Byte) (reads : Bool) (st err ap : Nat) (mirr fo : Bool) (pl : List Byte) (s : State) :
    swardGate (reply r key reads st err ap mirr fo pl s) = swardGate s := by
  unfold reply
  simp only
  split <;> simp

/-! ### Faults -/

@[simp] theorem swardGate_raiseX (id detail : Nat) (x : FAcc) (injected perform : Bool) (s : State) :
    swardGate (raiseX id detail x injected perform s) = swardGate s := by
  unfold raiseX
  split
  · rfl
  · rw [swardGate_msixFrom]
    exact swardGate_ite rfl rfl

@[simp] theorem swardGate_raise (id detail : Nat) (s : State) : swardGate (raise id detail s) = swardGate s := swardGate_raiseX ..

@[simp] theorem swardGate_raiseChain (cause e h : Nat) (s : State) : swardGate (raiseChain cause e h s) = swardGate s := swardGate_raiseX ..

@[simp] theorem swardGate_suspect (e : Nat) (s : State) : swardGate (suspect e s) = swardGate s := by
  unfold suspect
  split <;> simp

/-! ### Chains and their ticks -/

@[simp] theorem swardGate_useBank (n : Nat) (s : State) : swardGate (useBank n s) = swardGate s := by
  unfold useBank bankOn
  simp only
  split
  · rfl
  · split
    · rfl
    · split <;> rfl

@[simp] theorem swardGate_applyDue (h : Nat) (s : State) : swardGate (applyDue h s) = swardGate s := by
  unfold applyDue
  split <;> rfl

@[simp] theorem swardGate_nextChain (e : Nat) (s : State) : swardGate (nextChain e s) = swardGate s := by
  unfold nextChain
  split
  · rfl
  · simp only [swardGate_modEng, swardGate_applyDue]
    split <;> simp

@[simp] theorem swardGate_measure (e h : Nat) (s : State) : swardGate (Machine.measure e h s) = swardGate s := by
  unfold Machine.measure
  simp only
  split
  · rfl
  · split <;> simp

@[simp] theorem swardGate_lineWrite (id k n : Nat) (b : Blk) (s : State) : swardGate (lineWrite id k n b s) = swardGate s := by
  unfold lineWrite
  split
  · rfl
  · exact swardGate_foldl (fun s j => swardGate_memWrites _ _ s) _ _

@[simp] theorem swardGate_zeroLines (c : Chain) (k : Nat) (s : State) : swardGate (zeroLines c k s) = swardGate s :=
  swardGate_foldl (fun s id => swardGate_lineWrite id k _ [] s) _ s

@[simp] theorem swardGate_failState (e h : Nat) (s : State) : swardGate (failState e h s) = swardGate s := by
  unfold failState
  simp only [swardGate_countQuiet]
  split <;> simp

@[simp] theorem swardGate_failedTick (e h : Nat) (s : State) : swardGate (failedTick e h s) = swardGate s := by
  unfold failedTick
  simp only [swardGate_raiseChain, swardGate_modEng, swardGate_modChain]
  split <;> simp [failCommon]

@[simp] theorem swardGate_dropTwin (h : Nat) (s : State) : swardGate (dropTwin h s) = swardGate s :=
  swardGate_foldl (fun s e => swardGate_nextChain e s) _ _

/-! ### Placement -/

@[simp] theorem swardGate_wakeEngine (e : Nat) (s : State) : swardGate (wakeEngine e s) = swardGate s := by
  unfold wakeEngine
  split <;> rfl

@[simp] theorem swardGate_goFallow (e : Nat) (s : State) : swardGate (goFallow e s) = swardGate s := by
  unfold goFallow
  split <;> rfl

@[simp] theorem swardGate_yieldHome (b : Nat) (s : State) : swardGate (yieldHome b s) = swardGate s := by
  refine swardGate_foldl (fun s h => ?_) _ s
  simp only
  split
  · rfl
  · split <;> simp

@[simp] theorem swardGate_placeOn (e h : Nat) (bank : Option Nat) (s : State) : swardGate (placeOn e h bank s) = swardGate s := by
  have hr (l : Tab (List Nat)) (u : State) : swardGate { u with eng := { u.eng with runList := l } } = swardGate u := rfl
  unfold placeOn
  cases bank <;> simp [hr]

@[simp] theorem swardGate_displace (h src dst : Nat) (s : State) : swardGate (displace h src dst s) = swardGate s := by
  unfold displace
  simp only
  split <;> simp

@[simp] theorem swardGate_reachPin (h src dst : Nat) (s : State) : swardGate (reachPin h src dst s) = swardGate s := by
  unfold reachPin
  simp only
  split <;> simp

@[simp] theorem swardGate_restartChain (h : Nat) (s : State) : swardGate (restartChain h s) = swardGate s := by
  unfold restartChain
  split <;> simp [putOn]

@[simp] theorem swardGate_outOfService (e : Nat) (s : State) : swardGate (outOfService e s) = swardGate s := by
  unfold outOfService
  simp only
  rw [swardGate_foldl (fun s h => by rw [swardGate_restartChain]; split <;> simp), swardGate_modEng,
    swardGate_foldl (fun s h => swardGate_failedTick e h s)]
  simp

@[simp] theorem swardGate_noteMismatch (e : Nat) (s : State) : swardGate (noteMismatch e s) = swardGate s := by
  unfold noteMismatch
  simp only
  split <;> simp

@[simp] theorem swardGate_abortMigr (reason : Nat) (m : Migr) (s : State) : swardGate (abortMigr reason m s) = swardGate s := by
  have hp (p : Place) (u : State) : swardGate { u with place := p } = swardGate u := rfl
  unfold abortMigr
  have hm (u : State) : swardGate (if reason = 1 then noteMismatch m.dst (noteMismatch m.src u) else u) = swardGate u :=
    swardGate_ite (by simp) rfl
  refine swardGate_ite (swardGate_ite ?_ ?_) ?_ <;> simp [hp, hm]

@[simp] theorem swardGate_abortIf (reason : Nat) (p : Migr → Bool) (s : State) : swardGate (abortIf reason p s) = swardGate s :=
  swardGate_foldl (fun s m => swardGate_abortMigr reason m s) _ s

@[simp] theorem swardGate_haltEngine (e : Nat) (s : State) : swardGate (haltEngine e s) = swardGate s := by
  unfold haltEngine
  simp only [swardGate_modEng]
  split <;> simp

/-! ## The crosspoint after each reset (03 R101) -/

/-- The mode changes that a Plane reset discards: those staged for the boundary that it falls on (01 R40). -/
def discardedChange (s : State) (g : Staged) : Bool := g.req.opcode == 0x0103 && g.alm == none && decide (g.due ≤ cal s + 1)

/-- Apart from the mode changes that it discards, and answers, nothing leaves the Commit Gate. -/
theorem swardGate_dropModeChanges (s : State) :
    swardGate (dropModeChanges s) = (s.sward, { s.gate with staged := s.gate.staged.filter fun g => !discardedChange s g }) :=
  swardGate_foldl (fun t (g : Staged) => swardGate_reply g.req g.key false BUSY 0 0 g.mirr false [] t)
    (s.gate.staged.filter (discardedChange s)) { s with gate := { s.gate with staged := s.gate.staged.filter fun g => !discardedChange s g } }

/-- The state in which a Plane reset judges the staged sets: its cause noted, the engines halted and the migrations ended (17 R640). -/
def haltedPlane (causes : Nat) (s : State) : State :=
  abortIf 0xA (fun _ => true)
    (((noteCause depthPlane causes s).eng.engines.map (·.1)).foldl (fun t e => haltEngine e t) (noteCause depthPlane causes s))

theorem swardGate_haltedPlane (c : Nat) (s : State) : swardGate (haltedPlane c s) = swardGate s := by
  rw [haltedPlane, swardGate_abortIf, swardGate_foldl (fun t e => swardGate_haltEngine e t), swardGate_noteCause]

theorem swardGate_planeReset (c : Nat) (s : State) :
    swardGate (planeReset c s) = swardGate (dropModeChanges (haltedPlane c s)) :=
  swardGate_ite (swardGate_dropFrames _) ((swardGate_lowOutputs _).trans (swardGate_dropFrames _))

theorem planeReset_sward (c : Nat) (s : State) : (planeReset c s).sward = s.sward := by
  have h := (swardGate_planeReset c s).trans (swardGate_dropModeChanges _)
  exact (congrArg Prod.fst h).trans (sward_of_swardGate (swardGate_haltedPlane c s))

/-- A staged set that is no mode change outlives a Plane reset. -/
theorem mem_planeReset_staged {c : Nat} {s : State} {g : Staged} (hg : g ∈ s.gate.staged) (ho : g.req.opcode ≠ 0x0103) :
    g ∈ (planeReset c s).gate.staged := by
  have h := (swardGate_planeReset c s).trans (swardGate_dropModeChanges _)
  have e : (planeReset c s).gate.staged = _ := congrArg (fun x : Sward × Gate => x.2.staged) h
  rw [e, gate_of_swardGate (swardGate_haltedPlane c s)]
  simp [hg, discardedChange, ho]

/-- Once every ramp is complete, every column is idle. -/
theorem rampAt_finishRamps_on (w : Sward) (j : Nat) : (rampAt (finishRamps w) j).on = false := by
  rw [rampAt, tgetD, finishRamps, finishWith, tget_tmap]
  cases tget w.ramps j <;> rfl

/-- Where no set is bound, completing every ramp gives every node its target and leaves its polarity. -/
theorem tget_nodes_finishRamps {w : Sward} {k : Nat} {n : Node} (hb : w.bound = []) (hn : tget w.nodes k = some n) :
    tget (finishRamps w).nodes k = some { n with cur := n.tgt } := by
  simp [finishRamps, finishWith, hb, hn]

theorem resetTo_sward_of_deep {d : Nat} (h : d = 3 ∨ d = 4) (c : Nat) (s : State) : (resetTo d c s).sward = {} := by
  rcases h with rfl | rfl <;> rfl

/-- A reset leaves no staged set, at any depth from Warm on. -/
theorem resetTo_staged (d c : Nat) (s : State) : (resetTo d c s).gate.staged = [] := rfl

theorem resetTo_warm_sward (c : Nat) (s : State) :
    (resetTo 2 c s).sward = { nodes := (finishRamps s.sward).nodes, ramps := (finishRamps s.sward).ramps } := rfl

theorem startPlane_sward (r : Nat) (s : State) : (startPlane r s).sward = finishRamps s.sward := rfl

/-- Settles O17: the deep resets start with an empty crosspoint, a Warm reset and the restart complete every ramp, and a Plane reset
leaves the crosspoint as it is and discards mode changes only. -/
theorem swardAfterReset : Obligations.SwardAfterReset := by
  unfold Obligations.SwardAfterReset
  intro c s
  refine ⟨fun d h => ⟨resetTo_sward_of_deep h c s, resetTo_staged d c s⟩, ⟨resetTo_staged 2 c s, ?_, ?_, fun hb k n hn => ?_, fun j => ?_⟩,
    planeReset_sward c s, fun g hg ho => mem_planeReset_staged hg (by omega), fun r => ⟨?_, rfl, fun j => ?_, fun hb k n hn => ?_⟩⟩
  · rw [resetTo_warm_sward]
  · rw [resetTo_warm_sward]
  · rw [resetTo_warm_sward]
    exact tget_nodes_finishRamps hb hn
  · exact rampAt_finishRamps_on s.sward j
  · rw [startPlane_sward]; rfl
  · exact rampAt_finishRamps_on s.sward j
  · exact tget_nodes_finishRamps hb hn

end Sys2Proof.Proofs

namespace Sys2Proof.Proofs

open Sys2Proof.Machine Sys2Proof.Safety Sys2Proof.Laws

/-! ## The power of two that a gain code's fraction names (04 R146)

`pow2Fold` takes a fraction bit by bit, so it grows with the set of bits, and its value at a few fractions
bounds it at every other. -/

/-- A factor of at least 1, at the scale of `2^96`, makes nothing smaller. -/
theorem le_mul_div_of_le {a c : Nat} (h : 2 ^ 96 ≤ c) : a ≤ a * c / 2 ^ 96 :=
  (Nat.le_div_iff_mul_le (by decide)).mpr (Nat.mul_le_mul_left a h)

theorem pow2Fold_cons (f w c : Nat) (cs : List Nat) (a : Nat) :
    pow2Fold f (w + 1) (c :: cs) a = pow2Fold f w cs (if bit f w then a * c / 2 ^ 96 else a) := rfl

/-- A fraction with more bits set, from a larger start, gives no less. -/
theorem pow2Fold_mono {f g : Nat} (cs : List Nat) {w a b : Nat} (hc : ∀ c ∈ cs, 2 ^ 96 ≤ c)
    (hb : ∀ i < w, bit f i = true → bit g i = true) (h : a ≤ b) : pow2Fold f w cs a ≤ pow2Fold g w cs b := by
  induction cs generalizing w a b with
  | nil => simpa [pow2Fold] using h
  | cons c cs ih =>
    cases w with
    | zero => simpa [pow2Fold] using h
    | succ w =>
      rw [pow2Fold_cons, pow2Fold_cons]
      refine ih (fun c hm => hc c (.tail _ hm)) (fun i hi => hb i (by omega)) ?_
      have hm : a * c / 2 ^ 96 ≤ b * c / 2 ^ 96 := Nat.div_le_div_right (Nat.mul_le_mul_right c h)
      have hg : b ≤ b * c / 2 ^ 96 := le_mul_div_of_le (hc c (.head _))
      cases hf : bit f w with
      | true => simpa [hb w (by omega) hf] using hm
      | false =>
        simp only [Bool.false_eq_true, if_false]
        split
        · exact Nat.le_trans h hg
        · exact h

theorem pow2_factors_ge : ∀ c ∈ pow2Lo ++ pow2Hi, 2 ^ 96 ≤ c := by decide

theorem pow2Frac_mono {f g : Nat} (h : ∀ i < 32, bit f i = true → bit g i = true) : pow2Frac f ≤ pow2Frac g :=
  pow2Fold_mono _ pow2_factors_ge h (Nat.le_refl _)

/-- Every fraction's power is at least 1. -/
theorem pow2Frac_ge (f : Nat) : 2 ^ 96 ≤ pow2Frac f := by
  have h0 : ∀ i < 32, bit 0 i ≠ true := by decide
  exact le_of_eq_of_le (by decide) (pow2Frac_mono (f := 0) fun i hi hb => absurd hb (h0 i hi))

/-- Where a fraction lacks bit `b`, all the other bits bound it. -/
theorem pow2Frac_le_of_bit {f b m : Nat} (hm : ∀ i < 32, i ≠ b → bit m i = true) (hf : bit f b = false) : pow2Frac f ≤ pow2Frac m :=
  pow2Frac_mono fun i hi hb => hm i hi fun e => by simp [e, hf] at hb

/-- Every fraction's power is below 2. -/
theorem pow2Frac_lt (f : Nat) : pow2Frac f < 2 ^ 97 := by
  have hm : ∀ i < 32, bit (2 ^ 32 - 1) i = true := by decide
  exact Nat.lt_of_le_of_lt (pow2Frac_mono fun i hi _ => hm i hi) (by decide)

/-- A fraction below 3/4 lacks one of its two highest bits, and its power stays clear of 2. -/
theorem pow2Frac_lt_of_lt {f : Nat} (h : f < 3 * 2 ^ 30) : pow2Frac f < 2 ^ 97 - 2 ^ 90 := by
  cases h31 : bit f 31 with
  | false => exact Nat.lt_of_le_of_lt (pow2Frac_le_of_bit (m := 2 ^ 31 - 1) (by decide) h31) (by decide)
  | true =>
    have h30 : bit f 30 = false := by
      simp only [bit, beq_iff_eq, beq_eq_false_iff_ne] at h31 ⊢
      omega
    exact Nat.lt_of_le_of_lt (pow2Frac_le_of_bit (m := 2 ^ 32 - 1 - 2 ^ 30) (by decide) h30) (by decide)

/-! ## Mantissa and exponent of a gain code (04 R146, 03 R89) -/

/-- `2^32 log2` of the gain of a code: the code counts 256ths of a decibel from 0 dB at 0xC000. -/
def logGain (g : Nat) : Int := ((g : Int) - 0xC000) * 2786635

/-- The mantissa before a carry out of its 24 bits. -/
def rawMantissa (g : Nat) : Nat := (pow2Frac (logGain g % 2 ^ 32).toNat + 2 ^ 72) / 2 ^ 73

theorem linME_eq (g : Nat) : linME g =
    if rawMantissa g = 2 ^ 24 then (2 ^ 23, logGain g / 2 ^ 32 + 1) else (rawMantissa g, logGain g / 2 ^ 32) := rfl

theorem rawMantissa_mem (g : Nat) : 2 ^ 23 ≤ rawMantissa g ∧ rawMantissa g ≤ 2 ^ 24 := by
  have hge := pow2Frac_ge (logGain g % 2 ^ 32).toNat
  have hlt := pow2Frac_lt (logGain g % 2 ^ 32).toNat
  unfold rawMantissa
  omega

/-- The loudest codes lie in the first 2/3 of their octave, so none of them carries. -/
theorem rawMantissa_lt_of_loud {g : Nat} (h : g < 65536) (hl : 10 * 2 ^ 32 ≤ logGain g) : rawMantissa g < 2 ^ 24 := by
  have hf : (logGain g % 2 ^ 32).toNat < 3 * 2 ^ 30 := by
    unfold logGain at *
    have hoctave : ((g : Int) - 0xC000) * 2786635 / 2 ^ 32 = 10 := by omega
    omega
  have hlt := pow2Frac_lt_of_lt hf
  unfold rawMantissa
  omega

theorem linME_mem {g : Nat} (h : g < 65536) :
    2 ^ 23 ≤ (linME g).1 ∧ (linME g).1 < 2 ^ 24 ∧ -32 ≤ (linME g).2 ∧ (linME g).2 ≤ 10 := by
  have hm := rawMantissa_mem g
  have hloud := rawMantissa_lt_of_loud h
  have hlog : -32 * 2 ^ 32 ≤ logGain g ∧ logGain g < 11 * 2 ^ 32 := by
    unfold logGain
    omega
  rw [linME_eq]
  split
  · simp only
    omega
  · simp only
    omega

/-! ## The packed coefficient -/

theorem wrap8_lt (v : Int) : wrap 8 v < 256 := by
  unfold wrap
  omega

theorem linOf_of_pos {g : Nat} (h : 0 < g) : linOf g = BitVec.ofNat 32 ((linME g).1 * 256 + wrap 8 (linME g).2) := by
  unfold linOf
  obtain ⟨m, e⟩ := linME g
  simp only [show g ≠ 0 by omega, if_false]

theorem linOf_toNat {g : Nat} (h0 : 0 < g) (h : g < 65536) : (linOf g).toNat = (linME g).1 * 256 + wrap 8 (linME g).2 := by
  obtain ⟨_, hm, _, _⟩ := linME_mem h
  have hw := wrap8_lt (linME g).2
  rw [linOf_of_pos h0, BitVec.toNat_ofNat, Nat.mod_eq_of_lt (by omega)]

/-- The packed coefficient holds the mantissa above its low byte. -/
theorem linOf_mantissa {g : Nat} (h0 : 0 < g) (h : g < 65536) : (linOf g).toNat / 256 = (linME g).1 := by
  have hw := wrap8_lt (linME g).2
  rw [linOf_toNat h0 h]
  omega

/-- The packed coefficient holds the exponent in its low byte. -/
theorem linOf_exponent {g : Nat} (h0 : 0 < g) (h : g < 65536) : signed 8 (linOf g).toNat = (linME g).2 := by
  obtain ⟨_, _, hlo, hhi⟩ := linME_mem h
  rw [linOf_toNat h0 h]
  generalize (linME g).1 = m at *
  generalize (linME g).2 = e at *
  unfold signed wrap
  split <;> omega

/-! ## The product with a sample (04 R138, R147, 03 R90) -/

/-- A right shift rounds the size and keeps the sign. -/
theorem rnd_of_pos (x : Int) {n : Int} (h : 0 < n) :
    rnd x n = x.sign * ((x.natAbs + 2 ^ (n - 1).toNat) / 2 ^ n.toNat : Nat) := by
  have hn : n.natAbs = n.toNat := by omega
  have hn' : n.natAbs - 1 = (n - 1).toNat := by omega
  rw [rnd, if_neg (by omega), if_neg (by omega), hn', hn]
  rcases Int.lt_trichotomy x 0 with hx | rfl | hx
  · rw [if_neg (by omega), Int.sign_eq_neg_one_of_neg hx, Int.neg_one_mul]
  · have hlt : 2 ^ (n - 1).toNat < 2 ^ n.toNat := Nat.pow_lt_pow_right (by omega) (by omega)
    rw [if_pos (Int.le_refl 0), Int.natAbs_zero, Nat.zero_add, Nat.div_eq_of_lt hlt]
    rfl
  · rw [if_pos (by omega), Int.sign_eq_one_of_pos hx, Int.one_mul]

/-- A sample times a positive mantissa at an exponent up to 10 is shifted right: the sign is the sample's. -/
theorem rnd_mul_mantissa (s : Int) {m : Nat} {e : Int} (hm : 0 < m) (he : e ≤ 10) :
    rnd (s * m) (23 - e) = s.sign * ((s.natAbs * m + 2 ^ ((22 : Int) - e).toNat) / 2 ^ ((23 : Int) - e).toNat : Nat) := by
  rw [rnd_of_pos _ (by omega), Int.sign_mul, Int.sign_eq_one_of_pos (a := (m : Int)) (by omega), Int.mul_one, Int.natAbs_mul,
    Int.natAbs_natCast, show 23 - e - 1 = 22 - e by omega]

/-- The shift is by 13 at least, which brings a sample times a mantissa down to 2^42 in size. -/
theorem shifted_product_le {a m : Nat} {e : Int} (ha : a ≤ 2 ^ 31) (hm : m < 2 ^ 24) (he : e ≤ 10) :
    (a * m + 2 ^ ((22 : Int) - e).toNat) / 2 ^ ((23 : Int) - e).toNat ≤ 2 ^ 42 := by
  obtain ⟨k, rfl⟩ : ∃ k : Nat, e = 10 - k := ⟨(10 - e).toNat, by omega⟩
  have hp : a * m ≤ 2 ^ 31 * (2 ^ 24 - 1) := Nat.mul_le_mul ha (by omega)
  have hk : 1 ≤ 2 ^ k := Nat.one_le_two_pow
  refine Nat.div_le_of_le_mul ?_
  rw [show ((22 : Int) - (10 - k)).toNat = 12 + k by omega, show ((23 : Int) - (10 - k)).toNat = 13 + k by omega, Nat.pow_add, Nat.pow_add]
  omega

/-! ## What a node adds -/

theorem natAbs_toInt_le (s : W32) : s.toInt.natAbs ≤ 2 ^ 31 := by
  have hlo := s.le_toInt
  have hhi := s.toInt_lt
  omega

theorem nodeTerm_mute (s : Int) (pol : Bool) : nodeTerm s 0 pol = 0 := if_pos rfl

theorem nodeTerm_of_pos (s : Int) {g : Nat} (pol : Bool) (h : 0 < g) : nodeTerm s g pol = (if pol then -1 else 1) * coefMul s (linOf g) := by
  rw [nodeTerm, if_neg (by omega)]
  cases pol <;> simp

/-- What a node adds under a code that is not mute: the size of the sample times the mantissa, rounded, with the sample's sign. -/
theorem nodeTerm_eq (s : Int) (pol : Bool) {g : Nat} (h0 : 0 < g) (h : g < 65536) :
    nodeTerm s g pol = (if pol then -1 else 1) * (s.sign *
      ((s.natAbs * (linME g).1 + 2 ^ ((22 : Int) - (linME g).2).toNat) / 2 ^ ((23 : Int) - (linME g).2).toNat : Nat)) := by
  obtain ⟨hm, _, _, he⟩ := linME_mem h
  rw [nodeTerm_of_pos _ _ h0, coefMul, linOf_mantissa h0 h, linOf_exponent h0 h, rnd_mul_mantissa _ (by omega) he]

theorem natAbs_nodeTerm_le (s : W32) (pol : Bool) {g : Nat} (h0 : 0 < g) (h : g < 65536) : (nodeTerm s.toInt g pol).natAbs ≤ 2 ^ 42 := by
  obtain ⟨_, hm, _, he⟩ := linME_mem h
  have hpol : (if pol then (-1 : Int) else 1).natAbs = 1 := by cases pol <;> rfl
  have hsign : s.toInt.sign.natAbs ≤ 1 := by
    rw [Int.natAbs_sign]
    split <;> omega
  rw [nodeTerm_eq _ _ h0 h, Int.natAbs_mul, Int.natAbs_mul, hpol, Nat.one_mul, Int.natAbs_natCast]
  exact Nat.le_trans (Nat.mul_le_mul hsign (shifted_product_le (natAbs_toInt_le s) hm he)) (Nat.le_of_eq (Nat.one_mul _))

/-- The gain of 0xC000 is 1: the shift undoes the product with `2^23`, and the half that rounding adds is lost. -/
theorem coefMul_unity (s : Int) : coefMul s 0x80000000#32 = s := by
  change rnd (s * (2 ^ 23 : Nat)) 23 = s
  rw [show (23 : Int) = 23 - 0 by rfl, rnd_mul_mantissa s (by decide) (by decide)]
  have h : (s.natAbs * 2 ^ 23 + 2 ^ 22) / 2 ^ 23 = s.natAbs := by omega
  exact (congrArg (fun k : Nat => s.sign * (k : Int)) h).trans (Int.sign_mul_natAbs s)

/-- Settles O13: the power of the code's fraction lies between 1 and 2, which bounds mantissa and exponent; the packed coefficient holds
both, and rounding works on the sizes of sample and mantissa. -/
theorem nodeContribution : Obligations.NodeContribution := by
  unfold Obligations.NodeContribution
  have hunity : linOf 0xC000 = 0x80000000#32 := by decide
  refine ⟨fun g h0 h => ?_, nodeTerm_mute, hunity, by decide, fun s => ?_⟩
  · obtain ⟨hm0, hm, he0, he⟩ := linME_mem h
    simp only [linOf_mantissa h0 h, linOf_exponent h0 h]
    exact ⟨hm0, hm, he0, he, fun s pol => ⟨nodeTerm_eq s.toInt pol h0 h, natAbs_nodeTerm_le s pol h0 h⟩⟩
  · rw [nodeTerm_of_pos s _ (by decide), nodeTerm_of_pos s _ (by decide), hunity, coefMul_unity]
    simp

end Sys2Proof.Proofs

namespace Sys2Proof.Proofs

open Sys2Proof.Machine Sys2Proof.Safety

/-! ## The two slots of a bundle and their 31 bits (04 R131, R132) -/

/-- The M slot that 31 bits encode. -/
def mSlotOf (v : Nat) : MSlot :=
  { op := bits v 30 24, x := { pe := bit v 23, pn := bit v 22, pq := bits v 21 20, md := bits v 19 15, ma := bits v 14 10,
                               mb := bits v 9 5, mi := bits v 4 0 } }

/-- The L slot that 31 bits encode. -/
def lSlotOf (v : Nat) : LSlot :=
  { op := bits v 30 25, x := { pe := bit v 24, pn := bit v 23, pq := bits v 22 21, ld := bits v 20 16, lp := bits v 15 13, lx := bits v 12 0 } }

theorem b2n_lt (p : Bool) : b2n p < 2 := by cases p <;> decide

/-- A field of a word that stands within a field of that word. -/
theorem bits_bits {w a b hi lo : Nat} (h : b + hi ≤ a) : bits (bits w a b) hi lo = bits w (b + hi) (b + lo) := by
  unfold bits
  rcases Nat.lt_or_ge hi lo with hl | hl
  · have e1 : hi + 1 - lo = 0 := by omega
    have e2 : b + hi + 1 - (b + lo) = 0 := by omega
    simp [e1, e2, Nat.mod_one]
  · have e : a + 1 - b = lo + ((a - b) + 1 - lo) := by omega
    rw [e, Nat.pow_add, Nat.mod_mul_right_div_self, Nat.div_div_eq_div_mul, ← Nat.pow_add,
      Nat.mod_mod_of_dvd _ (Nat.pow_dvd_pow 2 (by omega)), show b + hi + 1 - (b + lo) = hi + 1 - lo by omega]

theorem bit_eq_bits (w i : Nat) : bit w i = (bits w i i == 1) := by
  simp [bit, bits]

theorem bit_bits {w a b i : Nat} (h : b + i ≤ a) : bit (bits w a b) i = bit w (b + i) := by
  rw [bit_eq_bits, bits_bits h, ← bit_eq_bits]

/-- A bundle's slots are read from its two halves below the format. -/
theorem bundleOf_eq (w : Nat) : bundleOf w =
    { fmt := bits w 63 62, m := if bits w 63 62 = 2 then {} else mSlotOf (bits w 61 31),
      l := if bits w 63 62 = 1 then {} else lSlotOf (bits w 30 0),
      imm := if bits w 63 62 = 1 then bits w 30 0 else if bits w 63 62 = 2 then bits w 61 31 else 0 } := by
  simp only [bundleOf, mSlotOf, lSlotOf, bits_bits, bit_bits, Nat.reduceAdd, Nat.reduceLeDiff]

theorem b2n_bit (v i : Nat) : b2n (bit v i) = bits v i i := by
  have h := Nat.mod_two_eq_zero_or_one (v / 2 ^ i)
  rcases h with h | h <;> simp [bit, bits, b2n, h]

/-- The 31 bits are the M slot's word: no bit is dropped. -/
theorem mWord_mSlotOf {v : Nat} (h : v < 2 ^ 31) : mWord (mSlotOf v) = v := by
  simp only [mWord, mSlotOf, b2n_bit, bits]
  omega

theorem lWord_lSlotOf {v : Nat} (h : v < 2 ^ 31) : lWord (lSlotOf v) = v := by
  simp only [lWord, lSlotOf, b2n_bit, bits]
  omega

/-- An M slot whose fields fit their bits. -/
def MFits (x : MSlot) : Prop :=
  x.op < 2 ^ 7 ∧ x.x.pq < 2 ^ 2 ∧ x.x.md < 2 ^ 5 ∧ x.x.ma < 2 ^ 5 ∧ x.x.mb < 2 ^ 5 ∧ x.x.mi < 2 ^ 5

/-- An L slot whose fields fit their bits. -/
def LFits (x : LSlot) : Prop :=
  x.op < 2 ^ 6 ∧ x.x.pq < 2 ^ 2 ∧ x.x.ld < 2 ^ 5 ∧ x.x.lp < 2 ^ 3 ∧ x.x.lx < 2 ^ 13

theorem beq_one_b2n (p : Bool) : (b2n p == 1) = p := by cases p <;> rfl

theorem mWord_lt {x : MSlot} (h : MFits x) : mWord x < 2 ^ 31 := by
  obtain ⟨hop, hpq, hmd, hma, hmb, hmi⟩ := h
  have h1 := b2n_lt x.x.pe
  have h2 := b2n_lt x.x.pn
  unfold mWord
  omega

theorem lWord_lt {x : LSlot} (h : LFits x) : lWord x < 2 ^ 31 := by
  obtain ⟨hop, hpq, hld, hlp, hlx⟩ := h
  have h1 := b2n_lt x.x.pe
  have h2 := b2n_lt x.x.pn
  unfold lWord
  omega

/-- Each field of an M slot stands in its own bits of the word. -/
theorem bits_mWord {x : MSlot} (h : MFits x) :
    bits (mWord x) 30 24 = x.op ∧ bits (mWord x) 23 23 = b2n x.x.pe ∧ bits (mWord x) 22 22 = b2n x.x.pn ∧ bits (mWord x) 21 20 = x.x.pq
      ∧ bits (mWord x) 19 15 = x.x.md ∧ bits (mWord x) 14 10 = x.x.ma ∧ bits (mWord x) 9 5 = x.x.mb ∧ bits (mWord x) 4 0 = x.x.mi := by
  obtain ⟨hop, hpq, hmd, hma, hmb, hmi⟩ := h
  have h1 := b2n_lt x.x.pe
  have h2 := b2n_lt x.x.pn
  simp only [mWord, bits]
  omega

theorem bits_lWord {x : LSlot} (h : LFits x) :
    bits (lWord x) 30 25 = x.op ∧ bits (lWord x) 24 24 = b2n x.x.pe ∧ bits (lWord x) 23 23 = b2n x.x.pn ∧ bits (lWord x) 22 21 = x.x.pq
      ∧ bits (lWord x) 20 16 = x.x.ld ∧ bits (lWord x) 15 13 = x.x.lp ∧ bits (lWord x) 12 0 = x.x.lx := by
  obtain ⟨hop, hpq, hld, hlp, hlx⟩ := h
  have h1 := b2n_lt x.x.pe
  have h2 := b2n_lt x.x.pn
  simp only [lWord, bits]
  omega

/-- A slot that names no finding of an access is the slot of its word. -/
theorem mSlotOf_mWord {x : MSlot} (h : MFits x) (hue : x.x.ue = []) (hce : x.x.ce = 0) (hfe : x.x.fe = false) : mSlotOf (mWord x) = x := by
  obtain ⟨hop, hpe, hpn, hpq, hmd, hma, hmb, hmi⟩ := bits_mWord h
  obtain ⟨op, pe, pn, pq, md, ma, mb, mi, ue, ce, fe⟩ := x
  cases hue
  cases hce
  cases hfe
  simp only [mSlotOf, bit_eq_bits, hop, hpe, hpn, hpq, hmd, hma, hmb, hmi, beq_one_b2n]

theorem lSlotOf_lWord {x : LSlot} (h : LFits x) (hue : x.x.ue = []) (hce : x.x.ce = 0) (hfe : x.x.fe = false) (hlate : x.x.late = false) :
    lSlotOf (lWord x) = x := by
  obtain ⟨hop, hpe, hpn, hpq, hld, hlp, hlx⟩ := bits_lWord h
  obtain ⟨op, pe, pn, pq, ld, lp, lx, ue, ce, fe, late⟩ := x
  cases hue
  cases hce
  cases hfe
  cases hlate
  simp only [lSlotOf, bit_eq_bits, hop, hpe, hpn, hpq, hld, hlp, hlx, beq_one_b2n]

/-! ## Legal fields fit their bits -/

/-- The greatest value that a kind of operand field of `w` bits takes. -/
def fldTop (w : Nat) : Fld → Nat
  | .no => 0
  | .v => 31
  | .a => 7
  | .q => 3
  | .p => 7
  | .pw => 6
  | .any => 2 ^ w - 1
  | .rng _ hi => hi
  | .bq => 7

theorem le_fldTop {w x : Nat} {f : Fld} (h : fldOk w x f = true) : x ≤ fldTop w f := by
  cases f <;> simp only [fldOk, fldTop, beq_iff_eq, decide_eq_true_eq, Bool.and_eq_true] at h ⊢ <;> omega

/-- Every code from 0x46 on is reserved in the M slot (04 R142). -/
theorem mForm_reserved {op : Nat} (h : 0x46 ≤ op) (long : Bool) : mForm op long = none := by
  unfold mForm
  rw [if_neg (by omega), if_neg (by omega), if_neg (by omega), if_neg (by omega)]
  split
  all_goals try omega
  exact if_neg (by omega)

theorem mForm_tops : ∀ op < 0x46, ∀ long, ∀ k ∈ mForm op long,
    fldTop 5 k.1 < 32 ∧ fldTop 5 k.2.1 < 32 ∧ fldTop 5 k.2.2.1 < 32 ∧ fldTop 5 k.2.2.2 < 32 := by decide

/-- Every code from 0x28 on is reserved in the L slot (04 R150). -/
theorem lForm_reserved {op : Nat} (h : 0x28 ≤ op) (long : Bool) : lForm op long = none := by
  unfold lForm
  rw [if_neg (by omega)]
  split
  all_goals try omega
  rfl

theorem lForm_tops : ∀ op < 0x28, ∀ long, ∀ k ∈ lForm op long,
    fldTop 5 k.1 < 32 ∧ fldTop 3 k.2.1 < 8 ∧ fldTop 13 k.2.2 < 8192 := by decide

/-- The four operands of a legal M slot suit the kinds that its operation gives them. -/
theorem fields_of_mOk {x : MSlot} {long : Bool} {fd fa fb fi : Fld} (hk : mForm x.op long = some (fd, fa, fb, fi)) (h : mOk x long = true) :
    fldOk 5 x.x.md fd = true ∧ fldOk 5 x.x.ma fa = true ∧ fldOk 5 x.x.mb fb = true ∧ fldOk 5 x.x.mi fi = true ∧ x.x.pq < 4
      ∧ (x.op = 0x10 → vcmpOk x.x = true) := by
  simp only [mOk, hk, Bool.and_eq_true, Bool.or_eq_true, decide_eq_true_eq, bne_iff_ne, ne_eq] at h
  obtain ⟨⟨⟨⟨⟨hd, ha⟩, hb⟩, hi⟩, hq⟩, hc⟩ := h
  exact ⟨hd, ha, hb, hi, hq, fun e => hc.resolve_left (· e)⟩

/-- The three operands of a legal L slot suit the kinds that its operation gives them, and LOOP, LOOPI and TEND are not predicated. -/
theorem fields_of_lOk {x : LSlot} {long : Bool} {fd fp fi : Fld} (hk : lForm x.op long = some (fd, fp, fi)) (h : lOk x long = true) :
    fldOk 5 x.x.ld fd = true ∧ fldOk 3 x.x.lp fp = true ∧ fldOk 13 x.x.lx fi = true ∧ x.x.pq < 4
      ∧ (x.op = 0x22 ∨ x.op = 0x23 ∨ x.op = 0x24 → x.x.pe = false) := by
  simp only [lOk, hk, Bool.and_eq_true, decide_eq_true_eq, Bool.not_eq_true', Bool.and_eq_false_iff, Bool.or_eq_false_iff,
    beq_eq_false_iff_ne] at h
  obtain ⟨⟨⟨⟨hd, hp⟩, hi⟩, hq⟩, hl⟩ := h
  refine ⟨hd, hp, hi, hq, fun e => hl.resolve_right ?_⟩
  rintro ⟨⟨h1, h2⟩, h3⟩
  omega

theorem mFits_of_mOk {x : MSlot} {long : Bool} (h : mOk x long = true) : MFits x := by
  rcases hk : mForm x.op long with _ | ⟨fd, fa, fb, fi⟩
  · simp [mOk, hk] at h
  have hop : x.op < 0x46 := Nat.lt_of_not_le fun hop => by
    rw [mForm_reserved hop] at hk
    cases hk
  obtain ⟨td, ta, tb, ti⟩ := mForm_tops _ hop long _ hk
  obtain ⟨hd, ha, hb, hi, hq, _⟩ := fields_of_mOk hk h
  exact ⟨by omega, hq, Nat.lt_of_le_of_lt (le_fldTop hd) td, Nat.lt_of_le_of_lt (le_fldTop ha) ta, Nat.lt_of_le_of_lt (le_fldTop hb) tb, Nat.lt_of_le_of_lt (le_fldTop hi) ti⟩

theorem lFits_of_lOk {x : LSlot} {long : Bool} (h : lOk x long = true) : LFits x := by
  rcases hk : lForm x.op long with _ | ⟨fd, fp, fi⟩
  · simp [lOk, hk] at h
  have hop : x.op < 0x28 := Nat.lt_of_not_le fun hop => by
    rw [lForm_reserved hop] at hk
    cases hk
  obtain ⟨td, tp, ti⟩ := lForm_tops _ hop long _ hk
  obtain ⟨hd, hp, hi, hq, _⟩ := fields_of_lOk hk h
  exact ⟨by omega, hq, Nat.lt_of_le_of_lt (le_fldTop hd) td, Nat.lt_of_le_of_lt (le_fldTop hp) tp, Nat.lt_of_le_of_lt (le_fldTop hi) ti⟩

/-! ## Bundles and their words -/

/-- The word of a format and two halves of 31 bits gives them back (04 R130). -/
theorem bits_halves {f m l : Nat} (hf : f < 4) (hm : m < 2 ^ 31) (hl : l < 2 ^ 31) :
    bits (2 ^ 62 * f + 2 ^ 31 * m + l) 63 62 = f ∧ bits (2 ^ 62 * f + 2 ^ 31 * m + l) 61 31 = m
      ∧ bits (2 ^ 62 * f + 2 ^ 31 * m + l) 30 0 = l ∧ 2 ^ 62 * f + 2 ^ 31 * m + l < 2 ^ 64 := by
  unfold bits
  omega

theorem halves_bits {w : Nat} (h : w < 2 ^ 64) : 2 ^ 62 * bits w 63 62 + 2 ^ 31 * bits w 61 31 + bits w 30 0 = w := by
  unfold bits
  omega

/-- A legal bundle has one of the three formats, and the fields of both its slots are legal (04 R130). -/
theorem slots_of_bundleOk {b : Bundle} (h : bundleOk b = true) : b.fmt < 3 ∧ (∃ long, mOk b.m long = true) ∧ ∃ long, lOk b.l long = true := by
  unfold bundleOk at h
  split at h
  all_goals simp only [Bool.and_eq_true, Bool.false_eq_true] at h
  next e => exact ⟨by omega, ⟨_, h.1⟩, _, h.2⟩
  next e => exact ⟨by omega, ⟨_, h.1.1.1⟩, _, h.2⟩
  next e => exact ⟨by omega, ⟨_, h.2⟩, _, h.1.1.1⟩

theorem bundleOf_bundleWord {b : Bundle} (h : bundleOk b = true) (hp : bundlePlain b = true) :
    bundleOf (bundleWord b) = b ∧ bundleWord b < 2 ^ 64 := by
  simp only [bundlePlain, Bool.and_eq_true, Bool.or_eq_true, List.isEmpty_iff, beq_iff_eq, bne_iff_ne, ne_eq, Bool.not_eq_true',
    decide_eq_true_eq] at hp
  obtain ⟨⟨⟨⟨⟨⟨⟨⟨⟨⟨mue, mce⟩, mfe⟩, lue⟩, lce⟩, lfe⟩, late⟩, h0⟩, h1⟩, h2⟩, hi⟩ := hp
  obtain ⟨hf, ⟨_, hm⟩, _, hl⟩ := slots_of_bundleOk h
  replace hm := mFits_of_mOk hm
  replace hl := lFits_of_lOk hl
  have hhi : (if b.fmt = 2 then b.imm else mWord b.m) < 2 ^ 31 := by
    split
    · exact hi
    · exact mWord_lt hm
  have hlo : (if b.fmt = 1 then b.imm else lWord b.l) < 2 ^ 31 := by
    split
    · exact hi
    · exact lWord_lt hl
  obtain ⟨ef, em, el, hw⟩ := bits_halves (by omega : b.fmt < 4) hhi hlo
  refine ⟨?_, hw⟩
  have em' := mSlotOf_mWord hm mue mce mfe
  have el' := lSlotOf_lWord hl lue lce lfe late
  rw [bundleOf_eq, bundleWord, ef, em, el]
  obtain ⟨fmt, m, l, imm⟩ := b
  dsimp only at *
  have hcases : fmt = 0 ∨ fmt = 1 ∨ fmt = 2 := by omega
  rcases hcases with rfl | rfl | rfl
  · simp [em', el', h0.resolve_left (by simp)]
  · simp [em', h1.resolve_left (by simp)]
  · simp [el', h2.resolve_left (by simp)]

theorem bits_lt (w hi lo : Nat) : bits w hi lo < 2 ^ (hi + 1 - lo) := Nat.mod_lt _ (Nat.two_pow_pos _)

theorem bundlePlain_bundleOf (w : Nat) : bundlePlain (bundleOf w) = true := by
  have h1 : bits w 30 0 < 2147483648 := bits_lt w 30 0
  have h2 : bits w 61 31 < 2147483648 := bits_lt w 61 31
  rw [bundleOf_eq]
  by_cases e1 : bits w 63 62 = 1
  · simp [bundlePlain, mSlotOf, e1, h1]
  · by_cases e2 : bits w 63 62 = 2
    · simp [bundlePlain, lSlotOf, e2, h2]
    · simp [bundlePlain, mSlotOf, lSlotOf, e1, e2]

theorem bundleWord_bundleOf {w : Nat} (h : w < 2 ^ 64) : bundleWord (bundleOf w) = w := by
  have hm := mWord_mSlotOf (bits_lt w 61 31)
  have hl := lWord_lSlotOf (bits_lt w 30 0)
  have hw := halves_bits h
  rw [bundleOf_eq, bundleWord]
  by_cases e1 : bits w 63 62 = 1
  · simpa [e1, hm] using hw
  · by_cases e2 : bits w 63 62 = 2
    · simpa [e2, hl] using hw
    · simpa [e1, e2, hm, hl] using hw

/-- Settles O24: a legal field fits the bits of its slot, each half of a word gives back its slot or immediate, and every bit of a word
belongs to one field. -/
theorem bundleWords : Obligations.BundleWords := by
  unfold Obligations.BundleWords
  exact ⟨fun b h hp => bundleOf_bundleWord h hp, fun w hw _ => ⟨bundlePlain_bundleOf w, bundleWord_bundleOf hw⟩⟩

end Sys2Proof.Proofs

namespace Sys2Proof.Proofs

open Sys2Proof.Machine Sys2Proof.Safety Sys2Proof.Laws

/-! ## The commands of the engine rows

Every one of them runs one bundle with the meanings of that bundle's two operations. -/

/-- The bundle of an operation of the M slot beside any L slot. -/
abbrev mBundle (op : Nat) (m : MArgs) (l : LSlot) : Bundle := { m := { op := op, x := m }, l := l }

/-- The bundle of an operation of the L slot beside any M slot. -/
abbrev lBundle (op : Nat) (l : LArgs) (m : MSlot) : Bundle := { m := m, l := { op := op, x := l } }

/-- The bundle of an operation of format 0x2 with its long immediate. -/
abbrev longBundle (op : Nat) (l : LArgs) (imm : Nat) : Bundle := { fmt := 2, l := { op := op, x := l }, imm := imm }

/-- A command that runs bundle `b` on engine `e`. -/
def Runs (i : Instr) (e : Nat) (b : Bundle) : Prop :=
  ∀ s, exec i s = ends (runBundle e b (mSem b.m.op) (lSem b.l.op) s)

/-- A row of the M slot: its command runs the bundle with its operation beside any L slot (04 R142). -/
def MRow (op : Nat) (c : Nat → MArgs → LSlot → Instr) : Prop := ∀ e m l, Runs (c e m l) e (mBundle op m l)

/-- A row of the L slot: its command runs the bundle with its operation beside any M slot (04 R150). -/
def LRow (op : Nat) (c : Nat → LArgs → MSlot → Instr) : Prop := ∀ e l m, Runs (c e l m) e (lBundle op l m)

/-- A row of format 0x2: its command runs the bundle with its operation and the long immediate (04 R130). -/
def LongRow (op : Nat) (c : Nat → LArgs → Nat → Instr) : Prop := ∀ e l imm, Runs (c e l imm) e (longBundle op l imm)

theorem allM_of_row {P : Nat → (Nat → MArgs → LSlot → Instr) → Prop} (h : ∀ op c, MRow op c → P op c) : AllM P := by
  unfold AllM
  and_intros <;> exact h _ _ fun _ _ _ _ => rfl

theorem allL_of_row {P : Nat → (Nat → LArgs → MSlot → Instr) → Prop} (h : ∀ op c, LRow op c → P op c) : AllL P := by
  unfold AllL
  and_intros <;> exact h _ _ fun _ _ _ _ => rfl

section
variable {i : Instr} {e : Nat} {b : Bundle} {s : State}

/-- A command whose two slots complete with these effects. -/
theorem Runs.exec_issues {me le : Eff} (hr : Runs i e b) (h : executes e b s = true) (hm : mDoes e b s = me) (hl : lDoes e b s = le)
    (cm : completes e s me = true) (cl : completes e s le = true) : exec i s = issues e b me le s :=
  (hr s).trans (runBundle_issues h hm.symm hl.symm cm cl)

/-- A bundle that executes is legal. -/
theorem bundleOk_of_executes (h : executes e b s = true) : bundleOk b = true := by
  simp only [executes, Bool.and_eq_true] at h
  obtain ⟨⟨-, hb⟩, -⟩ := h
  exact hb

theorem completes_nothing : completes e s {} = true := rfl

theorem mDoes_of_stopped (h : mActs e b s = false) : mDoes e b s = {} := by simp [mDoes, h]

theorem lDoes_of_stopped (h : lActs e b s = false) : lDoes e b s = {} := by simp [lDoes, h]

/-- An empty slot does nothing, whatever its predicate. -/
theorem mDoes_of_empty (h : b.m.op = 0) : mDoes e b s = {} := by
  unfold mDoes
  rw [h]
  exact ite_self _

theorem lDoes_of_empty (h : b.l.op = 0) : lDoes e b s = {} := by
  unfold lDoes
  rw [h]
  exact ite_self _

end

/-- An operation of format 0x2 that its predicate stops leaves its bundle without effect. -/
theorem LongRow.exec_stopped {op e imm : Nat} {c : Nat → LArgs → Nat → Instr} {l : LArgs} {s : State} (hr : LongRow op c)
    (he : executes e (longBundle op l imm) s = true) (ha : lActs e (longBundle op l imm) s = false) :
    exec (c e l imm) s = issues e (longBundle op l imm) {} {} s :=
  (hr e l imm).exec_issues he (mDoes_of_empty rfl) (lDoes_of_stopped ha) completes_nothing completes_nothing

/-- LOOP, LOOPI and TEND are not legal with PE = 1 (04 R133). -/
theorem bundleOk_of_predicated_loop {b : Bundle} (h : b.l.op = 0x22 ∨ b.l.op = 0x23 ∨ b.l.op = 0x24) (hp : b.l.x.pe = true) : bundleOk b = false := by
  rw [Bool.eq_false_iff]
  intro hk
  obtain ⟨_, _, long, hl⟩ := slots_of_bundleOk hk
  rcases hf : lForm b.l.op long with _ | ⟨fd, fp, fi⟩
  · simp [lOk, hf] at hl
  · obtain ⟨_, _, _, _, hn⟩ := fields_of_lOk hf hl
    rw [hn h] at hp
    cases hp

/-- Settles O6: a stopped slot has the empty effect, which completes; the other slot completes by hypothesis or is empty. -/
theorem predicatedSlots : Obligations.PredicatedSlots := by
  unfold Obligations.PredicatedSlots
  simp only [Bool.and_eq_true, Bool.not_eq_true']
  refine ⟨allM_of_row fun op c hr e m l s h => ?_, allL_of_row fun op c hr e l m s h => ?_, ?long, fun e m l imm s h => ?smovi,
    fun e m imm s h => ?vimm, fun b h hp => bundleOk_of_predicated_loop h hp⟩
  · obtain ⟨⟨he, ha⟩, hc⟩ := h
    exact (hr e m l).exec_issues he (mDoes_of_stopped ha) rfl completes_nothing hc
  · obtain ⟨⟨he, ha⟩, hc⟩ := h
    exact (hr e l m).exec_issues he rfl (lDoes_of_stopped ha) hc completes_nothing
  case long =>
    simp only [List.forall_mem_cons]
    exact ⟨fun e l imm s h => LongRow.exec_stopped (fun _ _ _ _ => rfl) h.1 h.2, fun e l imm s h => LongRow.exec_stopped (fun _ _ _ _ => rfl) h.1 h.2,
      fun e l imm s h => LongRow.exec_stopped (fun _ _ _ _ => rfl) h.1 h.2, by simp⟩
  case smovi =>
    obtain ⟨⟨he, ha⟩, hc⟩ := h
    exact Runs.exec_issues (fun _ => rfl) he (mDoes_of_stopped ha) rfl completes_nothing hc
  case vimm => exact Runs.exec_issues (fun _ => rfl) h.1 (mDoes_of_stopped h.2) (lDoes_of_empty rfl) completes_nothing completes_nothing

end Sys2Proof.Proofs

namespace Sys2Proof.Proofs

open Sys2Proof.Machine Sys2Proof.Safety Sys2Proof.Laws

/-! ## Illegal bundles (04 R125, R130, R137) -/

/-- A format that is not 0x0, 0x1 or 0x2 is reserved. -/
theorem bundleOk_of_reserved_format {b : Bundle} (h : 3 ≤ b.fmt) : bundleOk b = false := by
  rw [Bool.eq_false_iff]
  intro hk
  have := (slots_of_bundleOk hk).1
  omega

/-- P7 is not a value of a pointer that is written. -/
theorem bundleOk_of_written_P7 {b : Bundle} (hp : b.l.x.lp = 7) (hw : ∀ long, ∀ k ∈ lForm b.l.op long, k.2.1 = .pw) : bundleOk b = false := by
  rw [Bool.eq_false_iff]
  intro hk
  obtain ⟨_, _, long, hl⟩ := slots_of_bundleOk hk
  rcases hf : lForm b.l.op long with _ | ⟨fd, fp, fi⟩
  · simp [lOk, hf] at hl
  · have hlp := (fields_of_lOk hf hl).2.1
    obtain rfl : fp = .pw := hw long _ hf
    simp [fldOk, hp] at hlp

theorem bundleOk_of_firs_P7 {b : Bundle} (ho : b.m.op = 0x29) (hp : b.m.x.mb = 7) : bundleOk b = false := by
  rw [Bool.eq_false_iff]
  intro hk
  obtain ⟨_, ⟨long, hm⟩, _⟩ := slots_of_bundleOk hk
  have hf : mForm b.m.op long = some (.a, .v, .pw, .any) := by rw [ho]; rfl
  have hmb := (fields_of_mOk hf hm).2.2.1
  simp [fldOk, hp] at hmb

/-- The pointer operations that write their pointer (04 R150). -/
theorem lForm_pointer_written : ∀ op ∈ [0x0B, 0x0C, 0x0D, 0x0F, 0x02, 0x04, 0x06, 0x08], ∀ long, ∀ k ∈ lForm op long, k.2.1 = Fld.pw := by decide

/-- Settles O7: every row runs its bundle, whose legality is tested before either slot is. -/
theorem illegalBundles : Obligations.IllegalBundles := by
  unfold Obligations.IllegalBundles
  refine ⟨allM_of_row fun op c hr e m l s he hf hk => ?_, allL_of_row fun op c hr e l m s he hf hk => ?_,
    fun b h => bundleOk_of_reserved_format h, fun b hp ho => bundleOk_of_written_P7 hp (lForm_pointer_written _ (by simpa using ho)),
    fun b ho hp => bundleOk_of_firs_P7 ho hp⟩
  · exact (hr e m l s).trans (run_illegal he hf hk)
  · exact (hr e l m s).trans (run_illegal he hf hk)

/-! ## Pointers (04 R150, R151) -/

theorem toNat_ofInt18 (v : Int) : ((BitVec.ofInt 18 v).toNat : Int) = v % 2 ^ 18 := by
  rw [BitVec.toNat_ofInt]
  omega

theorem advance_addr_circular {p : Ptr} (d : Int) (h : p.len ≠ 0) :
    ((advance p d).addr.toNat : Int) = (p.base.toNat + (p.addr.toNat - p.base.toNat + d) % (p.len.toNat : Int)) % 2 ^ 18 := by
  simp only [advance, if_neg h, toNat_ofInt18]

theorem advance_addr_linear {p : Ptr} (d : Int) (h : p.len = 0) : ((advance p d).addr.toNat : Int) = (p.addr.toNat + d) % 2 ^ 18 := by
  simp only [advance, if_pos h, toNat_ofInt18]

/-- Settles O9: an advance is cut to 18 bits, and each pointer operation writes the one field it names. -/
theorem pointerAdvance : Obligations.PointerAdvance := by
  unfold Obligations.PointerAdvance
  refine ⟨fun p d h => advance_addr_circular d h, fun p d h => advance_addr_linear d h, fun p d => ⟨rfl, rfl⟩,
    fun x g c s e i => ⟨rfl, rfl, rfl⟩, fun x i g c s e => rfl⟩

/-! ## Registers at a tick entry (04 R120) -/

theorem regs_nextChain {e h : Nat} {rest : List Nat} {s : State} (ht : (engAt s e).todo = h :: rest) :
    (engAt (nextChain e s) e).cur = h ∧ (engAt (nextChain e s) e).regs = {} := by
  simp [nextChain, ht]

theorem gp_P7 (t : Regs) : gp t 7 = {} := if_pos rfl

theorem putReg_P7 (t : Regs) (x : Ptr) : putReg t (.p 7 x) = t := by simp [putReg]

/-- Settles O10: a chain is entered with no register listed, and P7 is never listed. -/
theorem tickEntryRegisters : Obligations.TickEntryRegisters := by
  unfold Obligations.TickEntryRegisters
  intro e s h rest ht
  obtain ⟨hc, hr⟩ := regs_nextChain ht
  dsimp only
  rw [hr]
  exact ⟨hc, fun _ => rfl, fun _ => rfl, fun _ => rfl, fun _ => rfl, fun _ => rfl, fun i => ite_self _,
    fun t x => ⟨gp_P7 t, putReg_P7 t x⟩⟩

/-! ## Stores and poison (04 R129) -/

/-- A word stays poisoned through a store exactly when the store does not cover it whole. -/
theorem mem_poison_putBlock (c : Chain) (a : Nat) (bs : List Byte) (w : Nat) :
    w ∈ (putBlock a bs c).poison ↔ w ∈ c.poison ∧ ¬ (a ≤ 8 * w ∧ 8 * w + 8 ≤ a + bs.length) := by
  simp only [putBlock, List.mem_filter, Bool.not_eq_true', Bool.and_eq_false_iff, decide_eq_false_iff_not]
  exact and_congr_right fun _ => by omega

/-- An access lies in the block and is aligned. -/
theorem within_iff {c : Chain} {a : Int} {n al : Nat} : within c a n al = true ↔ 0 ≤ a ∧ a + n ≤ c.desc.stateBytes ∧ a % (al : Int) = 0 := by
  simp [within, and_assoc]

/-- Settles O11: an aligned store of 32 or 128 bytes begins and ends at a word's edge, and 4 bytes are less than a word. -/
theorem storesAndPoison : Obligations.StoresAndPoison := by
  unfold Obligations.StoresAndPoison
  refine ⟨fun c a bs w h1 h2 hw => ?_, fun c a bs w h => ?_, fun c a n w hn hw h1 h2 => ?_, fun a w => by omega⟩
  · exact ((mem_poison_putBlock c a bs w).1 hw).2 ⟨h1, h2⟩
  · exact (mem_poison_putBlock c a bs w).trans (and_iff_left h)
  · obtain ⟨h0, -, hal⟩ := within_iff.1 hw
    omega

end Sys2Proof.Proofs

namespace Sys2Proof.Proofs

open Sys2Proof.Machine Sys2Proof.Safety Sys2Proof.Laws

/-! ## Operations of the M slot that write one register (04 R138-R149) -/

theorem mOk_of_executes {e op : Nat} {m : MArgs} {l : LSlot} {s : State} (h : executes e (mBundle op m l) s = true) :
    mOk { op := op, x := m } false = true := by
  have hb : (mOk { op := op, x := m } false && lOk l false) = true := bundleOk_of_executes h
  exact (Bool.and_eq_true_iff.1 hb).1

/-- A row of the M slot whose operation, with legal fields, writes the register and the value that `f` gives, and does nothing else. -/
def Writes (op : Nat) (c : Nat → MArgs → LSlot → Instr) (f : MArgs → Regs → RegW) : Prop :=
  MRow op c ∧ ∀ m g k, mOk { op := op, x := m } false = true → mSem op m none g k = { w := [f m g] }

theorem Writes.exec_eq {op : Nat} {c : Nat → MArgs → LSlot → Instr} {f : MArgs → Regs → RegW} (hw : Writes op c f) {e : Nat} {m : MArgs}
    {l : LSlot} {s : State}
    (h : (executes e (mBundle op m l) s && completes e s (lDoes e (mBundle op m l) s)) = true) :
    exec (c e m l) s = issues e (mBundle op m l) (if mActs e (mBundle op m l) s then { w := [f m (regsOf e s)] } else {})
      (lDoes e (mBundle op m l) s) s := by
  obtain ⟨he, hc⟩ := Bool.and_eq_true_iff.1 h
  refine (hw.1 e m l).exec_issues he ?_ rfl ?_ hc
  · unfold mDoes
    congr 1
    exact hw.2 _ _ _ (mOk_of_executes he)
  · split <;> rfl

theorem writes_rfl {op : Nat} {c : Nat → MArgs → LSlot → Instr} {f : MArgs → Regs → RegW} (hr : MRow op c)
    (hf : ∀ m g k, mSem op m none g k = { w := [f m g] }) : Writes op c f := ⟨hr, fun m g k _ => hf m g k⟩

theorem max_toInt (a b : W32) : BitVec.ofInt 32 (max a.toInt b.toInt) = if a.toInt < b.toInt then b else a := by
  split
  · rw [Int.max_eq_right (by omega), BitVec.ofInt_toInt]
  · rw [Int.max_eq_left (by omega), BitVec.ofInt_toInt]

theorem min_toInt (a b : W32) : BitVec.ofInt 32 (min a.toInt b.toInt) = if b.toInt < a.toInt then b else a := by
  split
  · rw [Int.min_eq_right (by omega), BitVec.ofInt_toInt]
  · rw [Int.min_eq_left (by omega), BitVec.ofInt_toInt]

theorem sshiftRight_eq_div (a : W32) (n : Nat) : a.sshiftRight n = w32 (a.toInt / 2 ^ n) := by
  rw [BitVec.sshiftRight, Int.shiftRight_eq_div_pow, w32]
  rfl

theorem clampI_eq_max_min {lo hi : Int} (h : lo ≤ hi) (v : Int) : clampI lo hi v = max lo (min hi v) := by
  unfold clampI
  omega

theorem symmetric_range (n : Nat) : -((2 : Int) ^ n - 1) ≤ 2 ^ n - 1 := by
  have : (0 : Int) < 2 ^ n := Int.pow_pos (by decide)
  omega

theorem natAbs_eq_ite (v : Int) : (v.natAbs : Int) = if v < 0 then -v else v := by
  split <;> omega

/-- MI of a legal operation goes up to the top of its kind. -/
theorem mi_le_of_mOk {op : Nat} {m : MArgs} {fd fa fb fi : Fld} (hk : mForm op false = some (fd, fa, fb, fi))
    (h : mOk { op := op, x := m } false = true) : m.mi ≤ fldTop 5 fi := by
  obtain ⟨-, -, -, hi, -⟩ := fields_of_mOk hk h
  exact le_fldTop hi

theorem mi_mod_eight {op : Nat} {m : MArgs} {fd fa fb fi : Fld} (hk : mForm op false = some (fd, fa, fb, fi))
    (h : mOk { op := op, x := m } false = true) (hn : fldTop 5 fi < 8) : m.mi % 8 = m.mi :=
  Nat.mod_eq_of_lt (Nat.lt_of_le_of_lt (mi_le_of_mOk hk h) hn)

/-- Bit 3 of the condition code of VCMP asks for all lanes (04 R143). -/
theorem bit_three {v : Nat} (h : v < 16) : bit v 3 = decide (8 ≤ v) := by
  unfold bit
  exact decide_eq_decide.2 (by omega : v / 2 ^ 3 % 2 = 1 ↔ 8 ≤ v)

theorem bit_zero {v : Nat} (h : v < 2) : bit v 0 = (v == 1) := by
  simp [bit, Nat.mod_eq_of_lt h]

/-- Settles O39: each operation writes its lanes, where the table's expression and the model's agree lane by lane. -/
theorem vectorOperations : Obligations.VectorOperations := by
  unfold Obligations.VectorOperations
  refine fun x hx e m l s h => Writes.exec_eq (f := fun m g => .v m.md (x.2.2 m g)) ?_ h
  clear h s l m e
  revert x
  simp only [List.forall_mem_cons]
  refine ⟨?vadd, ?vadds, ?vsub, ?vsubs, ?vnegs, ?vabss, ?vmax, ?vmin, ?vand, ?vor, ?vxor, ?vshls, ?vshrr, ?vshr, ?vsatn, ?vmulr, ?ext,
    ?lin, ?gmul, ?log2, ?exp2, ?vbc, ?vput, ?vmov, ?vrot, by simp⟩
  case vabss => exact writes_rfl (fun _ _ _ _ => rfl) fun m g k => by simp only [← natAbs_eq_ite]; rfl
  case vmax => exact writes_rfl (fun _ _ _ _ => rfl) fun m g k => by simp only [max_toInt]; rfl
  case vmin => exact writes_rfl (fun _ _ _ _ => rfl) fun m g k => by simp only [min_toInt]; rfl
  case vshr => exact writes_rfl (fun _ _ _ _ => rfl) fun m g k => by simp only [sshiftRight_eq_div]; rfl
  case vsatn => exact writes_rfl (fun _ _ _ _ => rfl) fun m g k => by simp only [← clampI_eq_max_min (symmetric_range _)]; rfl
  case vput => exact ⟨fun _ _ _ _ => rfl, fun m g k h => by simp only [mSem, mVput, mi_mod_eight rfl h (by decide)]⟩
  case vrot => exact writes_rfl (fun _ _ _ _ => rfl) fun m g k => by simp only [mSem, mVrot, Nat.add_mod_mod]
  all_goals exact writes_rfl (fun _ _ _ _ => rfl) fun m g k => rfl

/-- Settles O40: each operation writes its one register; the ranges of MI make the model's reductions of it the identity. -/
theorem scalarAndAccumulatorOperations : Obligations.ScalarAndAccumulatorOperations := by
  unfold Obligations.ScalarAndAccumulatorOperations
  refine fun x hx e m l s h => Writes.exec_eq (f := x.2.2) ?_ h
  clear h s l m e
  revert x
  simp only [List.forall_mem_cons]
  refine ⟨?vcmp, ?vmac, ?vmsu, ?vmul, ?aclr, ?aadd, ?asum, ?vtoa, ?gmac, ?sadd, ?ssub, ?sadds, ?smul, ?sand, ?sor, ?sxor, ?sshl, ?sshr,
    ?saddi, ?scmp, ?qset, ?vget, by simp⟩
  case vcmp => exact ⟨fun _ _ _ _ => rfl, fun m g k h => by
    simp only [mSem, mVcmp, vcmpFlag, bit_three (Nat.lt_of_le_of_lt (mi_le_of_mOk rfl h) (by decide)), decide_eq_true_eq]⟩
  case scmp => exact ⟨fun _ _ _ _ => rfl, fun m g k h => by simp only [mSem, mScmp, mi_mod_eight rfl h (by decide)]⟩
  case qset => exact ⟨fun _ _ _ _ => rfl, fun m g k h => by
    simp only [mSem, mQset, bit_zero (Nat.lt_of_le_of_lt (mi_le_of_mOk rfl h) (by decide))]⟩
  case vget => exact ⟨fun _ _ _ _ => rfl, fun m g k h => by simp only [mSem, mVget, mi_mod_eight rfl h (by decide)]⟩
  all_goals exact writes_rfl (fun _ _ _ _ => rfl) fun m g k => rfl

end Sys2Proof.Proofs

namespace Sys2Proof.Proofs

open Sys2Proof.Machine Sys2Proof.Safety Sys2Proof.Laws

/-! ## NOP, immediates, the biquad and the FIR step (04 R130, R142, R144, R145) -/

theorem readWord_of_sound {c : Chain} {a : Nat} (h : meetsBad c [] a 4 = false) : readWord c [] a = blkWord c.blk a := by
  simp [readWord, h]

theorem mi_of_bq {m : MArgs} (h : mOk { op := 0x28, x := m } false = true) : m.mi % 8 = m.mi := mi_mod_eight rfl h (by decide)

/-- The pointer of FIRS is one of those that are written. -/
theorem mb_of_firs {m : MArgs} (h : mOk { op := 0x29, x := m } false = true) : m.mb % 8 = m.mb := by
  obtain ⟨-, -, hb, -⟩ := fields_of_mOk (x := { op := 0x29, x := m }) rfl h
  exact Nat.mod_eq_of_lt (Nat.lt_of_le_of_lt (le_fldTop hb) (by decide))

/-- A step of FIRS whose eight words lie in the block and are sound (04 R145). -/
theorem mFirs_of_sound {m : MArgs} {imm : Option Nat} {g : Regs} {c : Chain} (hb : m.mb % 8 = m.mb) (hu : m.ue = [])
    (hw : ∀ i < 8, within c (firAddr (gp g m.mb) i) 4 4 = true ∧ meetsBad c [] (firAddr (gp g m.mb) i) 4 = false) :
    mFirs m imm g c =
      { w := [.a m.md (ogen fun i => BitVec.ofInt 80 ((oget (ga g m.md) i).toInt
                + (oget (gv g m.ma) i).toInt * (blkWord c.blk (firAddr (gp g m.mb) i)).toInt)),
              .p m.mb (advance (gp g m.mb) (4 * signed 5 m.mi))] } := by
  have hin : ((List.range 8).all fun i => within c (firAddr (gp g m.mb) i) 4 4) = true := by
    simp only [List.all_eq_true, List.mem_range]
    exact fun i hi => (hw i hi).1
  have hok : ((List.range 8).any fun i => meetsBad c [] (firAddr (gp g m.mb) i) 4) = false := by
    simp only [List.any_eq_false, List.mem_range, Bool.not_eq_true]
    exact fun i hi => (hw i hi).2
  have hread : ∀ i < 8, readWord c [] (firAddr (gp g m.mb) i) = blkWord c.blk (firAddr (gp g m.mb) i) :=
    fun i hi => readWord_of_sound (hw i hi).2
  simp only [mFirs, hb, hu, hin, hok, if_true, Bool.false_eq_true, if_false, ogen, hread, Nat.reduceLT, miS]

/-- Settles O41: BQ and FIRS name their registers within range, and a FIR step on sound words is one sum and one advance. -/
theorem filterAndImmediateOperations : Obligations.FilterAndImmediateOperations := by
  unfold Obligations.FilterAndImmediateOperations
  refine ⟨fun e m l s he => ?nop, fun e m imm s he => ?vimm, fun e m imm s he => ?smoviLong, fun e m l s h => ?smovi,
    fun e m l s h => ?bq, fun e m l s h => ?firs⟩
  case nop => exact Runs.exec_issues (fun _ => rfl) he (mDoes_of_empty rfl) (lDoes_of_empty rfl) completes_nothing completes_nothing
  case vimm => exact Runs.exec_issues (fun _ => rfl) he rfl (lDoes_of_empty rfl) (by split <;> rfl) completes_nothing
  case smoviLong => exact Runs.exec_issues (fun _ => rfl) he rfl (lDoes_of_empty rfl) (by split <;> rfl) completes_nothing
  case smovi =>
    obtain ⟨he, hc⟩ := Bool.and_eq_true_iff.1 h
    exact Runs.exec_issues (fun _ => rfl) he rfl rfl (by split <;> rfl) hc
  case bq =>
    obtain ⟨he, hc⟩ := Bool.and_eq_true_iff.1 h
    have hmi := mi_of_bq (mOk_of_executes he)
    refine Runs.exec_issues (fun _ => rfl) he ?_ rfl (by split <;> rfl) hc
    unfold mDoes
    simp only [mSem, mBq, hmi]
    rfl
  case firs =>
    simp only [Bool.and_eq_true, Bool.or_eq_true, Bool.not_eq_true', List.isEmpty_iff, List.all_eq_true, List.mem_range] at h
    obtain ⟨⟨he, hc⟩, hw⟩ := h
    have hmb := mb_of_firs (mOk_of_executes he)
    refine Runs.exec_issues (fun _ => rfl) he ?_ rfl (by split <;> rfl) hc
    unfold mDoes
    split
    next ha =>
      obtain ⟨hu, hw⟩ := hw.resolve_left (by simp [ha])
      exact mFirs_of_sound (imm := none) hmb hu hw
    next => rfl

end Sys2Proof.Proofs

namespace Sys2Proof.Proofs

open Sys2Proof.Machine Sys2Proof.Safety Sys2Proof.Laws

/-! ## Operations of the L slot (04 R150-R158) -/

theorem lOk_of_executes {e op : Nat} {l : LArgs} {m : MSlot} {s : State} (h : executes e (lBundle op l m) s = true) :
    lOk { op := op, x := l } false = true := by
  have hb : (mOk m false && lOk { op := op, x := l } false) = true := bundleOk_of_executes h
  exact (Bool.and_eq_true_iff.1 hb).2

/-- A row of the L slot beside a completing M slot: the effect `le` where its predicate lets it act, nothing where not. -/
theorem LRow.exec_eq {op e : Nat} {c : Nat → LArgs → MSlot → Instr} {l : LArgs} {m : MSlot} {s : State} {le : Eff} (hr : LRow op c)
    (he : executes e (lBundle op l m) s = true) (hm : completes e s (mDoes e (lBundle op l m) s) = true)
    (hl : lActs e (lBundle op l m) s = true →
      lSem op l 0 (regsOf e s) (chainOf e s) (takeEdges e s) e = le ∧ completes e s le = true) :
    exec (c e l m) s = issues e (lBundle op l m) (mDoes e (lBundle op l m) s)
      (if lActs e (lBundle op l m) s then le else {}) s := by
  refine (hr e l m).exec_issues he rfl ?_ hm ?_
  · unfold lDoes
    split
    next ha => exact (hl ha).1
    next => rfl
  · split
    next ha => exact (hl ha).2
    next => rfl

/-! ## Loads and stores (04 R128, R129, R150, R152) -/

/-- A part of an access to sound words meets sound words. -/
theorem meetsBad_part {c : Chain} {ue : List Nat} {a n b k : Nat} (h : meetsBad c ue a n = false) (h1 : a ≤ b) (h2 : b + k ≤ a + n) :
    meetsBad c ue b k = false := by
  simp only [meetsBad, List.any_eq_false, Bool.and_eq_true, decide_eq_true_eq, not_and, Nat.not_lt] at h ⊢
  intro w hw hb
  have := h w hw (Nat.le_trans (Nat.div_le_div_right h1) hb)
  omega

theorem vecAt_of_sound {c : Chain} {a : Nat} (h : meetsBad c [] a 32 = false) : vecAt c [] a = ogen fun i => blkWord c.blk (a + 4 * i) := by
  have hread : ∀ i < 8, readWord c [] (a + 4 * i) = blkWord c.blk (a + 4 * i) :=
    fun i hi => readWord_of_sound (meetsBad_part h (by omega) (by omega))
  simp only [vecAt, ogen, hread, Nat.reduceLT]

theorem loadVec_of_sound {x : LArgs} {c : Chain} {a : Int} (upd : List RegW) (hu : x.ue = [])
    (h : (within c a 32 32 && !meetsBad c [] a.toNat 32) = true) :
    loadVec x c a upd = { w := .v x.ld (ogen fun i => blkWord c.blk (a.toNat + 4 * i)) :: upd } := by
  simp only [Bool.and_eq_true, Bool.not_eq_true'] at h
  obtain ⟨hw, hb⟩ := h
  simp only [loadVec, hu, hw, hb, vecAt_of_sound hb, if_true, Bool.false_eq_true, if_false]

theorem loadWord_of_sound {x : LArgs} {c : Chain} {a : Int} (upd : List RegW) (hu : x.ue = [])
    (h : (within c a 4 4 && !meetsBad c [] a.toNat 4) = true) :
    loadWord x c a upd = { w := .s x.ld (blkWord c.blk a.toNat) :: upd } := by
  simp only [Bool.and_eq_true, Bool.not_eq_true'] at h
  obtain ⟨hw, hb⟩ := h
  simp only [loadWord, hu, hw, hb, readWord_of_sound hb, if_true, Bool.false_eq_true, if_false]

theorem storeWhole_of_within {c : Chain} {a : Int} {n : Nat} {bs : List Byte} (upd : List RegW) (hn : bs.length = n)
    (h : within c a n 32 = true) : storeWhole c a bs upd = { w := upd, st := [(a.toNat, bs)] } := by
  simp only [storeWhole, hn, h, if_true]

theorem storeWord_of_sound {x : LArgs} {c : Chain} {a : Int} (v : W32) (upd : List RegW) (hu : x.ue = [])
    (h : (within c a 4 4 && !meetsBad c [] a.toNat 4) = true) :
    storeWord x c a v upd = { w := upd, st := [(a.toNat, wordBytes v)] } := by
  simp only [Bool.and_eq_true, Bool.not_eq_true'] at h
  obtain ⟨hw, hb⟩ := h
  simp only [storeWord, hu, hw, hb, if_true, Bool.false_eq_true, if_false]

theorem length_vecBytes (v : Oct W32) : (vecBytes v).length = 32 := by
  simp [vecBytes, olist, wordBytes]

/-- The bytes of an accumulator: each lane on 16 bytes (04 R150). -/
theorem length_accBytes (v : Oct A80) : ((olist v).flatMap fun x => toLE 16 (wrap 128 x.toInt)).length = 128 := by
  simp [olist]

/-- A row of the L slot with its condition and its effect: where an access names no bad word and the condition is met, the operation has
that effect, which completes. -/
def DoesWhen (op : Nat) (c : Nat → LArgs → MSlot → Instr) (f : LArgs → Regs → Chain → Bool × Eff) : Prop :=
  LRow op c ∧ (∀ l g k s e, l.ue = [] → (f l g k).1 = true → lSem op l 0 g k s e = (f l g k).2)
    ∧ ∀ l g k e s, completes e s (f l g k).2 = true

theorem DoesWhen.exec_eq {op e : Nat} {c : Nat → LArgs → MSlot → Instr} {f : LArgs → Regs → Chain → Bool × Eff} {l : LArgs} {m : MSlot}
    {s : State} (hd : DoesWhen op c f)
    (h : (executes e (lBundle op l m) s && completes e s (mDoes e (lBundle op l m) s)
      && (!lActs e (lBundle op l m) s || l.ue.isEmpty && (f l (regsOf e s) (chainOf e s)).1)) = true) :
    exec (c e l m) s = issues e (lBundle op l m) (mDoes e (lBundle op l m) s)
      (if lActs e (lBundle op l m) s then (f l (regsOf e s) (chainOf e s)).2 else {}) s := by
  simp only [Bool.and_eq_true, Bool.or_eq_true, Bool.not_eq_true', List.isEmpty_iff] at h
  obtain ⟨⟨he, hm⟩, hc⟩ := h
  obtain ⟨hr, hf, hk⟩ := hd
  refine hr.exec_eq he hm fun ha => ?_
  obtain ⟨hu, hc⟩ := hc.resolve_left (by simp [ha])
  exact ⟨hf _ _ _ _ _ hu hc, hk _ _ _ _ _⟩

theorem lLda_of_sound {x : LArgs} {g : Regs} {c : Chain} {a : Int} (imm e : Nat) (s : State) (ha : a = at_ (gp g x.lp) (32 * lxS x))
    (hu : x.ue = []) (hw : within c a 128 32 = true) (hb : meetsBad c [] a.toNat 128 = false) :
    lLda x imm g c s e = { w := [.a x.ld (ogen fun i => accLane c (a.toNat + 16 * i))] } := by
  have hlane : ∀ i < 8, meetsBad c [] (a.toNat + 16 * i) 16 = false := fun i hi => meetsBad_part hb (by omega) (by omega)
  subst ha
  simp only [lLda, hu, hw, hb, hlane, ogen, if_true, Bool.false_eq_true, if_false, Nat.reduceLT]

/-- Settles O42: a load or store whose access lies in the block, is aligned and meets sound words has the effect of the table; the pointer
operations and FENCE make no access. -/
theorem loadAndStoreOperations : Obligations.LoadAndStoreOperations := by
  unfold Obligations.LoadAndStoreOperations
  refine fun x hx e l m s h => DoesWhen.exec_eq (f := x.2.2) ?_ h
  clear h s m l e
  revert x
  simp only [List.forall_mem_cons]
  refine ⟨?ldv, ?ldvp, ?stv, ?stvp, ?lds, ?ldsp, ?sts, ?stsp, ?lda, ?sta, ?padd, ?pget, ?pput, ?fence, by simp⟩
  all_goals refine ⟨fun _ _ _ _ => rfl, fun l g k s e hu h => ?_, fun _ _ _ _ _ => rfl⟩
  case ldv | ldvp => exact loadVec_of_sound _ hu h
  case stv | stvp => exact storeWhole_of_within _ (length_vecBytes _) h
  case lds | ldsp => exact loadWord_of_sound _ hu h
  case sts | stsp => exact storeWord_of_sound _ _ hu h
  case lda =>
    simp only [Bool.and_eq_true, Bool.not_eq_true'] at h
    obtain ⟨⟨hw, -⟩, hb⟩ := h
    exact lLda_of_sound 0 e s rfl hu hw hb
  case sta => exact storeWhole_of_within _ (length_accBytes _) h
  case padd | pget | pput | fence => rfl

end Sys2Proof.Proofs

namespace Sys2Proof.Proofs

open Sys2Proof.Machine Sys2Proof.Safety Sys2Proof.Laws

/-! ## Windows (04 R141, R154-R158) -/

/-- The index register of a window form, where it has one, is the one that its field names. -/
theorem winPos_of_lt {x : LArgs} (g : Regs) (indexed : Bool) (h : x.lp < 8) :
    winPos g x indexed = (x.lx % 32 : Nat) + if indexed then (gs g x.lp).toInt else 0 := by
  rw [winPos, Nat.mod_eq_of_lt h]

theorem lp_of_executes {e op : Nat} {l : LArgs} {m : MSlot} {s : State} (h : executes e (lBundle op l m) s = true) :
    l.lp < 8 := by
  obtain ⟨-, -, -, hlp, -⟩ := lFits_of_lOk (lOk_of_executes h)
  exact hlp

/-- A read of windows whose data has arrived: zero at a position below zero, else the binding's sample (04 R156). -/
def windowRead (major : Bool) (k : Int) (l : LArgs) (sample : Nat → Nat → W32) : Oct W32 :=
  ogen fun (i : Nat) =>
    let p : Int := if major then k + i else k
    if p < 0 then 0 else sample (if major then l.lx / 32 else l.lx / 32 + i) p.toNat

/-- The samples that a write to windows puts: those at a binding and a position of the chain (04 R141, R156). -/
def windowWrite (major line : Bool) (k : Int) (l : LArgs) (v : Oct W32) (count n : Nat) : List (Bool × Nat × Nat × W32) :=
  (List.range 8).filterMap fun (i : Nat) =>
    let p : Int := if major then k + i else k
    let j := if major then l.lx / 32 else l.lx / 32 + i
    if j < count ∧ 0 ≤ p ∧ p < n then
      some (line, j, p.toNat, if oget v i = 0x80000000#32 then 0x80000001#32 else oget v i) else none

theorem readIn_arrived {x : LArgs} (major indexed : Bool) (imm e : Nat) (g : Regs) (c : Chain) (s : State) (h : x.late = false) :
    readIn major indexed x imm g c s e = { w := [.v x.ld (windowRead major (winPos g x indexed) x (inSample s c))] } := by
  cases major <;> simp only [readIn, h, Bool.false_eq_true, if_false] <;> rfl

theorem readTap_arrived {x : LArgs} (major indexed : Bool) (imm e : Nat) (g : Regs) (c : Chain) (s : State) (h : x.late = false) :
    readTap major indexed x imm g c s e = { w := [.v x.ld (windowRead major (winPos g x indexed) x (tapSample s c))] } := by
  cases major <;> simp only [readTap, h, Bool.false_eq_true, if_false] <;> rfl

theorem writeWin_eq (line major indexed : Bool) (x : LArgs) (imm e : Nat) (g : Regs) (c : Chain) (s : State) :
    writeWin line major indexed x imm g c s e =
      { win := windowWrite major line (winPos g x indexed) x (gv g x.ld) (if line then c.desc.lines.length else c.desc.outs.length)
          (tickN s) } := by
  cases major <;> rfl

/-- A row of the L slot that reads windows: its operation is the read of `read`, whose effect is the lanes of `sample`. -/
theorem exec_windowRead {op e : Nat} {c : Nat → LArgs → MSlot → Instr} {major indexed : Bool} {read : Bool → Bool → LSem}
    {sample : State → Chain → Nat → Nat → W32} {l : LArgs} {m : MSlot} {s : State} (hr : LRow op c ∧ lSem op = read major indexed)
    (hread : ∀ {x : LArgs} (imm e : Nat) (g : Regs) (k : Chain) (t : State), x.late = false →
      read major indexed x imm g k t e = { w := [.v x.ld (windowRead major (winPos g x indexed) x (sample t k))] })
    (h : (let b := lBundle op l m
      executes e b s && completes e s (mDoes e b s) && !(lActs e b s && l.late)) = true) :
    exec (c e l m) s =
      let b := lBundle op l m
      issues e b (mDoes e b s) (if lActs e b s then
        { w := [.v l.ld (windowRead major ((l.lx % 32 : Nat) + if indexed then (gs (regsOf e s) l.lp).toInt else 0) l
          (sample (takeEdges e s) (chainOf e s)))] } else {}) s := by
  simp only [Bool.and_eq_true, Bool.not_eq_true', Bool.and_eq_false_iff] at h
  obtain ⟨⟨he, hm⟩, hl⟩ := h
  refine hr.1.exec_eq he hm fun ha => ⟨?_, rfl⟩
  rw [hr.2, hread _ _ _ _ _ (hl.resolve_left (by simp [ha])), winPos_of_lt _ _ (lp_of_executes he)]

/-- A row of the L slot that writes output windows, or line-write windows. -/
theorem exec_windowWrite {op e : Nat} {c : Nat → LArgs → MSlot → Instr} {line major indexed : Bool} {l : LArgs} {m : MSlot} {s : State}
    (hr : LRow op c ∧ lSem op = writeWin line major indexed)
    (h : (executes e (lBundle op l m) s && completes e s (mDoes e (lBundle op l m) s)) = true) :
    exec (c e l m) s =
      let b := lBundle op l m
      issues e b (mDoes e b s) (if lActs e b s then
        { win := windowWrite major line ((l.lx % 32 : Nat) + if indexed then (gs (regsOf e s) l.lp).toInt else 0) l (gv (regsOf e s) l.ld)
            (if line then (chainOf e s).desc.lines.length else (chainOf e s).desc.outs.length) (tickN s) } else {}) s := by
  obtain ⟨he, hm⟩ := Bool.and_eq_true_iff.1 h
  refine hr.1.exec_eq he hm fun ha => ⟨?_, rfl⟩
  rw [hr.2, writeWin_eq, winPos_of_lt _ _ (lp_of_executes he)]
  rfl

/-- Settles O43: the sixteen forms are two reads and one write, by binding or by position, indexed or not. -/
theorem windowOperations : Obligations.WindowOperations := by
  unfold Obligations.WindowOperations
  refine ⟨fun x hx e l m s h => exec_windowRead (read := readIn) (sample := inSample) (major := x.2.2.1) (indexed := x.2.2.2) ?_
      (readIn_arrived _ _) h,
    fun x hx e l m s h => exec_windowRead (read := readTap) (sample := tapSample) (major := x.2.2.1) (indexed := x.2.2.2) ?_
      (readTap_arrived _ _) h,
    fun x hx e l m s h => exec_windowWrite (line := false) (major := x.2.2.1) (indexed := x.2.2.2) ?_ h,
    fun x hx e l m s h => exec_windowWrite (line := true) (major := x.2.2.1) (indexed := x.2.2.2) ?_ h⟩
  all_goals
    clear h s m l e
    revert x
    simp only [List.forall_mem_cons]
    exact ⟨⟨fun _ _ _ _ => rfl, rfl⟩, ⟨fun _ _ _ _ => rfl, rfl⟩, ⟨fun _ _ _ _ => rfl, rfl⟩, ⟨fun _ _ _ _ => rfl, rfl⟩, by simp⟩

end Sys2Proof.Proofs

namespace Sys2Proof.Proofs

open Sys2Proof.Machine Sys2Proof.Safety Sys2Proof.Laws

/-! ## Accesses outside the block or out of line (04 R152) -/

/-- A command of whose slots one fails its access. -/
theorem Runs.exec_fails {i : Instr} {e : Nat} {b : Bundle} {s : State} {me le : Eff} (hr : Runs i e b) (h : executes e b s = true)
    (hm : mDoes e b s = me) (hl : lDoes e b s = le) (hw : le.wait = false) (hb : (me.bad = 3 ∧ le.bad = 0) ∨ (me.bad = 0 ∧ le.bad = 3))
    (hu : me.ue = []) (hv : le.ue = []) :
    exec i s = ends (failTick e 3 (modEng e (fun g => { g with
      cycles := g.cycles + (max (mCycles b.m.op) (lCycles b.l.op) + le.plus), ce := g.ce + b.m.x.ce + b.l.x.ce }) (takeEdges e s))) :=
  (hr s).trans (run_fails h hm.symm hl.symm hw hb hu hv)

theorem within_eq_false {c : Chain} {a : Int} {n al : Nat} (h : ¬ (0 ≤ a ∧ a + n ≤ c.desc.stateBytes ∧ a % (al : Int) = 0)) :
    within c a n al = false :=
  Bool.eq_false_iff.2 fun hw => h (within_iff.1 hw)

theorem loadVec_outside (x : LArgs) {c : Chain} {a : Int} (upd : List RegW) (h : within c a 32 32 = false) : loadVec x c a upd = { bad := 3 } := by
  simp [loadVec, h]

theorem loadWord_outside (x : LArgs) {c : Chain} {a : Int} (upd : List RegW) (h : within c a 4 4 = false) : loadWord x c a upd = { bad := 3 } := by
  simp [loadWord, h]

theorem storeWhole_outside {c : Chain} {a : Int} {n : Nat} {bs : List Byte} (upd : List RegW) (hn : bs.length = n)
    (h : within c a n 32 = false) : storeWhole c a bs upd = { bad := 3 } := by
  simp [storeWhole, hn, h]

theorem storeWord_outside (x : LArgs) {c : Chain} {a : Int} (v : W32) (upd : List RegW) (h : within c a 4 4 = false) :
    storeWord x c a v upd = { bad := 3 } := by
  simp [storeWord, h]

theorem lLda_outside {x : LArgs} {g : Regs} {c : Chain} (imm e : Nat) (s : State) (h : within c (at_ (gp g x.lp) (32 * lxS x)) 128 32 = false) :
    lLda x imm g c s e = { bad := 3 } := by
  simp [lLda, h]

theorem mFirs_outside {m : MArgs} {g : Regs} {c : Chain} {i : Nat} (hi : i < 8) (h : within c (firAddr (gp g (m.mb % 8)) i) 4 4 = false)
    (imm : Option Nat) : mFirs m imm g c = { bad := 3 } := by
  have hout : ((List.range 8).all fun j => within c (firAddr (gp g (m.mb % 8)) j) 4 4) = false := by
    simp only [List.all_eq_false, List.mem_range, Bool.not_eq_true]
    exact ⟨i, hi, h⟩
  simp [mFirs, hout]

/-- A row of the L slot that accesses `n` bytes aligned to `al` at its pointer plus `k` times LX, and fails outside the block. -/
def Accesses (op : Nat) (c : Nat → LArgs → MSlot → Instr) (k : Int) (n al : Nat) : Prop :=
  LRow op c ∧ ∀ l g d s e, within d ((gp g l.lp).addr.toNat + k * signed 13 l.lx) n al = false → lSem op l 0 g d s e = { bad := 3 }

theorem Accesses.exec_outside {op : Nat} {c : Nat → LArgs → MSlot → Instr} {k : Int} {n al : Nat} (hx : Accesses op c k n al) {e : Nat}
    {l : LArgs} {m : MSlot} {s : State}
    (h : (let b := lBundle op l m
      executes e b s && lActs e b s && completes e s (mDoes e b s)) = true)
    (ho : let a : Int := (gp (regsOf e s) l.lp).addr.toNat + k * signed 13 l.lx
      ¬ (0 ≤ a ∧ a + n ≤ (chainOf e s).desc.stateBytes ∧ a % al = 0)) :
    exec (c e l m) s = ends (failTick e 3 (modEng e (fun g => { g with
      cycles := g.cycles + max (mCycles m.op) (lCycles op), ce := g.ce + m.x.ce + l.ce }) (takeEdges e s))) := by
  simp only [Bool.and_eq_true] at h
  obtain ⟨⟨he, ha⟩, hc⟩ := h
  obtain ⟨-, hmb, hmu⟩ := completes_parts hc
  have hl : lDoes e (lBundle op l m) s = { bad := 3 } := by
    rw [lDoes, if_pos ha]
    exact hx.2 _ _ _ _ _ (within_eq_false ho)
  simpa only [Nat.add_zero] using (hx.1 e l m).exec_fails he rfl hl rfl (.inr ⟨hmb, rfl⟩) hmu rfl

/-- Settles O8: the operation finds its access outside the block and has nothing but cause 3, while the other slot completes. -/
theorem outOfBlockAccesses : Obligations.OutOfBlockAccesses := by
  unfold Obligations.OutOfBlockAccesses
  constructor
  · refine fun x hx e l m s h ho => Accesses.exec_outside (k := x.2.2.1) (n := x.2.2.2.1) (al := x.2.2.2.2) ?_ h ho
    clear h ho s m l e
    revert x
    simp only [List.forall_mem_cons]
    refine ⟨?ldv, ?ldvp, ?stv, ?stvp, ?lds, ?ldsp, ?sts, ?stsp, ?lda, ?sta, by simp⟩
    all_goals refine ⟨fun _ _ _ _ => rfl, fun l g d s e h => ?_⟩
    case ldv => exact loadVec_outside _ _ h
    case ldvp => exact loadVec_outside _ _ (by simpa [at_] using h)
    case stv => exact storeWhole_outside _ (length_vecBytes _) h
    case stvp => exact storeWhole_outside _ (length_vecBytes _) (by simpa [at_] using h)
    case lds => exact loadWord_outside _ _ h
    case ldsp => exact loadWord_outside _ _ (by simpa [at_] using h)
    case sts => exact storeWord_outside _ _ _ h
    case stsp => exact storeWord_outside _ _ _ (by simpa [at_] using h)
    case lda => exact lLda_outside 0 e s h
    case sta => exact storeWhole_outside _ (length_accBytes _) h
  · intro e m l s i h hi ho
    simp only [Bool.and_eq_true] at h
    obtain ⟨⟨he, ha⟩, hc⟩ := h
    obtain ⟨hw, hlb, hlu⟩ := completes_parts hc
    have hout : within (chainOf e s) (firAddr (gp (regsOf e s) (m.mb % 8)) i) 4 4 = false := by
      rw [mb_of_firs (mOk_of_executes he)]
      refine within_eq_false fun hk => ho ?_
      obtain ⟨-, h1, h2⟩ := hk
      exact ⟨by exact_mod_cast h1, by exact_mod_cast h2⟩
    have hm : mDoes e { m := { op := 0x29, x := m }, l := l } s = { bad := 3 } := by
      rw [mDoes, if_pos ha]
      exact mFirs_outside hi hout none
    have hr : MRow 0x29 .firs := fun _ _ _ _ => rfl
    exact (hr e m l).exec_fails he hm rfl hw (.inl ⟨rfl, hlb⟩) rfl hlu

end Sys2Proof.Proofs

namespace Sys2Proof.Proofs

open Sys2Proof.Machine Sys2Proof.Safety Sys2Proof.Laws

/-! ## Control operations and the events of an engine (04 R131, R150, R153, R158, R168, R172) -/

/-- A row of format 0x2: the effect `le` where its predicate lets it act, nothing where not; its M slot is empty. -/
theorem LongRow.exec_eq {op e imm : Nat} {c : Nat → LArgs → Nat → Instr} {l : LArgs} {s : State} {le : Eff} (hr : LongRow op c)
    (he : executes e (longBundle op l imm) s = true)
    (hl : lSem op l imm (regsOf e s) (chainOf e s) (takeEdges e s) e = le) (hc : completes e s le = true) :
    exec (c e l imm) s = issues e (longBundle op l imm) {} (if lActs e (longBundle op l imm) s then le else {}) s := by
  refine (hr e l imm).exec_issues he (mDoes_of_empty rfl) ?_ completes_nothing ?_
  · unfold lDoes
    rw [← hl]
  · split
    · exact hc
    · rfl

/-- LOOP, LOOPI and TEND are not predicated in a bundle that executes (04 R133). -/
theorem lActs_of_loop {e : Nat} {b : Bundle} {s : State} (he : executes e b s = true) (ho : b.l.op = 0x22 ∨ b.l.op = 0x23 ∨ b.l.op = 0x24) :
    lActs e b s = true := by
  have hb := bundleOk_of_executes he
  have hp : b.l.x.pe = false := Bool.eq_false_iff.2 fun hp => by
    rw [bundleOk_of_predicated_loop ho hp] at hb
    cases hb
  simp [lActs, allows, hp]

/-- The target of a branch that does not lie before the code image (04 R150). -/
theorem lBr_of_nonneg {x : LArgs} {e : Nat} {c : Chain} {s : State} (imm : Nat) (g : Regs)
    (h : 0 ≤ ((engAt s e).pc : Int) + 8 * signed 13 x.lx) :
    lBr x imm g c s e = { go := some (.branch (((engAt s e).pc : Int) + 8 * signed 13 x.lx).toNat), plus := 1 } := by
  have hn : ¬ ((engAt s e).pc : Int) + 8 * signed 13 x.lx < 0 := by omega
  simp only [lBr, lxS, hn, if_false]

/-- SYSRD reads the tick size, the rate, or a half of the number of the sample tick that its chain's stage works on (04 R150). -/
theorem lSysrd_of_stageTick {x : LArgs} {k : Nat} {c : Chain} {s : State} (imm e : Nat) (g : Regs)
    (h : stageTick s c.desc.stage = some k) :
    lSysrd x imm g c s e = { w := [.s x.ld (BitVec.ofNat 32
      (if x.lx = 0 then tickN s else if x.lx = 1 then rate s else if x.lx = 2 then k % 2 ^ 32 else k / 2 ^ 32 % 2 ^ 16))] } := by
  simp only [lSysrd, h, Option.getD_some]
  split <;> simp_all

theorem exec_loopCountExpiry {e : Nat} {x : LoopSt} {rest : List LoopSt} {s : State} (hr : engRuns s e = true)
    (hl : (engAt s e).loops = x :: rest) (hp : (engAt s e).pc = x.stop) (hx : x.left ≤ 1) :
    exec (.loopCountExpiry e) s = ends (takeEdges e s) := by
  change execLoopCountExpiry e s = _
  simp [execLoopCountExpiry, ends, hr, hl, hp, hx]

theorem exec_windowDataArrival {e : Nat} {b : Bundle} {s : State} (h : (engAt s e).stalled = some b) :
    exec (.windowDataArrival e) s = ends (runBundle e b (mSem b.m.op) (lSem b.l.op) (modEng e (fun g => { g with stalled := none }) s)) := by
  change execWindowDataArrival e s = _
  simp only [execWindowDataArrival, h, ends]

/-- Settles O44: a row of either format has its operation's effect; LOOP, LOOPI and TEND always act, and begin or end what they name. -/
theorem controlOperations : Obligations.ControlOperations := by
  unfold Obligations.ControlOperations
  refine ⟨fun e l imm s he => ?pset, fun e l imm s he => ?plen, fun e l m s h ht => ?br, fun e l imm s he => ?brl, fun e l m s h => ?loop,
    fun e l imm s he hk => ?loopi, fun e l m s h => ?tend, fun e l m s k h ht => ?sysrd,
    fun e x rest s hr hl hp hx => exec_loopCountExpiry hr hl hp hx, fun e b s h => exec_windowDataArrival h,
    fun e s h => congrArg ends (if_pos h)⟩
  case pset | plen | brl => exact LongRow.exec_eq (fun _ _ _ _ => rfl) he rfl rfl
  case br =>
    obtain ⟨he, hm⟩ := Bool.and_eq_true_iff.1 h
    exact LRow.exec_eq (fun _ _ _ _ => rfl) he hm fun _ => ⟨lBr_of_nonneg 0 (regsOf e s) ht, rfl⟩
  case sysrd =>
    obtain ⟨he, hm⟩ := Bool.and_eq_true_iff.1 h
    exact LRow.exec_eq (fun _ _ _ _ => rfl) he hm fun _ => ⟨lSysrd_of_stageTick 0 e (regsOf e s) ht, rfl⟩
  case loop =>
    simp only [Bool.and_eq_true] at h
    obtain ⟨⟨he, hk⟩, hm⟩ := h
    have key := LRow.exec_eq (c := .loop) (op := 0x22) (fun _ _ _ _ => rfl) he hm fun _ => ⟨rfl, hk⟩
    rwa [if_pos (lActs_of_loop he (by simp))] at key
  case loopi =>
    have key := LongRow.exec_eq (c := .loopi) (op := 0x23) (fun _ _ _ _ => rfl) he rfl hk
    rwa [if_pos (lActs_of_loop he (by simp))] at key
  case tend =>
    obtain ⟨he, hm⟩ := Bool.and_eq_true_iff.1 h
    have key := LRow.exec_eq (c := .tend) (op := 0x24) (fun _ _ _ _ => rfl) he hm fun _ => ⟨rfl, rfl⟩
    rwa [if_pos (lActs_of_loop he (by simp))] at key

end Sys2Proof.Proofs

namespace Sys2Proof.Proofs

open Sys2Proof.Machine Sys2Proof.Safety Sys2Proof.Laws

/-! ## The chain and slot-map commands (04 R181-R188, 05 R203-R206) -/

section
variable {op : Nat} {plan : State → Req → Plan} {r : Req} {s : State}

/-- An accepted staged operation whose plan voids nothing has its record staged, and has its effect at once. -/
theorem execOp_stagedAs {payload : State → List Byte} {note : State → List Nat} {effect : State → State}
    (h : stageable op plan r s = true) (hs : isStaged op = true)
    (ha : (plan (dequeue r s) (asRun r (dequeue r s))).act (dequeue r s)
      = { st := effect (dequeue r s), payload := payload (dequeue r s), note := note (dequeue r s) }) :
    ends (execOp op plan r s) = stagedAs r s payload note effect := by
  rw [execOp_staged h hs, stagedAs]
  simp [ha]

/-- An accepted operation that holds its reply. -/
theorem execOp_holding {effect : Req → State → State} (h : accepts op plan r s = true) (hs : isStaged op = false)
    (ha : (plan (dequeue r s) (asRun r (dequeue r s))).act (dequeue r s)
      = { st := effect (asRun r (dequeue r s)) (dequeue r s), hold := true }) :
    ends (execOp op plan r s) = holding r s effect := by
  rw [execOp_accepted h hs, holding]
  simp [ha]

end

/-- Aborting the migrations of a chain that does not migrate changes nothing. -/
theorem abortIf_of_not_migrating {h : Nat} {s : State} (reason : Nat) (hm : ∀ m ∈ s.place.migr, m.handle ≠ h) :
    abortIf reason (fun m => m.handle == h) s = s := by
  have hnone : (moves s).filter (fun m => m.handle == h) = [] := by
    simp only [List.filter_eq_nil_iff, moves, List.mem_filter, beq_iff_eq]
    exact fun m hk => hm m hk.1
  rw [abortIf, hnone, List.foldl_nil]

/-- A chain taken by engine `e` at CHAIN_LOAD_END: its block begins as its initial state, and its image is copied (05 R206-R208). -/
def takeIn (h e : Nat) (s : State) : State :=
  let s := putOn e h (modChain h (fun c => { c with st := 2, blk := c.init, cum := [] }) s)
  { s with place := { s.place with migr := s.place.migr ++ [{ handle := h, src := 0xFFFF, dst := e, phase := 3, start := cal s }] } }

/-- Where admission finds an engine for the chain that is loaded, that engine takes it. -/
theorem chainLoadEnd_admitted {r : Req} {u v : State} {e : Nat} (h : admitTo v (par r 0 2) = some e) :
    (planChainLoadEnd u r).act v = { st := takeIn (par r 0 2) e v } := by
  refine congrArg (fun t => ({ st := t } : Res)) (?_ : _ = takeIn (par r 0 2) e v)
  dsimp only
  rw [h]
  rfl

theorem chainLoadEnd_not_admitted {r : Req} {u v : State} (h : admitTo v (par r 0 2) = none) :
    (planChainLoadEnd u r).act v = { st := v } := by
  refine congrArg (fun t => ({ st := t } : Res)) (?_ : _ = v)
  dsimp only
  rw [h]

/-- A placement's fields as CHAIN_SET_PLACEMENT writes them (05 R203). -/
def setPlacement (r : Req) (c : Chain) : Chain :=
  { c with desc := { c.desc with flags := c.desc.flags / 4 * 4 + par r 2 1, pinEngine := par r 4 2, affinity := par r 3 1 },
           displaced := false, pinWait := false, pinReq := none }

section
variable {r : Req} {u v : State}

/-- CHAIN_SET_PLACEMENT of a chain that neither migrates nor has a placement waiting is taken at once where the chain does not run or its
engine is the one asked for (05 R203). -/
theorem chainSetPlacement_taken (hm : ∀ m ∈ v.place.migr, m.handle ≠ par r 0 2) (hp : (chainD v (par r 0 2)).pinReq = none)
    (hpin : bit (par r 2 1) 0 = false ∨ (chainD v (par r 0 2)).engine = 0xFFFF ∨ (chainD v (par r 0 2)).engine = par r 4 2) :
    (planChainSetPlacement u r).act v = { st := modChain (par r 0 2) (setPlacement r) v } := by
  have hno : (bit (par r 2 1) 0 && (chainD v (par r 0 2)).engine != 0xFFFF && par r 4 2 != (chainD v (par r 0 2)).engine) = false := by
    rcases hpin with h | h | h <;> simp [h]
  simp only [planChainSetPlacement, abortIf_of_not_migrating 7 hm, hp, hno, Bool.false_eq_true, if_false]
  rfl

/-- A pin to another engine that qualifies for the chain: the reply is held until the migration has started (05 R204). -/
theorem chainSetPlacement_migrates (hm : ∀ m ∈ v.place.migr, m.handle ≠ par r 0 2) (hp : (chainD v (par r 0 2)).pinReq = none)
    (hb : bit (par r 2 1) 0 = true) (hrun : (chainD v (par r 0 2)).engine ≠ 0xFFFF) (hother : (chainD v (par r 0 2)).engine ≠ par r 4 2)
    (hq : qualifies v (par r 0 2) (par r 4 2) false true = true) :
    (planChainSetPlacement u r).act v =
      let t := modChain (par r 0 2) (fun c => { c with pinReq := some r }) (modChain (par r 0 2) (setPlacement r) v)
      { st := if pinWaits t (par r 0 2) (par r 4 2) then t else startMigr (par r 0 2) (par r 4 2) false true t, hold := true } := by
  have hgo : (bit (par r 2 1) 0 && (chainD v (par r 0 2)).engine != 0xFFFF && par r 4 2 != (chainD v (par r 0 2)).engine) = true := by
    simp [hb, hrun, hother.symm]
  simp only [planChainSetPlacement, abortIf_of_not_migrating 7 hm, hp, hgo, hq, Bool.not_true, Bool.false_eq_true, if_true, if_false]
  rfl

end

/-- Settles O28: every plan but that of a placement gives a payload or one effect; a load's end and a placement go by their lemmas. -/
theorem chainOperations : Obligations.ChainOperations := by
  unfold Obligations.ChainOperations
  refine ⟨fun r s h => execOp_answered h rfl rfl, fun r s h => execOp_answered h rfl rfl, fun r s h => ?loadEnd,
    fun r s h => execOp_stagedAs h rfl rfl, fun r s h => execOp_stagedOnly h rfl rfl, fun r s h => execOp_stagedOnly h rfl rfl,
    fun r s h => execOp_answered h rfl rfl, fun r s h => execOp_answered h rfl rfl, fun r s h => execOp_stagedOnly h rfl rfl,
    fun r s h => execOp_answered h rfl rfl, fun r s h => execOp_stagedOnly h rfl rfl, fun r s h => execOp_answered h rfl rfl,
    fun r s h hpin hm hp => ?placed, fun r s h hb hrun hother hm hp hq => ?moves⟩
  case loadEnd =>
    refine execOp_stagedAs h rfl ?_
    rcases ha : admitTo (dequeue r s) (par r 0 2) with _ | e
    · refine (chainLoadEnd_not_admitted (r := asRun r (dequeue r s)) ha).trans (congrArg (fun t => ({ st := t } : Res)) ?_)
      simp only [ha]
    · refine (chainLoadEnd_admitted (r := asRun r (dequeue r s)) ha).trans (congrArg (fun t => ({ st := t } : Res)) ?_)
      simp only [ha, takeIn, asRun_par]
  case placed => exact execOp_answered h rfl (chainSetPlacement_taken (r := asRun r (dequeue r s)) hm hp hpin)
  case moves => exact execOp_holding h rfl (chainSetPlacement_migrates (r := asRun r (dequeue r s)) hm hp hb hrun hother hq)

end Sys2Proof.Proofs

namespace Sys2Proof.Proofs

open Sys2Proof.Machine Sys2Proof.Safety Sys2Proof.Laws

/-! ## The events of placement (05 R197-R221, 15 R601) -/

/-- A change of a chain, or of a migrating copy of one, changes no engine. -/
@[simp] theorem engAt_modChain (e h : Nat) (f : Chain → Chain) (s : State) : engAt (modChain h f s) e = engAt s e := by
  unfold modChain engAt
  split <;> rfl

section
variable {h : Nat} {m : Migr} {s : State}

/-- The state in which the lines of a migration's round are on its destination, with the code after the first round (05 R211 step 1). -/
def roundCopied (m : Migr) (s : State) : State :=
  modChain (twinOf m.handle) (fun t => copyLines m.lines (chainD s m.handle)
      (if m.rounds = 0 then { t with code := (chainD s m.handle).image, badCode := [] } else t))
    (modEng m.dst (fun g => { g with touched := true }) s)

/-- A round without error of at most 64 lines, or the eighth, converges; the commit tick is chosen (05 R211 step 2). -/
theorem endRound_converges (hp : poisonIn (chainD s m.handle) m.lines = false) (hc : m.lines.length ≤ 64 ∨ 8 ≤ m.rounds + 1) :
    endRound m false s = setMigr
      { m with rounds := m.rounds + 1, phase := if (chainD s m.handle).swap.isSome then 2 else 1,
               commit := commitTick (roundCopied m s) m.handle } (roundCopied m s) := by
  simp only [endRound, hp, Bool.or_self, Bool.false_eq_true, if_false, if_pos hc]
  rfl

/-- Any other round without error is followed by one over the lines marked since. -/
theorem endRound_goes_on (hp : poisonIn (chainD s m.handle) m.lines = false) (hl : 64 < m.lines.length) (hr : m.rounds + 1 < 8) :
    endRound m false s = setMigr { m with rounds := m.rounds + 1, lines := (chainD s m.handle).cum }
      (modChain m.handle (fun c => { c with cum := [] }) (roundCopied m s)) := by
  have hc : ¬ (m.lines.length ≤ 64 ∨ 8 ≤ m.rounds + 1) := by omega
  simp only [endRound, hp, Bool.or_self, Bool.false_eq_true, if_false, if_neg hc]
  rfl

theorem exec_precopyRoundDone_migrating (err : Bool) (hm : migrOf s h = some m) (h0 : m.phase = 0) (hd : destReady s m = true) :
    exec (.precopyRoundDone h err) s = ends (endRound m err s) := by
  change execPrecopyRoundDone h err s = _
  unfold execPrecopyRoundDone
  rw [hm]
  exact congrArg ends (if_pos (by simp [h0, hd]))

theorem exec_precopyRoundDone_joining (err : Bool) (hm : migrOf s h = none) (hj : joiningChain s = some h) :
    exec (.precopyRoundDone h err) s = ends (joinRound h err s) := by
  change execPrecopyRoundDone h err s = _
  unfold execPrecopyRoundDone
  rw [hm]
  exact congrArg ends (if_pos hj)

theorem joinRound_converges (h0 : s.pair.join.phase = 0) (hp : poisonIn (chainD s h) s.pair.join.lines = false)
    (hc : s.pair.join.lines.length ≤ 64 ∨ 8 ≤ s.pair.join.rounds + 1) :
    joinRound h false s =
      { s with pair := { s.pair with join := { s.pair.join with rounds := s.pair.join.rounds + 1, phase := 1, commit := commitTick s h } } } := by
  simp only [joinRound, h0, hp, hc, ne_eq, not_true_eq_false, Bool.or_self, Bool.false_eq_true, if_false, if_true]

/-- A final copy is due in its commit tick, or in the tick before it once the source has ended its run (05 R211 step 3). -/
theorem copy_due {commit k : Nat} {p : Bool} (h : commit ≤ k ∨ k + 1 = commit ∧ p = true) :
    (decide (commit ≤ k) || (k + 1 == commit && p)) = true := by
  simpa using h

/-- A final copy that is due and meets an error, or a poisoned line, aborts the migration. -/
theorem exec_finalCopyDone_migrating {k : Nat} (err : Bool) (hm : migrOf s h = some m) (h1 : m.phase = 1)
    (hk : stageTick s (chainD s h).desc.stage = some k) (hd : m.commit ≤ k ∨ k + 1 = m.commit ∧ ended s h = true) :
    exec (.finalCopyDone h err) s =
      ends (if (err || poisonIn (chainD s h) (chainD s h).cum) = true then abortMigr 4 m s else finalCopy m s) := by
  change execFinalCopyDone h err s = _
  simp only [execFinalCopyDone, hm, hk, h1, copy_due hd, ne_eq, not_true_eq_false, Bool.not_true, Bool.or_self, decide_false, Bool.false_eq_true, if_false]
  rfl

theorem exec_finalCopyDone_joining (err : Bool) (hm : migrOf s h = none) (hj : joiningChain s = some h) :
    exec (.finalCopyDone h err) s = ends (joinFinal h err s) := by
  change execFinalCopyDone h err s = _
  simp only [execFinalCopyDone, hm, hj, if_true]
  rfl

theorem joinFinal_copied {k : Nat} (h1 : s.pair.join.phase = 1) (hk : stageTick s (chainD s h).desc.stage = some k)
    (hd : s.pair.join.commit ≤ k ∨ k + 1 = s.pair.join.commit ∧ ended s h = true)
    (hp : poisonIn (chainD s h) (chainD s h).cum = false) :
    joinFinal h false s = { s with pair := { s.pair with join := { s.pair.join with phase := 2 } } } := by
  simp only [joinFinal, hk, h1, copy_due hd, hp, ne_eq, not_true_eq_false, Bool.not_true, Bool.or_self, decide_false, Bool.false_eq_true, if_false]

/-- A final copy in time for its twin run, which waits for none: the lines still marked are copied (05 R211 step 3). -/
theorem finalCopy_in_time (hl : twinDue s m = false) (hc : (engAt s m.dst).cur ≠ twinOf m.handle) :
    finalCopy m s =
      setMigr { m with phase := 2 } (modChain (twinOf m.handle) (copyLines (chainD s m.handle).cum (chainD s m.handle)) s) := by
  have hcur : (engAt (setMigr { m with phase := 2 }
      (modChain (twinOf m.handle) (copyLines (chainD s m.handle).cum (chainD s m.handle)) s)) m.dst).cur ≠ twinOf m.handle := by
    change (engAt (modChain _ _ s) m.dst).cur ≠ _
    rwa [engAt_modChain]
  simp only [finalCopy, hl, Bool.false_eq_true, if_false, if_neg hcur]

/-- The judgement of a twin run that both engines have ended: a failed source comes first, then a failed destination, then the compare. -/
theorem exec_twinRunCompare (eq bad : Bool) (hm : migrOf s h = some m) (ht : twinDue s m = true) (he : ended s h = true) :
    exec (.twinRunCompare h eq bad) s = ends (if m.failed = true then abortMigr 3 m s
      else if (bad || m.bad || m.phase == 1) = true then abortMigr 2 m s
      else if (!eq) = true then abortMigr 1 m s else if m.other.isNone = true then s else judgeRun m s) := by
  change execTwinRunCompare h eq bad s = _
  unfold execTwinRunCompare
  rw [hm]
  exact congrArg ends (if_neg (by simp [ht, he]))

theorem judgeRun_same (hf : m.failed = false) (hb : m.bad = false) (h1 : m.phase ≠ 1) (ho : m.other.isSome = true) (hs : sameRun s m = true) :
    judgeRun m s = commitMigr m s := by
  have hn := Option.isNone_eq_false_iff.2 ho
  simp [judgeRun, hf, hb, h1, hn, hs]

end

/-- Settles O53: every clause assumes its event's guard; rounds, final copies and judgements of a migration or a join go by their lemmas. -/
theorem migrationEvents : Obligations.MigrationEvents := by
  unfold Obligations.MigrationEvents
  refine ⟨fun temps occ drvQ s hm => ?period, ?converges, ?goesOn, fun h m k s hm h1 hk hd hp => ?finalCopy,
    fun m s hl hc => finalCopy_in_time hl hc, fun h m k s hm h1 hk hd => ?finalError, fun h m s hm ht he hf hb h1 ho hs => ?commits,
    fun h m s hm ht he hf hb h1 => ?differs, fun h eq m s hm ht he hf => ?destination, fun h eq bad m s hm ht he hf => ?source,
    fun h s hn => ?admission, fun h s hm hj h0 hp hc => ?joinConverges, fun h k s hm hj h1 hk hd hp => ?joinCopied,
    fun e s h => ?woken, fun e s h => ?passed, fun e s h => ?failed⟩
  case period => exact congrArg ends (if_neg (by simp [hm]))
  case converges =>
    intro h m s c t hm hh h0 hd hp hc
    subst hh
    rw [exec_precopyRoundDone_migrating false hm h0 hd, endRound_converges hp hc]
    rfl
  case goesOn =>
    intro h m s c t hm hh h0 hd hp hl hr
    subst hh
    rw [exec_precopyRoundDone_migrating false hm h0 hd, endRound_goes_on hp hl hr]
    rfl
  case finalCopy => rw [exec_finalCopyDone_migrating false hm h1 hk hd, if_neg (by simp [hp])]
  case finalError => rw [exec_finalCopyDone_migrating true hm h1 hk hd, if_pos (by simp)]
  case commits =>
    rw [exec_twinRunCompare true false hm ht he, if_neg (by simp [hf]), if_neg (by simp [hb, h1]), if_neg (by simp),
      if_neg (Bool.eq_false_iff.1 (Option.isNone_eq_false_iff.2 ho)), judgeRun_same hf hb h1 ho hs]
  case differs => rw [exec_twinRunCompare false false hm ht he, if_neg (by simp [hf]), if_neg (by simp [hb, h1]), if_pos (by simp)]
  case destination => rw [exec_twinRunCompare eq true hm ht he, if_neg (by simp [hf]), if_pos (by simp)]
  case source => rw [exec_twinRunCompare eq bad hm ht he, if_pos hf]
  case admission => exact congrArg ends (if_neg (by simp [hn]))
  case joinConverges => rw [exec_precopyRoundDone_joining false hm hj, joinRound_converges h0 hp hc]
  case joinCopied => rw [exec_finalCopyDone_joining false hm hj, joinFinal_copied h1 hk hd hp]
  case woken => exact congrArg ends (if_pos h)
  case passed => exact congrArg ends ((if_neg (by simp [h])).trans (if_pos rfl))
  case failed => exact congrArg ends ((if_neg (by simp [h])).trans (if_neg (by simp)))

end Sys2Proof.Proofs

namespace Sys2Proof.Proofs

open Sys2Proof.Machine Sys2Proof.Safety Sys2Proof.Laws

/-! ## The placement and memory operations (05 R194-R239, 08 R322-R324) -/

/-- Settles O26: none of these operations is staged, and each plan is its payload and its effect. -/
theorem placementAndMemoryOperations : Obligations.PlacementAndMemoryOperations := by
  unfold Obligations.PlacementAndMemoryOperations
  exact ⟨fun r s h => execOp_answered h rfl rfl, fun r s h => execOp_answered h rfl rfl, fun r s h => execOp_answered h rfl rfl,
    fun r s h => execOp_answered h rfl rfl, fun r s h => execOp_answered h rfl rfl, fun r s h => execOp_answered h rfl rfl,
    fun r s h => execOp_answered h rfl rfl, fun r s h => execOp_answered h rfl rfl⟩

end Sys2Proof.Proofs

namespace Sys2Proof.Proofs

open Sys2Proof.Machine Sys2Proof.Safety Sys2Proof.Laws

/-! ## What a Plane reset does not write

A Plane reset ends migrations, which can fail ticks, restart chains, raise faults and answer requests. All of it together writes only the
fields that `undisturbed` leaves out; each lemma says so of one function, through the functions that it calls. -/

/-- The state without the fields that a Plane reset writes. The Placement Unit's policy, period and measures are in it; its migrations,
event log and counters are not. -/
def undisturbed (s : State) : State :=
  { part := s.part, mode := s.mode, sward := s.sward,
    place := { policy := s.place.policy, next := s.place.next, hold := s.place.hold, period := s.place.period, leaTemp := s.place.leaTemp,
               occ := s.place.occ, drvQ := s.place.drvQ },
    lines := s.lines, clock := s.clock, cap := s.cap, power := s.power, meter := s.meter, settings := s.settings, pending := s.pending }

/-- A fold of updates that write none of it writes none of it. -/
theorem undisturbed_foldl {α : Type} {f : State → α → State} (h : ∀ s a, undisturbed (f s a) = undisturbed s) (l : List α) (s : State) :
    undisturbed (l.foldl f s) = undisturbed s := by
  induction l generalizing s with
  | nil => rfl
  | cons a l ih => rw [List.foldl_cons, ih, h]

/-- A choice between two states that both keep it keeps it. -/
theorem undisturbed_ite {c : Prop} [Decidable c] {s a b : State} (ha : undisturbed a = undisturbed s) (hb : undisturbed b = undisturbed s) :
    undisturbed (if c then a else b) = undisturbed s := by
  split
  · exact ha
  · exact hb

/-! ### The named updates of the state -/

section
variable (s : State)

@[simp] theorem undisturbed_modEng (e : Nat) (f : Engine → Engine) : undisturbed (modEng e f s) = undisturbed s := rfl
@[simp] theorem undisturbed_modChain (h : Nat) (f : Chain → Chain) : undisturbed (modChain h f s) = undisturbed s := rfl
@[simp] theorem undisturbed_memWrites (a : Nat) (bs : List Byte) : undisturbed (memWrites a bs s) = undisturbed s := rfl
@[simp] theorem undisturbed_placeCount (i : Nat) : undisturbed (placeCount i s) = undisturbed s := rfl
@[simp] theorem undisturbed_placeEvent (ev reason h a b d : Nat) : undisturbed (placeEvent ev reason h a b d s) = undisturbed s := rfl
@[simp] theorem undisturbed_restore (e h : Nat) : undisturbed (restore e h s) = undisturbed s := rfl
@[simp] theorem undisturbed_countQuiet (h : Nat) (q : Bool) : undisturbed (countQuiet h q s) = undisturbed s := rfl
@[simp] theorem undisturbed_takeOff (h : Nat) : undisturbed (takeOff h s) = undisturbed s := rfl
@[simp] theorem undisturbed_noteCause (d c : Nat) : undisturbed (noteCause d c s) = undisturbed s := rfl

/-! ### Replies -/

@[simp] theorem undisturbed_sendNode (node ty b : Nat) (p : List Byte) : undisturbed (sendNode node ty b p s) = undisturbed s := by
  refine undisturbed_foldl (fun s q => ?_) _ s
  unfold sendFrame
  exact undisturbed_ite rfl (undisturbed_ite (undisturbed_ite rfl rfl) rfl)

@[simp] theorem undisturbed_emitMg (o : Out) : undisturbed (emitMg o s) = undisturbed s :=
  undisturbed_ite rfl (undisturbed_ite rfl rfl)

@[simp] theorem undisturbed_alAttempt (p n : Nat) (o : Out) : undisturbed (alAttempt p n o s) = undisturbed s :=
  undisturbed_ite rfl rfl

@[simp] theorem undisturbed_alSend (p : Nat) (o : Out) : undisturbed (alSend p o s) = undisturbed s := by
  have hb : undisturbed (alBeacon p s) = undisturbed s := undisturbed_ite rfl rfl
  exact undisturbed_ite ((undisturbed_alAttempt ..).trans hb) ((undisturbed_alAttempt ..).trans rfl)

@[simp] theorem undisturbed_msixFrom (before : Nat) : undisturbed (msixFrom before s) = undisturbed s :=
  undisturbed_ite (undisturbed_foldl (fun _ _ => by split <;> rfl) _ s) rfl

@[simp] theorem undisturbed_drainReplies (n : Nat) : undisturbed (drainReplies n s) = undisturbed s := by
  induction n generalizing s with
  | zero => rfl
  | succ n ih =>
    unfold drainReplies
    split
    · rw [ih, undisturbed_msixFrom]
      exact undisturbed_ite rfl (undisturbed_ite rfl rfl)
    · rfl

@[simp] theorem undisturbed_sendOn (src : Src) (ret : Nat × Nat) (p : List Byte) : undisturbed (sendOn src ret p s) = undisturbed s := by
  cases src with
  | pcie => exact undisturbed_drainReplies _ _
  | link => exact undisturbed_sendNode _ _ _ _ _
  | pair => rfl
  | mg => exact undisturbed_emitMg _ _
  | al0 | al1 => exact undisturbed_alSend _ _ _

@[simp] theorem undisturbed_audit (r : Req) (reads : Bool) (st ap : Nat) (fo : Bool) : undisturbed (audit r reads st ap fo s) = undisturbed s := by
  unfold audit
  split
  · rfl
  · rfl
  · exact undisturbed_ite rfl rfl

@[simp] theorem undisturbed_reply (r : Req) (key : List Byte) (reads : Bool) (st err ap : Nat) (mirr fo : Bool) (pl : List Byte) :
    undisturbed (reply r key reads st err ap mirr fo pl s) = undisturbed s :=
  undisturbed_ite (undisturbed_audit ..) ((undisturbed_sendOn ..).trans (undisturbed_audit ..))

/-! ### Faults -/

@[simp] theorem undisturbed_raiseX (id detail : Nat) (x : FAcc) (injected perform : Bool) :
    undisturbed (raiseX id detail x injected perform s) = undisturbed s := by
  unfold raiseX
  split
  · rfl
  · exact (undisturbed_msixFrom ..).trans (undisturbed_ite rfl rfl)

@[simp] theorem undisturbed_raise (id detail : Nat) : undisturbed (raise id detail s) = undisturbed s := undisturbed_raiseX ..

@[simp] theorem undisturbed_raiseChain (cause e h : Nat) : undisturbed (raiseChain cause e h s) = undisturbed s := undisturbed_raiseX ..

@[simp] theorem undisturbed_suspect (e : Nat) : undisturbed (suspect e s) = undisturbed s := undisturbed_ite (by simp) rfl

/-! ### Chains and their ticks -/

@[simp] theorem undisturbed_useBank (n : Nat) : undisturbed (useBank n s) = undisturbed s :=
  undisturbed_ite rfl (undisturbed_ite rfl (undisturbed_ite rfl rfl))

@[simp] theorem undisturbed_applyDue (h : Nat) : undisturbed (applyDue h s) = undisturbed s := by
  unfold applyDue
  split <;> rfl

@[simp] theorem undisturbed_nextChain (e : Nat) : undisturbed (nextChain e s) = undisturbed s := by
  unfold nextChain
  split
  · rfl
  · simp only [undisturbed_modEng, undisturbed_applyDue]
    split <;> simp

@[simp] theorem undisturbed_measure (e h : Nat) : undisturbed (Machine.measure e h s) = undisturbed s :=
  undisturbed_ite rfl (undisturbed_ite ((undisturbed_raiseChain ..).trans rfl) rfl)

@[simp] theorem undisturbed_zeroLines (c : Chain) (k : Nat) : undisturbed (zeroLines c k s) = undisturbed s := by
  refine undisturbed_foldl (fun s id => ?_) _ s
  unfold lineWrite
  split
  · rfl
  · exact undisturbed_foldl (fun s j => undisturbed_memWrites s _ _) _ _

@[simp] theorem undisturbed_failState (e h : Nat) : undisturbed (failState e h s) = undisturbed s := by
  unfold failState
  simp only [undisturbed_countQuiet]
  split <;> simp

@[simp] theorem undisturbed_failedTick (e h : Nat) : undisturbed (failedTick e h s) = undisturbed s := by
  unfold failedTick failCommon
  simp only [undisturbed_raiseChain, undisturbed_modEng, undisturbed_modChain]
  exact undisturbed_ite (by simp) (by simp)

@[simp] theorem undisturbed_dropTwin (h : Nat) : undisturbed (dropTwin h s) = undisturbed s :=
  undisturbed_foldl (fun s e => undisturbed_nextChain s e) _ _

/-! ### Placement -/

@[simp] theorem undisturbed_wakeEngine (e : Nat) : undisturbed (wakeEngine e s) = undisturbed s := undisturbed_ite rfl rfl

@[simp] theorem undisturbed_goFallow (e : Nat) : undisturbed (goFallow e s) = undisturbed s := undisturbed_ite rfl rfl

@[simp] theorem undisturbed_yieldHome (b : Nat) : undisturbed (yieldHome b s) = undisturbed s := by
  refine undisturbed_foldl (fun s h => undisturbed_ite rfl ?_) _ s
  split <;> simp

@[simp] theorem undisturbed_putOn (e h : Nat) : undisturbed (putOn e h s) = undisturbed s := by
  have hr (l : Tab (List Nat)) (u : State) : undisturbed { u with eng := { u.eng with runList := l } } = undisturbed u := rfl
  unfold putOn placeOn
  cases bankFor s e h <;> simp [hr]

@[simp] theorem undisturbed_displace (h src dst : Nat) : undisturbed (displace h src dst s) = undisturbed s := undisturbed_ite (by simp) rfl

@[simp] theorem undisturbed_reachPin (h src dst : Nat) : undisturbed (reachPin h src dst s) = undisturbed s := undisturbed_ite rfl rfl

@[simp] theorem undisturbed_restartChain (h : Nat) : undisturbed (restartChain h s) = undisturbed s := by
  unfold restartChain
  split <;> simp

@[simp] theorem undisturbed_outOfService (e : Nat) : undisturbed (outOfService e s) = undisturbed s := by
  have hrestart (l : List Nat) (t : State) (h : Nat) :
      undisturbed (restartChain h (if l.contains h then t else modChain h (fun c => { c with skip := true }) t)) = undisturbed t :=
    (undisturbed_restartChain ..).trans (undisturbed_ite rfl rfl)
  unfold outOfService
  simp only
  rw [undisturbed_foldl (hrestart _), undisturbed_modEng, undisturbed_foldl (fun t h => undisturbed_failedTick t e h)]
  simp

@[simp] theorem undisturbed_noteMismatch (e : Nat) : undisturbed (noteMismatch e s) = undisturbed s :=
  undisturbed_ite (undisturbed_suspect ..) rfl

@[simp] theorem undisturbed_abortMigr (reason : Nat) (m : Migr) : undisturbed (abortMigr reason m s) = undisturbed s := by
  have hp (l : List Migr) (u : State) : undisturbed { u with place := { u.place with migr := l } } = undisturbed u := rfl
  have hm (u : State) : undisturbed (if reason = 1 then noteMismatch m.dst (noteMismatch m.src u) else u) = undisturbed u :=
    undisturbed_ite (by simp) rfl
  unfold abortMigr
  refine undisturbed_ite (undisturbed_ite ?_ ?_) ?_ <;> simp [hp, hm]

@[simp] theorem undisturbed_abortIf (reason : Nat) (p : Migr → Bool) : undisturbed (abortIf reason p s) = undisturbed s :=
  undisturbed_foldl (fun s m => undisturbed_abortMigr s reason m) _ s

@[simp] theorem undisturbed_haltEngine (e : Nat) : undisturbed (haltEngine e s) = undisturbed s :=
  (undisturbed_modEng ..).trans (undisturbed_ite rfl rfl)

@[simp] theorem undisturbed_dropModeChanges : undisturbed (dropModeChanges s) = undisturbed s :=
  undisturbed_foldl (fun t (g : Staged) => undisturbed_reply t g.req g.key false BUSY 0 0 g.mirr false []) _ _

end

/-! ## The placement policy after each reset (05 R196) -/

theorem undisturbed_haltedPlane (c : Nat) (s : State) : undisturbed (haltedPlane c s) = undisturbed s := by
  rw [haltedPlane, undisturbed_abortIf, undisturbed_foldl undisturbed_haltEngine, undisturbed_noteCause]

/-- Once the engines are halted, the migrations ended and the mode changes discarded, a Plane reset only closes and clears. -/
theorem undisturbed_planeReset (c : Nat) (s : State) : undisturbed (planeReset c s) = undisturbed s := by
  have hclose : undisturbed (planeReset c s) = undisturbed (dropModeChanges (haltedPlane c s)) := by
    unfold planeReset haltedPlane
    dsimp only
    generalize dropModeChanges _ = u
    split <;> rfl
  rw [hclose, undisturbed_dropModeChanges, undisturbed_haltedPlane]

theorem planeReset_policy (c : Nat) (s : State) : (planeReset c s).place.policy = s.place.policy :=
  congrArg (·.place.policy) (undisturbed_planeReset c s)

/-- Settles O18: System and Cold depth start with a new Placement Unit, a Warm reset copies the policy, and nothing that a Plane reset does
writes it. -/
theorem policyAfterReset : Obligations.PolicyAfterReset := by
  unfold Obligations.PolicyAfterReset
  intro c s
  refine ⟨fun d h => ?_, rfl, planeReset_policy c s⟩
  rcases h with rfl | rfl <;> rfl

end Sys2Proof.Proofs

namespace Sys2Proof.Proofs

open Sys2Proof.Machine Sys2Proof.Safety Sys2Proof.Laws

/-! ## The commands of the fixed blocks and of the delay lines (06 R242-R263, 08 R317, R318) -/

/-- A request that leaves its queue takes no room in the line pool (08 R308, R317). -/
@[simp] theorem bestFit_dequeue (r : Req) (s : State) (bytes : Nat) : bestFit (dequeue r s) bytes = bestFit s bytes := rfl

/-- LINE_ALLOC places the line at the base that best fit finds for its ring (08 R313, R317). -/
theorem lineAlloc_placed {r : Req} {u v : State} {b : Nat} (hb : bestFit v (4 * lineCap (par r 4 4)) = some b) :
    (planLineAlloc u r).act v =
      { st := putLine (par r 0 2) (par r 4 4) b (cal v + 1) v,
        payload := toBE 4 (lineCap (par r 4 4)) ++ toBE 8 (poolBase + b)
          ++ toBE 4 (largestFree (putLine (par r 0 2) (par r 4 4) b (cal v + 1) v)) } := by
  simp only [planLineAlloc, hb]

/-- Settles O29: configurations have no effect before their binding; every other plan gives a payload and an effect, that of a line's
placement where best fit finds a base. -/
theorem fixedBlockAndLineOperations : Obligations.FixedBlockAndLineOperations := by
  unfold Obligations.FixedBlockAndLineOperations
  refine ⟨fun r s h => execOp_stagedOnly h rfl rfl, fun r s h => execOp_stagedOnly h rfl rfl, fun r s h => execOp_answered h rfl rfl,
    fun r s b h hb => ?lineAlloc, fun r s h => execOp_answered h rfl rfl, fun r s h => execOp_answered h rfl rfl,
    fun r s h => execOp_answered h rfl rfl, fun r s h => execOp_answered h rfl rfl, fun r s h => execOp_answered h rfl rfl,
    fun r s h => execOp_answered h rfl rfl⟩
  case lineAlloc =>
    have hfit : bestFit (dequeue r s) (4 * lineCap (par (asRun r (dequeue r s)) 4 4)) = some b := by simpa using hb
    exact execOp_answered h rfl (lineAlloc_placed hfit)

end Sys2Proof.Proofs

namespace Sys2Proof.Proofs

open Sys2Proof.Machine Sys2Proof.Safety Sys2Proof.Laws

/-! ## What a target does with an access that it performs

A target performs an access that meets no error on every beat, with OKAY: `perform_read` says so of a read, and the lemmas here of a write
by lanes, of an atomic operation and of the write of one register. -/

section
variable {s : State} {x : Access}

/-- Heath, its alias and the line pool hold check bits (08 R291, R305). -/
theorem range_of_clean (h : cleanAt s x = true) :
    (rangeAt s x.addr == 2 || rangeAt s x.addr == 3 || rangeAt s x.addr == 4 || rangeAt s x.addr == 10) = true := by
  simp only [cleanAt, Bool.and_eq_true, Bool.or_eq_true, beq_iff_eq] at h
  obtain ⟨⟨-, (hg | hg) | ⟨hg, -⟩⟩, -⟩ := h <;> simp [hg]

theorem physAddr_mod_eight (ha : x.addr % 64 = 0) : physAddr s x.addr % 8 = 0 := by
  unfold physAddr heathBase
  split <;> omega

/-- From an aligned address on, the words written one by one are those of a write by lanes. -/
theorem foldl_laneWord {p : Nat} (hp : p % 8 = 0) : (List.range (8 * x.n)).foldl (laneWord x p) s = laneWrite x p s := by
  have hw : ∀ i, 8 * (p / 8 + i) = p + 8 * i := fun i => by omega
  unfold laneWrite
  congr 1
  funext t i
  simp only [laneWord, hw]

/-- A write that meets no error: the lanes of each of its words, with OKAY on every beat (07 R272, 08 R289). -/
theorem perform_write (hk : x.kind = 1) (ha : x.addr % 64 = 0) (h : cleanAt s x = true) (h0 : 0 < lengthOf x)
    (he : rangeAt s (x.addr + lengthOf x - 1) = rangeAt s x.addr) :
    perform x (beatsOf x) s = emit (okay x []) (laneWrite x (physAddr s x.addr) s) := by
  obtain ⟨hu, hc, hl, hw⟩ := clean_words h h0 he
  have hb : beatsOf x = x.n := by simp [beatsOf, hk]
  have hwords := writeBeats_plain x (physAddr s x.addr) hu hl x.n 0 s fun j _ hj => hw j (by simp [lengthOf, hk]; omega)
  rw [Nat.mul_zero, ← List.range_eq_range', foldl_laneWord (physAddr_mod_eight ha)] at hwords
  have hlost : (List.replicate x.n 0).contains 4 = false := by simp
  simp only [perform, hk, hb, Nat.sub_self, List.replicate_zero, List.isEmpty_nil, if_true, range_of_clean h, hc, countCorrected, hwords,
    hlost, Bool.false_eq_true, if_false, List.append_nil, answer, overall_okay, okay, Nat.one_ne_zero]

/-- An atomic operation that meets no error: the old word in the answer, the new one in its place (07 R271). -/
theorem perform_atomic (hk : x.kind = 2 ∨ x.kind = 3) (hn : x.n = 4 ∨ x.n = 8) (h : cleanAt s x = true) :
    perform x (beatsOf x) s = emit (okay x (memReads s (physAddr s x.addr) x.n))
      (memWrites (physAddr s x.addr) (atomicNew x (memReads s (physAddr s x.addr) x.n)) s) := by
  simp only [cleanAt, Bool.and_eq_true, List.isEmpty_iff, beq_iff_eq, List.all_eq_true, List.mem_range, Bool.not_eq_true'] at h
  obtain ⟨⟨⟨⟨hu, hc⟩, hl⟩, -⟩, hw⟩ := h
  have h0 : x.kind ≠ 0 := by omega
  have h1 : x.kind ≠ 1 := by omega
  have hlen : lengthOf x = x.n := if_neg (by omega)
  have hm : marked s (physAddr s x.addr / 8) = false := (hw 0 (by omega)).1
  have hb : beatsOf x = 1 := if_neg (by omega)
  have hword : atomicWord x (physAddr s x.addr) s = (memReads s (physAddr s x.addr) x.n, 0,
      memWrites (physAddr s x.addr) (atomicNew x (memReads s (physAddr s x.addr) x.n)) s) := by
    simp [atomicWord, hm, hu, hl, atomicNew]
  simp [perform, h0, h1, hb, hc, countCorrected, hword, answer, okay, overall, respFault]

end

/-! ## The write of one register -/

section

theorem ofLE_toLE (n v : Nat) : ofLE (toLE n v) = v % 256 ^ n := by
  induction n generalizing v with
  | zero => simp [toLE, ofLE, Nat.mod_one]
  | succ n ih =>
    have hcons : toLE (n + 1) v = BitVec.ofNat 8 v :: toLE n (v / 256) := by
      simp [toLE, List.range_succ_eq_map, Nat.pow_succ', Nat.div_div_eq_div_mul]
    rw [hcons, ofLE, ih, BitVec.toNat_ofNat, Nat.pow_succ' (m := 256), Nat.mod_mul (a := 256)]

/-- A fold over a range that acts at one index only. -/
theorem foldl_range_single {α : Type} {g : α → Nat → α} {f : α → α} {k n : Nat} (hg : ∀ u w, w < n → g u w = if w = k then f u else u) (t : α) :
    (List.range n).foldl g t = if k < n then f t else t := by
  induction n with
  | zero => rfl
  | succ n ih =>
    rw [List.range_succ, List.foldl_append, ih fun u w hw => hg u w (by omega), List.foldl_cons, List.foldl_nil, hg _ n (by omega)]
    by_cases hk : k = n
    · simp only [hk, Nat.lt_irrefl, Nat.lt_succ_self, if_true, if_false]
    · have hlt : k < n + 1 ↔ k < n := by omega
      simp only [Ne.symm hk, hlt, if_false]

variable {s : State} {m a v : Nat}

/-- The registers lie at 0x3000000000 to 0x30FFFBFFFF (07 R267). -/
theorem rangeAt_eq_registers : rangeAt s a = 8 ↔ 0x3000000000 ≤ a ∧ a ≤ 0x30FFFBFFFF := by
  simp only [rangeAt, Bool.and_eq_true, decide_eq_true_eq]
  grind (splits := 40)

/-- Of the words of its beat, the write of a register carries all lanes of that register's word only. -/
theorem regAccess_lanes {w : Nat} (hw : w < 16) :
    ((List.range 4).all fun j => (regAccess m a v).mask.isEmpty || (regAccess m a v).mask.getD (4 * w + j) false) = decide (w = a % 64 / 4) := by
  have hmask : (regAccess m a v).mask.isEmpty = false := by simp [regAccess]
  have hlane : ∀ j < 4, (regAccess m a v).mask.getD (4 * w + j) false = decide (w = a % 64 / 4) := fun j hj => by
    have hi : 4 * w + j < 64 := by omega
    simp only [regAccess, List.getD_eq_getElem?_getD, List.getElem?_map, List.getElem?_range hi, Option.map_some, Option.getD_some,
      ← Bool.decide_and, decide_eq_decide]
    omega
  rw [Bool.eq_iff_iff, List.all_eq_true]
  simp only [hmask, Bool.false_or, List.mem_range]
  exact ⟨fun h => (hlane 0 (by omega)).symm.trans (h 0 (by omega)), fun h j hj => (hlane j hj).trans h⟩

theorem regAccess_word (hv : v < 2 ^ 32) : le (regAccess m a v).data (4 * (a % 64 / 4)) 4 = v := by
  have hz : (zeroBytes (a % 64 / 4 * 4)).length = 4 * (a % 64 / 4) := by simp [zeroBytes, Nat.mul_comm]
  have ht : (toLE 4 v).take 4 = toLE 4 v := List.take_of_length_le (by simp)
  rw [le, regAccess, ← hz, List.drop_left, ht, ofLE_toLE]
  exact Nat.mod_eq_of_lt hv

/-- Of the beat that carries the write of a register, only that register's word is written (07 R269). -/
theorem otherWrite_regAccess (ha : a % 4 = 0) (hv : v < 2 ^ 32) (hg : rangeAt s (a / 64 * 64) = 8) :
    otherWrite (regAccess m a v) 1 s = fabRegWrite a v s := by
  have hword : a / 64 * 64 + 4 * (a % 64 / 4) = a := by omega
  refine (if_pos hg).trans ((foldl_range_single (f := fabRegWrite a v) (k := a % 64 / 4) (fun t w hw => ?word) s).trans (if_pos (by omega)))
  case word =>
    rw [regAccess_lanes hw]
    by_cases hk : w = a % 64 / 4
    · subst hk
      simp only [decide_true, if_true, regAccess_word hv]
      exact congrArg (fabRegWrite · v t) hword
    · simp only [hk, decide_false, Bool.false_eq_true, if_false]

theorem perform_regAccess (ha : a % 4 = 0) (hv : v < 2 ^ 32) (hg : rangeAt s (a / 64 * 64) = 8) :
    perform (regAccess m a v) (beatsOf (regAccess m a v)) s = emit (okay (regAccess m a v) []) (fabRegWrite a v s) := by
  have hb : beatsOf (regAccess m a v) = 1 := rfl
  have hk : (regAccess m a v).kind = 1 := rfl
  have hg' : rangeAt s (regAccess m a v).addr = 8 := hg
  simp [perform, hb, hk, hg', otherWrite_regAccess ha hv hg, answer, okay, overall, respRank]

/-- Only the Management Processor, or the debug port in Factory Test, may write a register (07 R269). -/
theorem refused_regAccess (hi : s.fab.isolated = false) (hg : rangeAt s (a / 64 * 64) = 8) (hm : mayWriteReg s m = false) :
    refused s (regAccess m a v) = 2 := by
  have hlast : rangeAt s (a / 64 * 64 + 63) = 8 := by rw [rangeAt_eq_registers] at hg ⊢; omega
  have hline : a / 64 * 64 % 64 = 0 := by omega
  have hpage : (a / 64 * 64) / 4096 = (a / 64 * 64 + 63) / 4096 := by omega
  have hmay : mayAccess s (regAccess m a v) = false := by simp [mayAccess, regAccess, hg, hm]
  have hlen : lengthOf (regAccess m a v) = 64 := rfl
  have haddr : (regAccess m a v).addr = a / 64 * 64 := rfl
  have hn : (regAccess m a v).n = 1 := rfl
  have hk : (regAccess m a v).kind = 1 := rfl
  simp [refused, hi, hmay, hlen, haddr, hn, hk, hg, hlast, hline, ← hpage]

end

/-! ## Accesses that are granted at once -/

section
variable {s : State} {x : Access} {m a v : Nat}

/-- Every test of `refused` that fails gives a response other than OKAY; so what nothing refuses its master may make, and as a burst it
begins at a beat's address and ends in the range in which it begins (07 R270, R272). -/
theorem parts_of_not_refused (h : refused s x = 0) : mayAccess s x = true ∧ (x.kind < 2 →
    0 < x.n ∧ x.addr % 64 = 0 ∧ rangeAt s (x.addr + lengthOf x - 1) = rangeAt s x.addr) := by
  unfold refused at h
  grind

theorem burst_of_not_refused (hk : x.kind < 2) (h : refused s x = 0) :
    0 < lengthOf x ∧ x.addr % 64 = 0 ∧ rangeAt s (x.addr + lengthOf x - 1) = rangeAt s x.addr := by
  obtain ⟨-, hburst⟩ := parts_of_not_refused h
  obtain ⟨h0, ha, he⟩ := hburst hk
  have hlen : lengthOf x = 64 * x.n := if_pos hk
  exact ⟨by omega, ha, he⟩

/-- The ranges of Heath (07 R267). -/
theorem rangeAt_eq_alias : rangeAt s a = 2 ↔ s.fab.remap = true ∧ a ≤ 0x3FFFFF := by
  simp only [rangeAt, Bool.and_eq_true, decide_eq_true_eq]
  grind (splits := 40)

theorem rangeAt_eq_heath : rangeAt s a = 3 ↔ 0x0100000000 ≤ a ∧ a ≤ 0x0104FFFFFF := by
  simp only [rangeAt, Bool.and_eq_true, decide_eq_true_eq]
  grind (splits := 40)

/-- Heath and its alias begin and end at words of 8 bytes. -/
theorem rangeAt_last_of_aligned {n : Nat} (hg : rangeAt s a = 2 ∨ rangeAt s a = 3) (hn : n = 4 ∨ n = 8) (ha : a % n = 0) :
    rangeAt s (a + n - 1) = rangeAt s a := by
  rcases hg with hg | hg
  · rw [hg]
    rw [rangeAt_eq_alias] at hg ⊢
    exact ⟨hg.1, by rcases hn with rfl | rfl <;> omega⟩
  · rw [hg]
    rw [rangeAt_eq_heath] at hg ⊢
    rcases hn with rfl | rfl <;> omega

/-- An atomic operation that nothing refuses is on an aligned word of 4 or 8 bytes of Heath (07 R271). -/
theorem atomic_of_not_refused (hk : x.kind = 2 ∨ x.kind = 3) (h : refused s x = 0) :
    (rangeAt s x.addr = 2 ∨ rangeAt s x.addr = 3) ∧ (x.n = 4 ∨ x.n = 8) ∧ x.addr % x.n = 0 := by
  have h2 : 2 ≤ x.kind := by omega
  have h4 : x.kind ≠ 4 := by omega
  obtain ⟨hmay, -⟩ := parts_of_not_refused h
  simp only [mayAccess, h4, h2, if_true, if_false, Bool.and_eq_true, Bool.or_eq_true, beq_iff_eq] at hmay
  obtain ⟨⟨⟨-, hg⟩, hn⟩, ha⟩ := hmay
  exact ⟨hg, hn, ha⟩

theorem parts_of_granted (h : granted s x = true) : x.lock = false ∧ x.home = false ∧ refused s x = 0 ∧ s.fab.waiting = [] := by
  simp only [granted, Bool.and_eq_true, Bool.not_eq_true', beq_iff_eq, List.isEmpty_iff] at h
  obtain ⟨⟨⟨⟨⟨⟨⟨-, -⟩, hl⟩, hh⟩, hr⟩, -⟩, -⟩, hw⟩ := h
  exact ⟨hl, hh, hr, hw⟩

/-- A granted access that asks for no lock is performed on all its beats, and its target has had its turn (07 R274). -/
theorem access_performed (h : granted s x = true) (hk : x.kind ≠ 4) :
    ∃ round, access x s = perform x (beatsOf x) (turn s x round) := by
  obtain ⟨hl, hh, -, hw⟩ := parts_of_granted h
  obtain ⟨round, ha⟩ := access_granted s x h
  have ht : targetOf { s with fab := { s.fab with waiting := [], round := round } } x.addr = targetOf s x.addr := rfl
  exact ⟨round, ha.trans (by simp [grant, hh, hl, hk, turn, hw, ht])⟩

/-- A word outside the local stores is marked in its bank's array or in the table of delay memory (08 R291, R305). -/
theorem marked_of_not_local {w : Nat} (h : 8 * w < 0x0800000000 ∨ poolBase ≤ 8 * w) (s : State) :
    marked s w = (s.mem.poison.contains w || s.mem.dramTab.contains w) := by
  rw [marked, notLocal h]
  rfl

/-- The turn of a target leaves the marks of Heath and of the line pool as they are. -/
theorem cleanAt_turn (round : Tab (List (Nat × Nat))) (h : cleanAt s x = true) (h0 : 0 < lengthOf x)
    (he : rangeAt s (x.addr + lengthOf x - 1) = rangeAt s x.addr) : cleanAt (turn s x round) x = true := by
  obtain ⟨-, -, -, hw⟩ := clean_words h h0 he
  have hp : physAddr (turn s x round) x.addr = physAddr s x.addr := rfl
  simp only [cleanAt, Bool.and_eq_true, List.all_eq_true, List.mem_range, Bool.not_eq_true', hp] at h ⊢
  refine ⟨h.1, fun i hi => ?_⟩
  obtain ⟨hm, hd, ho⟩ := hw i hi
  rw [marked_of_not_local ho] at hm ⊢
  exact ⟨hm, hd⟩

theorem access_read (hk : x.kind = 0) (h : (granted s x && cleanAt s x) = true) :
    ∃ round, access x s = emit (okay x (memReads s (physAddr s x.addr) (64 * x.n))) (turn s x round) := by
  obtain ⟨hg, hc⟩ := Bool.and_eq_true_iff.mp h
  obtain ⟨-, -, hr, -⟩ := parts_of_granted hg
  obtain ⟨h0, ha, he⟩ := burst_of_not_refused (by omega) hr
  obtain ⟨round, hx⟩ := access_performed hg (by omega)
  exact ⟨round, hx.trans (perform_read _ x hk ha (cleanAt_turn round hc h0 he) h0 he)⟩

theorem access_write (hk : x.kind = 1) (h : (granted s x && cleanAt s x) = true) :
    ∃ round, access x s = emit (okay x []) (laneWrite x (physAddr s x.addr) (turn s x round)) := by
  obtain ⟨hg, hc⟩ := Bool.and_eq_true_iff.mp h
  obtain ⟨-, -, hr, -⟩ := parts_of_granted hg
  obtain ⟨h0, ha, he⟩ := burst_of_not_refused (by omega) hr
  obtain ⟨round, hx⟩ := access_performed hg (by omega)
  exact ⟨round, hx.trans (perform_write hk ha (cleanAt_turn round hc h0 he) h0 he)⟩

theorem access_atomic (hk : x.kind = 2 ∨ x.kind = 3) (h : (granted s x && cleanAt s x) = true) :
    ∃ round, access x s = emit (okay x (memReads s (physAddr s x.addr) x.n))
      (memWrites (physAddr s x.addr) (atomicNew x (memReads s (physAddr s x.addr) x.n)) (turn s x round)) := by
  obtain ⟨hg, hc⟩ := Bool.and_eq_true_iff.mp h
  obtain ⟨-, -, hr, -⟩ := parts_of_granted hg
  obtain ⟨hh, hn, ha⟩ := atomic_of_not_refused hk hr
  obtain ⟨round, hx⟩ := access_performed hg (by omega)
  have hlen : lengthOf x = x.n := if_neg (by omega)
  have hclean := cleanAt_turn round hc (by omega) (by rw [hlen]; exact rangeAt_last_of_aligned hh hn ha)
  exact ⟨round, hx.trans (perform_atomic hk hn hclean)⟩

/-- The write of a register by a master that may make it (07 R269). -/
theorem access_regAccess (ha : a % 4 = 0) (hv : v < 2 ^ 32) (hg : rangeAt s (a / 64 * 64) = 8) (h : granted s (regAccess m a v) = true) :
    ∃ round, access (regAccess m a v) s = emit (okay (regAccess m a v) []) (fabRegWrite a v (turn s (regAccess m a v) round)) := by
  obtain ⟨round, hx⟩ := access_performed h (by simp [regAccess])
  exact ⟨round, hx.trans (perform_regAccess (s := turn s (regAccess m a v) round) ha hv hg)⟩

/-- A command that is a granted write of a register does what that register does (07 R269). -/
theorem exec_regAccess (c : Instr) (hx : exec c s = ends (access (regAccess m a v) s)) (hlo : 0x3000000000 ≤ a) (hhi : a ≤ 0x30FFFBFFFF)
    (ha : a % 4 = 0) (hv : v < 2 ^ 32) (h : granted s (regAccess m a v) = true) :
    ∃ round, exec c s = ends (emit (okay (regAccess m a v) []) (fabRegWrite a v (turn s (regAccess m a v) round))) := by
  obtain ⟨round, hr⟩ := access_regAccess ha hv (rangeAt_eq_registers.mpr ⟨by omega, by omega⟩) h
  exact ⟨round, hx.trans (congrArg ends hr)⟩

/-- A granted request for a lock puts it in place of whatever its master held or had lost of the target (07 R282). -/
theorem access_lock (h : granted s { kind := 4, m := m, addr := a } = true) :
    ∃ round, access { kind := 4, m := m, addr := a } s =
      let x : Access := { kind := 4, m := m, addr := a }
      let u := turn s x round
      let other := fun (l : Lock) => !(l.target == targetOf s a && l.master == m)
      emit (okay x []) { u with fab := { u.fab with
        locks := s.fab.locks.filter other ++ [{ target := targetOf s a, master := m }], ended := s.fab.ended.filter other } } := by
  obtain ⟨-, -, -, hw⟩ := parts_of_granted h
  obtain ⟨round, ha⟩ := access_granted s _ h
  have ht : targetOf { s with fab := { s.fab with waiting := [], round := round } } a = targetOf s a := rfl
  exact ⟨round, ha.trans (by simp [grant, turn, hw, ht, answerAll, answer, okay, overall, beatsOf, respRank])⟩

/-- A master that may not write registers is answered DENIED, with fault 0x0502 (07 R269, R272). -/
theorem access_regAccess_denied (hw : awake s = true) (hm : masterHere s m = true) (hi : s.fab.isolated = false)
    (hg : rangeAt s (a / 64 * 64) = 8) (hn : mayWriteReg s m = false) :
    access (regAccess m a v) s = emit { kind := .fabric, a := 2, b := m, c := a / 64 * 64, codes := [2] }
      (raiseX 0x0502 (a / 64 * 64) { master := m, target := 0x17, access := 2, resp := 2 } false true s) := by
  have he : endedLock s (regAccess m a v) = none := rfl
  have hs : stopped s (regAccess m a v) = 2 := by
    simp only [stopped, he, refused_regAccess hi hg hn]
    rfl
  have ht : targetOf s (a / 64 * 64) = 0x17 := by simp [targetOf, hg]
  have hm' : masterHere s (regAccess m a v).m = true := hm
  simp only [access, hw, hm', hs, turnAway, he]
  simp [answerAll, answer, respFault, faccOf, regAccess, ht, accessCode, overall, beatsOf, respRank]

/-! ## The home ports -/

/-- Nothing but its own bank holds up an access by a home port: it is performed at once (08 R287, R288). -/
theorem access_home (hh : x.home = true) (hl : x.lock = false) (hk : x.kind ≠ 4) (ha : awake s = true) (hm : masterHere s x.m = true)
    (hb : bankBusy s x = false) (hw : s.fab.waiting = []) : access x s = perform x (beatsOf x) s := by
  have hs : ∀ u, stopped u x = 0 := fun u => if_pos hh
  have hlock : ∀ u, lockedOut u x = false := fun u => by simp [lockedOut, hh]
  have hwake : wakeFor x s = s := if_neg (by simp [hb])
  have hready : readyAt { s with fab := { s.fab with waiting := [x] } } (targetOf s x.addr) = [x] := by
    have hb' : bankBusy { s with fab := { s.fab with waiting := [x] } } x = false := hb
    have ht : targetOf { s with fab := { s.fab with waiting := [x] } } x.addr = targetOf s x.addr := rfl
    simp [readyAt, hlock, hb', ht]
  have hone : access x s = grant x { s with fab := { s.fab with waiting := [] } } := by
    simp [access, ha, hm, hs, hwake, hw, serveAll, serve, hready, nextGrant, hh, dropOne]
  rw [hone, ← hw]
  simp [grant, hh, hl, hk]

/-- An access as a home port makes it: no part of a locked sequence (08 R287). -/
def atHome (x : Access) : Access := { x with home := true, lock := false, last := false }

@[simp] theorem atHome_m (x : Access) : (atHome x).m = x.m := rfl
@[simp] theorem atHome_addr (x : Access) : (atHome x).addr = x.addr := rfl
@[simp] theorem atHome_kind (x : Access) : (atHome x).kind = x.kind := rfl

/-- What a home port may carry: bursts, and atomic operations on aligned words (07 R271, 08 R287). -/
def homeForm (x : Access) : Prop := x.kind < 2 ∨ ((x.kind = 2 ∨ x.kind = 3) ∧ (x.n = 4 ∨ x.n = 8) ∧ x.addr % x.n = 0)

/-- The size that a home port asks for. -/
theorem homeSize_of_word (h : x.kind < 2 ∨ x.n = 4 ∨ x.n = 8) : (decide (2 ≤ x.kind) && !(x.n == 4 || x.n == 8)) = false := by
  rcases h with h | h | h
  · simp [show ¬ 2 ≤ x.kind by omega]
  · simp [h]
  · simp [h]

/-- A home port takes whole bytes of its own bank; of an atomic operation out of line it does not ask where its bytes end (08 R287). -/
theorem exec_homePortAccess (hw : awake s = true) (hg : (rangeAt s x.addr == 2 || rangeAt s x.addr == 3) = true)
    (hm : x.m = homeMaster (bankOfAddr (physAddr s x.addr))) (h0 : 0 < lengthOf x) (h3 : x.kind ≤ 3)
    (hn : (decide (2 ≤ x.kind) && !(x.n == 4 || x.n == 8)) = false)
    (he : (decide (2 ≤ x.kind) && x.addr % x.n != 0 || bankOfAddr (physAddr s (x.addr + lengthOf x - 1)) == bankOfAddr (physAddr s x.addr)
      && rangeAt s (x.addr + lengthOf x - 1) == rangeAt s x.addr) = true) (hi : s.fab.isolated = false) :
    exec (.homePortAccess x) s = ends (if 2 ≤ x.kind ∧ x.addr % x.n ≠ 0 then answerAll (atHome x) 2 (respFault (atHome x) 2 s)
      else access (atHome x) s) := by
  change execHomePortAccess x s = _
  unfold execHomePortAccess
  refine congrArg ends ((if_neg ?outside).trans ((if_neg ?isolated).trans (ite_congr (propext ?crooked) (fun _ => rfl) (fun _ => rfl))))
  case outside =>
    have hlen : lengthOf { x with home := true, lock := false, last := false } = lengthOf x := rfl
    have hk : ¬ 3 < x.kind := by omega
    simp only [hlen, hw, h0, hg, he, hn, hk, ← hm, decide_true, decide_false, Bool.true_and, Bool.not_true, Bool.false_or, bne_self_eq_false,
      Bool.false_eq_true, not_false_eq_true]
  case isolated => simp [hi]
  case crooked => simp

theorem exec_homePortAccess_whole (h : homeOk s x = true) (hk : homeForm x) (hi : s.fab.isolated = false) :
    exec (.homePortAccess x) s = ends (access (atHome x) s) := by
  simp only [homeOk, Bool.and_eq_true, decide_eq_true_eq] at h
  obtain ⟨⟨⟨⟨⟨⟨hw, h0⟩, hg⟩, hb⟩, he⟩, hm⟩, -⟩ := h
  unfold homeForm at hk
  rw [exec_homePortAccess hw hg (beq_iff_eq.mp hm) h0 (by omega) (homeSize_of_word (by omega)) (by simp [hb, he]) hi, if_neg (by omega)]

/-- The atomic operation of a home port on a word out of line is DENIED with fault 0x0502, wherever its bytes end (07 R271). -/
theorem exec_homePortAccess_misaligned (hw : awake s = true) (hm : x.m = homeMaster (bankOfAddr (physAddr s x.addr)))
    (hg : rangeAt s x.addr = 2 ∨ rangeAt s x.addr = 3) (hk : x.kind = 2 ∨ x.kind = 3) (hn : x.n = 4 ∨ x.n = 8) (ha : x.addr % x.n ≠ 0)
    (hi : s.fab.isolated = false) :
    exec (.homePortAccess x) s = ends (emit { kind := .fabric, a := 2, b := x.m, c := x.addr, codes := [2] }
      (raiseX 0x0502 x.addr { master := x.m, target := targetOf s x.addr, access := x.kind + 1, resp := 2 } false true s)) := by
  have h2 : 2 ≤ x.kind := by omega
  have hlen : lengthOf x = x.n := if_neg (by omega)
  have hbeats : beatsOf (atHome x) = 1 := if_neg (by rw [atHome_kind]; omega)
  have hcode : accessCode (atHome x) = x.kind + 1 := (if_neg (by rw [atHome_kind]; omega)).trans (if_neg (by rw [atHome_kind]; omega))
  rw [exec_homePortAccess hw (by simpa using hg) hm (by omega) (by omega) (homeSize_of_word (.inr hn)) (by simp [h2, ha]) hi, if_pos ⟨h2, ha⟩]
  simp [answerAll, answer, respFault, faccOf, hbeats, hcode, overall, respRank]

/-- An access of a home port that meets no error and that nothing holds up is performed at once (08 R287, R288). -/
theorem exec_homePortAccess_performed (h : (homeOk s x && cleanAt s x && !bankBusy s x && s.fab.waiting.isEmpty) = true)
    (hk : homeForm x) (hi : s.fab.isolated = false) :
    cleanAt s x = true ∧ 0 < lengthOf x ∧ rangeAt s (x.addr + lengthOf x - 1) = rangeAt s x.addr ∧
    exec (.homePortAccess x) s = ends (perform (atHome x) (beatsOf (atHome x)) s) := by
  simp only [Bool.and_eq_true, Bool.not_eq_true', List.isEmpty_iff] at h
  obtain ⟨⟨⟨ho, hc⟩, hb⟩, hw⟩ := h
  have hx := exec_homePortAccess_whole ho hk hi
  simp only [homeOk, Bool.and_eq_true, decide_eq_true_eq, beq_iff_eq] at ho
  obtain ⟨⟨⟨⟨⟨⟨ha, h0⟩, -⟩, -⟩, he⟩, -⟩, hm⟩ := ho
  have h4 : x.kind ≠ 4 := by unfold homeForm at hk; omega
  exact ⟨hc, h0, he, hx.trans (congrArg ends (access_home rfl rfl h4 ha hm hb hw))⟩

end

/-! ## The events -/

theorem serveAll_of_none_waiting {s : State} {t : Nat} (h : s.fab.waiting = []) : serveAll t s = s := by
  simp [serveAll, h, serve]

/-- Of a bank under Auto that the idle time ends, a Lea's own goes to Fallow where no engine of the Lea is on and nothing is held in it; any
other goes to Retention (08 R294, R295). -/
theorem exec_heathIdleTimeout {s : State} {n : Nat} (hw : awake s = true) (hn : n < 20) (h16 : n ≠ 16) (h17 : n ≠ 17) (hp : (bankAt s n).policy = 0)
    (hs : (bankAt s n).pstate = 2 ∨ (bankAt s n).pstate = 3) (hk : (bankAt s n).waking = false) :
    exec (.heathIdleTimeout n) s = ends (
      if n < 16 ∧ ((List.range 12).any fun e => (engAt s (12 * n + e)).pst == 1) = false ∧ bankHolds s n = false then bankOff n s
      else modBank n (fun b => { b with pstate := 2 }) s) := by
  refine congrArg ends ((if_neg ?idle).trans (ite_congr (propext ?mayEnd) (fun _ => rfl) (fun _ => rfl)))
  case idle => rcases hs with hs | hs <;> simp [hw, hn, h16, h17, hp, hk, hs]
  case mayEnd => simp [and_assoc]

/-- Settles O48: a granted access, and one by a home port, is performed as its target's lemma says; the other events go by their guards,
and where nothing waits, an end of a lock or of a wake serves nothing. -/
theorem fabricAndMemoryEvents : Obligations.FabricAndMemoryEvents := by
  unfold Obligations.FabricAndMemoryEvents
  refine ⟨fun x s h => ?read, fun x s h => ?write, fun x s h => ?add, fun x s h => ?swap, fun m a s h => ?lock, fun t m s hw => ?limit,
    fun x s ho hk hi => exec_homePortAccess_whole ho hk hi, fun x s h ha hi hk => ?homeRead, fun x s h ha hi hk => ?homeWrite,
    fun x s h hi hk hn ha => ?homeAtomic, fun x s hw hm hg hk hn ha hi => exec_homePortAccess_misaligned hw hm hg hk hn ha hi,
    fun n ue ce s hw hn hp => ?scrub, fun ue ce s hr hs => ?dramScrub, fun n s hw hn hp hs hk hb he => ?idleOff,
    fun n s hw hn hp hs hk hb => ?idleHolds, fun n s hw h18 hn hp hs hk => ?idleShared, fun n s hk => ?wake, fun n s hk hw => ?wakeAlone,
    fun n s hn hp => ?zeroed, fun rpl size s hw => ?ringOn, fun rpl s hw => ?ringOff, fun v s hw => ?intStat, fun s hw => ?ff0,
    fun v s hw => ?rstCause, fun s hw => ?forced, fun s h => ?remap, fun n v s hn hv h => ?heathCtrl, fun mv s h => ?vcore,
    fun v s hv h => ?clkHist, fun m a v s hw => ?window, fun m a v s ha hv hg h => ?register,
    fun m a v s hw hm hi hg hn => congrArg ends (access_regAccess_denied hw hm hi hg hn), fun s => rfl⟩
  case read => exact (access_read rfl h).imp fun _ hx => congrArg ends hx
  case write => exact (access_write rfl h).imp fun _ hx => congrArg ends hx
  case add => exact (access_atomic (.inl rfl) h).imp fun _ hx => congrArg ends hx
  case swap => exact (access_atomic (.inr rfl) h).imp fun _ hx => congrArg ends hx
  case lock => exact (access_lock h).imp fun _ hx => congrArg ends hx
  case limit => exact congrArg ends (serveAll_of_none_waiting (s := endLock t m true s) hw)
  case homeRead =>
    obtain ⟨hc, h0, he, hx⟩ := exec_homePortAccess_performed h (.inl (by omega)) hi
    exact hx.trans (congrArg ends (perform_read s _ hk ha hc h0 he))
  case homeWrite =>
    obtain ⟨hc, h0, he, hx⟩ := exec_homePortAccess_performed h (.inl (by omega)) hi
    exact hx.trans (congrArg ends (perform_write hk ha hc h0 he))
  case homeAtomic =>
    obtain ⟨hc, -, -, hx⟩ := exec_homePortAccess_performed h (.inr ⟨hk, hn, ha⟩) hi
    exact hx.trans (congrArg ends (perform_atomic hk hn hc))
  case scrub => exact congrArg ends (if_pos (by simp [hw, hn, hp]))
  case dramScrub => exact congrArg ends (if_pos (by simp [hr, hs]))
  case idleOff => rw [exec_heathIdleTimeout hw (by omega) (by omega) (by omega) hp hs hk, if_pos ⟨hn, he, hb⟩]
  case idleHolds =>
    rw [exec_heathIdleTimeout hw (by omega) (by omega) (by omega) hp hs hk, if_neg]
    rintro ⟨-, he, hh⟩
    simp [he, hh] at hb
  case idleShared => rw [exec_heathIdleTimeout hw hn (by omega) (by omega) hp (.inr hs) hk, if_neg (by omega)]
  case wake => exact congrArg ends (if_pos hk)
  case wakeAlone => exact congrArg ends ((if_pos hk).trans (serveAll_of_none_waiting hw))
  case zeroed => exact congrArg ends (if_pos (by simp [hn, hp]))
  case ringOn | ringOff | intStat | ff0 | rstCause | forced | window => exact congrArg ends (if_pos hw)
  case remap => exact exec_regAccess _ rfl (by omega) (by omega) (by omega) (by omega) h
  case heathCtrl => exact exec_regAccess _ (congrArg ends (if_pos hn)) (by omega) (by omega) (by omega) hv h
  case vcore => exact exec_regAccess _ rfl (by omega) (by omega) (by omega) (by omega) h
  case clkHist => exact exec_regAccess _ rfl (by omega) (by omega) (by omega) hv h
  case register => exact (access_regAccess ha hv hg h).imp fun _ hx => congrArg ends hx

end Sys2Proof.Proofs

namespace Sys2Proof.Proofs

open Sys2Proof.Machine Sys2Proof.Safety Sys2Proof.Laws

/-! ## The bytes of the fabric memory (08 R291, R305)

The fabric memory is the byte memory over `unlisted`: each lemma reads the law of the sparse byte memories at a state. -/

section
variable {s : State}

theorem memory_wf_memWrites (a : Nat) (bs : List Byte) (h : Memory.wf s.mem.cells) : Memory.wf (memWrites a bs s).mem.cells :=
  memWf_wrCells bs a h

theorem memRead_memWrites (a : Nat) (bs : List Byte) (i : Nat) (h : Memory.wf s.mem.cells) :
    memRead (memWrites a bs s) i = if a ≤ i ∧ i < a + bs.length then bs.getD (i - a) 0 else memRead s i :=
  rdCell_wrCells unlisted bs s.mem.cells a i h

theorem memory_wf_memClear (lo hi : Nat) (h : Memory.wf s.mem.cells) : Memory.wf (memClear lo hi s).mem.cells :=
  memWf_clearCells lo hi h

theorem memRead_memClear (lo hi i : Nat) (h : Memory.wf s.mem.cells) :
    memRead (memClear lo hi s) i = if lo ≤ i ∧ i < hi then unlisted i else memRead s i :=
  rdCell_clearCells unlisted lo hi i h

theorem cells_eq_of_memRead_eq {t : State} (hs : Memory.wf s.mem.cells) (ht : Memory.wf t.mem.cells)
    (h : ∀ i, memRead s i = memRead t i) : s.mem.cells = t.mem.cells :=
  mem_ext hs ht h

end

/-- Settles O12: writes and clearings keep the canonical form and read as the laws of byte memories say, and a canonical form is determined
by what it reads as. -/
theorem memoryBytes : Obligations.MemoryBytes := by
  unfold Obligations.MemoryBytes
  exact ⟨fun _ a bs i h => ⟨memory_wf_memWrites a bs h, memRead_memWrites a bs i h⟩,
    fun _ lo hi i h => ⟨memory_wf_memClear lo hi h, memRead_memClear lo hi i h⟩, fun _ _ => cells_eq_of_memRead_eq⟩

end Sys2Proof.Proofs

namespace Sys2Proof.Proofs

open Sys2Proof.Machine Sys2Proof.Safety Sys2Proof.Laws

/-! ## The commands of the audio ports and of the service line (09 R325-R368) -/

/-- Settles O30: configurations have no effect before their binding, and every other plan gives a payload and an effect. -/
theorem portOperations : Obligations.PortOperations := by
  unfold Obligations.PortOperations
  exact ⟨fun r s h => execOp_stagedOnly h rfl rfl, fun r s h => execOp_answered h rfl rfl, fun r s h => execOp_answered h rfl rfl,
    fun r s h => execOp_answered h rfl rfl, fun r s h => execOp_stagedOnly h rfl rfl, fun r s h => execOp_answered h rfl rfl,
    fun r s h => execOp_stagedOnly h rfl rfl, fun r s h => execOp_stagedOnly h rfl rfl, fun r s h => execOp_answered h rfl rfl,
    fun r s h => execOp_answered h rfl rfl, fun r s h => execOp_answered h rfl rfl, fun r s h => execOp_answered h rfl rfl,
    fun r s h => execOp_answered h rfl rfl, fun r s h => execOp_stagedOnly h rfl rfl, fun r s h => execOp_answered h rfl rfl⟩

end Sys2Proof.Proofs

namespace Sys2Proof.Proofs

open Sys2Proof.Machine Sys2Proof.Safety Sys2Proof.Laws

/-! ## The frame rates at which a port locks (09 R326, R331, R342) -/

theorem asrcTakes_iff {hz : Nat} : asrcTakes hz = true ↔ 28000 ≤ hz ∧ hz ≤ 216000 := by
  simp [asrcTakes]

theorem not_asrcTakes_iff {hz : Nat} : asrcTakes hz = false ↔ hz < 28000 ∨ 216000 < hz := by
  rw [← Bool.not_eq_true, asrcTakes_iff]
  omega

theorem spMayLock_of_no_asrc {x : SpCfg} {hz : Nat} (hb : bit x.flags 3 = false) : spMayLock x hz = true := by
  simp [spMayLock, hb]

theorem spMayLock_iff_of_asrc {x : SpCfg} {hz : Nat} (hb : bit x.flags 3 = true) :
    spMayLock x hz = true ↔ asrcTakes hz = true ∧ x.ch * x.slot * hz ≤ 98304000 := by
  simp [spMayLock, hb]

theorem spMayLock_of_fast {x : SpCfg} {hz : Nat} (hb : bit x.flags 3 = true) (h : 98304000 < x.ch * x.slot * hz) :
    spMayLock x hz = false := by
  rw [← Bool.not_eq_true, spMayLock_iff_of_asrc hb]
  omega

/-! ## The events of the serial and AES3 ports (09 R326-R342)

A clock, underrun, overrun or lock event settles `if guard then effect else s`. Where the effect depends on the port's ASRC or on an
error, the event has a lemma per outcome. -/

section
variable {p hz : Nat} {phase : Int} {s : State}

/-- A clock slave that acquires or is muted locks at a rate that it may lock at, behind the ASRC with the delay of that rate. -/
theorem exec_spLock (hs : (spSt s p).state = 2 ∨ (spSt s p).state = 5) (hm : spMayLock (tgetD s.pipe.live.sp p {}) hz = true) :
    exec (.spLock p phase hz) s = ends (modSp p (fun y => { y with
      unmute := true, phase := phase, rate := hz,
      delay := if bit (tgetD s.pipe.live.sp p {}).flags 3 then asrcDelay s hz else y.delay }) s) :=
  congrArg ends (if_pos (by simp [hs, hm]))

theorem exec_spLock_refused (hm : spMayLock (tgetD s.pipe.live.sp p {}) hz = false) : exec (.spLock p phase hz) s = ends s :=
  congrArg ends (if_neg (by simp [hm]))

/-- An AES3 receiver that acquires or is muted locks, behind the ASRC only at a rate that the ASRC takes. -/
theorem exec_aeRelock (hs : (aeSt s p).state = 1 ∨ (aeSt s p).state = 4)
    (hm : bit (tgetD s.pipe.live.ae p {}).flags 2 = false ∨ asrcTakes hz = true) :
    exec (.aeRelock p phase hz) s = ends (edgesBack (4 + p) (modAe p (fun y => { y with
      unmute := true, lock := true, phase := phase, rate := hz,
      delay := if bit (tgetD s.pipe.live.ae p {}).flags 2 then asrcDelay s hz else y.delay }) s)) :=
  congrArg ends (if_pos (by simp [hs, hm]))

theorem exec_aeRelock_refused (hb : bit (tgetD s.pipe.live.ae p {}).flags 2 = true) (ht : asrcTakes hz = false) :
    exec (.aeRelock p phase hz) s = ends s :=
  congrArg ends (if_neg (by simp [hb, ht]))

theorem exec_spClockLoss {pos : Nat} (h : (spSt s p).state = 3 ∨ (spSt s p).state = 4 ∨ (spSt s p).unmute = true)
    (hin : bit (tgetD s.pipe.live.sp p {}).flags 0 = true) :
    exec (.spClockLoss p pos) s =
      let x := tgetD s.pipe.live.sp p {}
      let t := zeroFrom x.srcBase x.ch pos (modSp p (fun q => { q with state := 5, unmute := false, rate := 0, loss := inc16 q.loss }) s)
      ends (raise 0x0801 p { t with pipe := { t.pipe with outSp := dropOut (32 * p) 32 t.pipe.outSp } }) := by
  have hgo : ¬ (!((spSt s p).state == 3 || (spSt s p).state == 4 || (spSt s p).unmute)) = true := by
    rcases h with h | h | h <;> simp [h]
  refine congrArg ends ((if_neg hgo).trans ?_)
  simp only [hin, if_true]

/-- A receiver without lock: muted, the loss or the slip counted, and from position `pos` on no edge of it counts (09 R338, 11 R435). -/
def lockGone (p : Nat) (lost : Bool) (pos : Nat) (s : State) : State :=
  let t := modAe p (fun x => { x with
    state := 4, unmute := false, lock := false, rate := if lost then 0 else x.rate
    slips := if lost then x.slips else inc16 x.slips, losses := if lost then inc16 x.losses else x.losses }) s
  if p < 4 then edgesStop (4 + p) pos t else t

@[simp] theorem edgesStop_pipe (c came : Nat) (s : State) : (edgesStop c came s).pipe = s.pipe := by
  unfold edgesStop
  split <;> rfl

@[simp] theorem lockGone_pipe (p : Nat) (lost : Bool) (pos : Nat) (s : State) : (lockGone p lost pos s).pipe = s.pipe := by
  unfold lockGone
  by_cases hp : p < 4
  · simp only [if_pos hp, edgesStop_pipe, modAe_pipe]
  · simp only [if_neg hp, modAe_pipe]

/-- A receiver that is live, about to unmute or locked loses its lock: its two slots read zero from position `pos` on. -/
theorem exec_aeLockLoss {lost : Bool} {pos : Nat} (h : aeLive s p = true ∨ (aeSt s p).unmute = true ∨ (aeSt s p).lock = true) :
    exec (.aeLockLoss p lost pos) s =
      ends (raise 0x0802 p (zeroFrom (tgetD s.pipe.live.ae p {}).srcBase 2 pos (lockGone p lost pos s))) := by
  have hgo : ¬ (!(aeLive s p || (aeSt s p).unmute || (aeSt s p).lock)) = true := by
    rcases h with h | h | h <;> simp [h]
  rw [← lockGone_pipe p lost pos s]
  exact congrArg ends (if_neg hgo)

/-- A converter's input locks anew at a rate that the ASRC takes: an AES3 receiver whose input is on. -/
theorem exec_asrcRelock_ae (ht : asrcTakes hz = true) (hb : bit (tgetD s.pipe.live.ae p {}).flags 2 = true)
    (hin : bit (tgetD s.pipe.live.ae p {}).flags 0 = true) :
    exec (.asrcRelock true p hz) s = ends (edgesBack (4 + p) (modAe p (fun x => { x with
      rate := hz, delay := asrcDelay s hz, lock := true, unmute := x.unmute || x.state == 1 || x.state == 4 }) s)) :=
  congrArg ends ((if_neg (by simp [ht])).trans ((if_pos rfl).trans (if_pos (by simp [hb, hin]))))

/-- The same of a serial port, within the limit of its bit clock. -/
theorem exec_asrcRelock_sp (ht : asrcTakes hz = true) :
    exec (.asrcRelock false p hz) s = ends (if (bit (tgetD s.pipe.live.sp p {}).flags 3 && bit (tgetD s.pipe.live.sp p {}).flags 0
        && spMayLock (tgetD s.pipe.live.sp p {}) hz) = true
      then modSp p (fun y => { y with rate := hz, delay := asrcDelay s hz, unmute := y.unmute || y.state == 2 || y.state == 5 }) s else s) :=
  congrArg ends ((if_neg (by simp [ht])).trans (if_neg Bool.false_ne_true))

/-- A serial port does not lock while its bit clock would exceed the limit, whatever the ASRC takes. -/
theorem exec_asrcRelock_fast (h : 98304000 < (tgetD s.pipe.live.sp p {}).ch * (tgetD s.pipe.live.sp p {}).slot * hz) :
    exec (.asrcRelock false p hz) s = ends s := by
  rcases ht : asrcTakes hz with _ | _
  · exact congrArg ends (if_pos (by simp [ht]))
  · rw [exec_asrcRelock_sp ht, if_neg]
    rcases hb : bit (tgetD s.pipe.live.sp p {}).flags 3 with _ | _
    · simp
    · simp [spMayLock_of_fast hb h]

end

/-! ### What a live AES3 receiver takes in (09 R339) -/

section
variable {p pos : Nat} {validity : Bool} {s : State}

theorem exec_aeSubframe_good (hl : aeLive s p = true) :
    exec (.aeSubframe p 0 pos false validity) s = ends (modAe p (fun x => { x with
      valid := x.valid || validity, last0 := smp (blkOf (recD s (cal s)).src (tgetD s.pipe.live.ae p {}).srcBase) pos }) s) :=
  congrArg ends (if_neg (by simp [hl]))

/-- Without a converter the last good sample takes the place of a bad one in the tick being received. -/
theorem exec_aeSubframe_replaced (hl : aeLive s p = true) (hb : bit (tgetD s.pipe.live.ae p {}).flags 2 = false) (hp : pos < tickN s) :
    exec (.aeSubframe p 1 pos true validity) s =
      let slot := (tgetD s.pipe.live.ae p {}).srcBase + 1
      let good := goodBefore s p 1 slot pos
      ends (modAe p (fun x => { x with parity := inc16 x.parity, valid := x.valid || validity, last1 := good })
        (modRec (cal s) (fun r => { r with
          src := putBlk r.src slot (mkBlk r.cfg.n fun j => if j = pos then good else smp (blkOf r.src slot) j) }) s)) :=
  congrArg ends ((if_neg (by simp [hl])).trans (congrArg (modAe p _) (if_pos (by simp [hb, hp]))))

/-- Behind a converter a bad subframe is counted, and the tick being received stays as it is. -/
theorem exec_aeSubframe_counted (hl : aeLive s p = true) (hb : bit (tgetD s.pipe.live.ae p {}).flags 2 = true) :
    exec (.aeSubframe p 0 pos true validity) s = ends (modAe p (fun x => { x with
      parity := inc16 x.parity, valid := x.valid || validity,
      last0 := goodBefore s p 0 (tgetD s.pipe.live.ae p {}).srcBase pos }) s) :=
  congrArg ends ((if_neg (by simp [hl])).trans (congrArg (modAe p _) (if_neg (by simp [hb]))))

/-- A block of the consumer format sets its flag; a professional one counts where its CRCC holds, else its error does. -/
theorem exec_aeChannelStatusBlock {block : List Byte} (hl : aeLive s p = true) :
    exec (.aeChannelStatusBlock p block) s =
      let b := fit 24 block
      ends (if byteAt b 0 % 2 = 0 then modAe p (fun x => { x with cons := true }) s
        else if crcc (b.take 23) = byteAt b 23 then modAe p (fun x => { x with cons := false, block := b }) s
        else modAe p (fun x => { x with crcc := inc16 x.crcc, crccEv := true }) s) :=
  congrArg ends (if_neg (by simp [hl]))

end

/-- Settles O55: every clause assumes its event's guard; what depends on a converter, a rate or an error goes by its lemma. -/
theorem audioPortEvents : Obligations.AudioPortEvents := by
  unfold Obligations.AudioPortEvents
  refine ⟨fun p phase hz s hs hb => ?spLock, fun p pos s h hin => exec_spClockLoss h hin, fun p pos n s hl hn => ?underrun, fun p s hl => ?overrun,
    fun p lost pos s h => exec_aeLockLoss h, fun p phase hz s hs hb => ?aeRelock, fun p pos validity s hl => exec_aeSubframe_good hl,
    fun p block s hl hc => ?consumer, fun p block s hl hc hk => ?professional, fun p block s hl hc hk => ?crccError,
    fun p hz s hlo hhi hb hin => exec_asrcRelock_ae (asrcTakes_iff.2 ⟨hlo, hhi⟩) hb hin, fun p hz s hlo hhi hb hin hk => ?asrcSerial,
    fun p hz s h => exec_asrcRelock_fast h, fun p pos validity s hl hb hp => exec_aeSubframe_replaced hl hb hp,
    fun p pos validity s hl hb => exec_aeSubframe_counted hl hb, fun p phase hz s hs hb hlo hhi hk => ?spLockAsrc,
    fun p phase hz s hb h => ?spRefused, fun p phase hz s hs hb hlo hhi => ?aeRelockAsrc,
    fun p phase hz s hb h => exec_aeRelock_refused hb (not_asrcTakes_iff.2 h)⟩
  case spLock =>
    rw [exec_spLock hs (spMayLock_of_no_asrc hb)]
    simp only [hb, Bool.false_eq_true, if_false]
  case spLockAsrc =>
    rw [exec_spLock hs ((spMayLock_iff_of_asrc hb).2 ⟨asrcTakes_iff.2 ⟨hlo, hhi⟩, hk⟩)]
    simp only [hb, if_true, asrcDelay]
  case spRefused =>
    refine exec_spLock_refused ?_
    rw [← Bool.not_eq_true, spMayLock_iff_of_asrc hb, asrcTakes_iff]
    omega
  case aeRelock =>
    rw [exec_aeRelock hs (.inl hb)]
    simp only [hb, Bool.false_eq_true, if_false]
  case aeRelockAsrc =>
    rw [exec_aeRelock hs (.inr (asrcTakes_iff.2 ⟨hlo, hhi⟩))]
    simp only [hb, if_true, asrcDelay]
  case underrun => exact congrArg ends (if_pos (by simp [hl, hn]))
  case overrun => exact congrArg ends (if_pos hl)
  case consumer => exact (exec_aeChannelStatusBlock hl).trans (congrArg ends (if_pos hc))
  case professional => exact (exec_aeChannelStatusBlock hl).trans (congrArg ends ((if_neg (by omega)).trans (if_pos hk)))
  case crccError => exact (exec_aeChannelStatusBlock hl).trans (congrArg ends ((if_neg (by omega)).trans (if_neg hk)))
  case asrcSerial =>
    have hm := (spMayLock_iff_of_asrc hb).2 ⟨asrcTakes_iff.2 ⟨hlo, hhi⟩, hk⟩
    exact (exec_asrcRelock_sp (asrcTakes_iff.2 ⟨hlo, hhi⟩)).trans (congrArg ends (if_pos (by simp [hb, hin, hm])))

end Sys2Proof.Proofs

namespace Sys2Proof.Proofs

open Sys2Proof.Machine Sys2Proof.Safety Sys2Proof.Laws

/-! ## The ramp of a modulation index (09 R344, R350) -/

theorem freshInts_length (w n : Nat) (s : State) : (freshInts w n s).1.length = n := by
  induction n generalizing s with
  | zero => rfl
  | succ n ih => exact congrArg Nat.succ (ih _)

/-- A value limited to a symmetric range is no larger than its bound. -/
theorem natAbs_clampI_le (m : Nat) (v : Int) : (clampI (-m) m v).natAbs ≤ m := by
  unfold clampI
  split
  · omega
  · split <;> omega

/-- A muting channel sends an index for every sample position, none beyond 0.95. -/
theorem sendIndex_muting (n : Nat) (taken : List Int) (s : State) :
    (sendIndex 4 n taken s).1.length = n ∧ ∀ v ∈ (sendIndex 4 n taken s).1, v.natAbs ≤ 19 * 2 ^ 23 := by
  have hx : (sendIndex 4 n taken s).1 = (freshInts 29 n s).1.map (clampI (-indexMax) indexMax) := rfl
  rw [hx]
  refine ⟨by rw [List.length_map, freshInts_length], fun v hv => ?_⟩
  obtain ⟨u, -, rfl⟩ := List.mem_map.1 hv
  exact natAbs_clampI_le (19 * 2 ^ 23) u

/-- Reading the drive channel just changed. -/
@[simp] theorem drvCh_modDrv (c : Nat) (f : DrvCh → DrvCh) (s : State) : drvCh (modDrv c f s) c = f (drvCh s c) :=
  tgetD_tmod s.ports.drv.ch c {} f

/-- A channel whose ramp begins mutes, and sends the indices of its ramp and their duties. -/
theorem drvCh_beginRamp (c : Nat) (s : State) :
    drvCh (beginRamp c s) c =
      { drvCh (sendIndex 4 (tickN s) [] s).2 c with
        run := 4, index := (sendIndex 4 (tickN s) [] s).1, pwm := (sendIndex 4 (tickN s) [] s).1.map dutyOf } :=
  drvCh_modDrv c _ _

/-! ## The events of the Drive Modulator (09 R345-R351) -/

/-- The modulator with its clock back (09 R350). -/
def clockBack (s : State) : State := modModulator (fun d => { d with clkErr := false, fallback := false }) s

/-- Every enabled channel not in DC trip soft-starts (09 R350). -/
def softStart (s : State) : State :=
  modModulator (fun d => ((List.range 32).filter (drvOn s)).foldl (fun d c =>
    if (tgetD d.ch c {}).trip then d else { d with ch := tmod d.ch c {} fun x => { x with run := 2 } }) d) s

/-- On the return of its clock the modulator soft-starts, unless Run-Shadow, the latch of the fault pin or a Plane reset holds its gates off
(09 R350, R353, R369). -/
theorem exec_drvClockRestore {s : State} (hc : s.ports.drv.clkErr = true) :
    exec .drvClockRestore s = ends (if s.mode.mode = 7 ∨ s.ports.drv.fault = true ∨ s.pipe.running = false then clockBack s
      else softStart (clockBack s)) :=
  congrArg ends (if_pos hc)

/-- Where the modulator is present, a driver fault is latched while DRV_FAULT_N shows it; else the pin's level is noted only (09 R351). -/
theorem exec_drvFault {high : Bool} {s : State} (hd : hasDrv s = true) :
    exec (.drvFault high) s = ends (if s.ports.drv.faultN = false then modModulator (fun d => { d with faultN := high }) s
      else raise 0x0903 0 (modModulator (fun d => { gatesOff d with fault := true, faultN := high }) s)) := by
  refine congrArg ends ((if_neg (by simp [hd])).trans ?_)
  simp only [Bool.not_eq_true']

theorem exec_drvFreqChange (s : State) : exec .drvFreqChange s = ends (takeFreq s) := rfl

/-- Settles O56: every clause assumes its event's guard; the return of the clock and the fault pin go by their lemmas, and a ramp's indices
by that of a muting channel. -/
theorem driveModulatorEvents : Obligations.DriveModulatorEvents := by
  unfold Obligations.DriveModulatorEvents
  refine ⟨fun c s ho ht hd => ?trip, fun s hd hc => ?clockLost, fun s hc => ?rampDown, fun s hc hm => ?restoreOff, fun s hc hm hf hr => ?restore,
    fun high s hd hf => ?faultHigh, fun high s hd hf => ?faultLow, fun c s ho hb hr hl => ?feedback, fun v s hv => ?freq, fun s hv => ?freqNone,
    fun c s => ?ramp⟩
  case trip => exact congrArg ends (if_pos (by simp [ho, ht, hd]))
  case clockLost => exact congrArg ends (if_pos (by simp [hd, hc]))
  case rampDown => exact congrArg ends (if_pos hc)
  case restoreOff => exact (exec_drvClockRestore hc).trans (congrArg ends (if_pos hm))
  case restore => exact (exec_drvClockRestore hc).trans (congrArg ends (if_neg (by simp [hm, hf, hr])))
  case faultHigh => rw [exec_drvFault hd, if_pos hf]
  case faultLow => rw [exec_drvFault hd, if_neg (by simp [hf])]
  case feedback => exact congrArg ends (if_pos (by simp [ho, hb, hr, hl]))
  case freq | freqNone => rw [exec_drvFreqChange, takeFreq, hv]
  case ramp =>
    obtain ⟨hlen, hmax⟩ := sendIndex_muting (tickN s) [] s
    dsimp only
    rw [drvCh_beginRamp]
    exact ⟨rfl, hlen, hmax, rfl⟩

end Sys2Proof.Proofs

namespace Sys2Proof.Proofs

open Sys2Proof.Machine Sys2Proof.Safety Sys2Proof.Laws

/-! ## The events of the service-line plug (09 R357-R360, 17 R658, R659)

Each event of the plug settles `if guard then effect else s`; classification, the end of a press, the report of a sequence and the end of a
tone have several outcomes, and a lemma of their own. -/

section
variable {s : State}

/-- A plug not classified yet is classified by the level at its microphone contact, and the menus of Settings-Limp and Recovery begin. -/
theorem exec_slpClassify {mv : Nat} (hd : detects s.mode.mode = true) (hp : s.ports.slp.plug = true) (hk : s.ports.slp.kind = 0) :
    exec (.slpClassify mv) s =
      let k := if mv < 150 then 1 else if mv ≤ 1650 then 2 else 3
      let t := slpEvent 1 k (modSlp (fun p => { p with kind := k }) s)
      ends (if (limping s && k == 2) = true then playAll limpTones t
        else if s.mode.mode = 3 then playAll (choiceTones 4) (modSlp (fun p => { p with choice := 4 }) t) else t) :=
  congrArg ends (if_neg (by simp [hd, hp, hk]))

/-- The end of a press that was not long: one that passed 500 ms is reported by itself, a shorter one counts in its sequence. -/
theorem exec_slpPressRelease (hp : s.ports.slp.press = true) (hl : s.ports.slp.long = false) :
    exec .slpPressRelease s =
      let up := modSlp (fun p => { p with press := false, long := false, held := false }) s
      ends (if s.ports.slp.held = true then slpEvent 6 0 up else modSlp (fun p => { p with shorts := p.shorts + 1 }) up) :=
  congrArg ends ((if_neg (by simp [hp])).trans (if_neg (by simp [hl])))

theorem exec_slpSequenceReport (hp : s.ports.slp.press = false) : exec .slpSequenceReport s = ends (reportPresses s) :=
  congrArg ends (if_neg (by simp [hp]))

/-- Outside Recovery a single press is reported and advances no choice. -/
theorem reportPresses_single (hn : s.ports.slp.shorts = 1) (hm : s.mode.mode ≠ 3) :
    reportPresses s = slpEvent 3 0 (modSlp (fun p => { p with shorts := 0 }) s) :=
  (if_neg (by omega)).trans ((if_pos hn).trans (if_neg hm))

theorem reportPresses_double (hn : s.ports.slp.shorts = 2) : reportPresses s = slpEvent 4 0 (modSlp (fun p => { p with shorts := 0 }) s) :=
  (if_neg (by omega)).trans ((if_neg (by omega)).trans (if_pos hn))

theorem reportPresses_multiple (hn : 3 ≤ s.ports.slp.shorts) :
    reportPresses s = slpEvent 7 (min 15 s.ports.slp.shorts) (modSlp (fun p => { p with shorts := 0 }) s) :=
  (if_neg (by omega)).trans ((if_neg (by omega)).trans (if_neg (by omega)))

/-- At the end of a tone the next that waits begins; the last is followed by what it announced. -/
theorem exec_slpToneEnd (ht : s.ports.slp.tone.isSome = true) :
    exec .slpToneEnd s = ends (if s.ports.slp.tones.isEmpty = true then afterTone (modSlp (fun p => { p with tone := none }) s)
      else nextTone s) :=
  congrArg ends (if_neg (by simpa using Option.isSome_iff_ne_none.1 ht))

end

/-- Settles O57: every clause assumes its event's guard; events with several outcomes go by their lemmas. -/
theorem plugEvents : Obligations.PlugEvents := by
  unfold Obligations.PlugEvents
  refine ⟨fun s hd hp => ?insertion, fun mv s hd hp hk hm hl => ?classified, fun mv s hlo hhi hl hd hp hk => ?announced, fun s hd hp => ?removal,
    fun s hd hk hp => ?press, fun s hp hh => ?held, fun s hp hl => ?long, fun s hp hl hh => ?short, fun s hp hl hh => ?heldEnds,
    fun s hp => exec_slpSequenceReport hp, fun s hp hn hm => ?single, fun s hp hn => ?double, fun s hp hn => ?multiple,
    fun s ht hn => ?nextTone, fun s ht hn => ?lastTone, fun s hl hk => ?limp⟩
  case insertion => exact congrArg ends (if_pos (by simp [hd, hp]))
  case classified =>
    exact (exec_slpClassify hd hp hk).trans (congrArg ends ((if_neg (by simp [hl])).trans (if_neg hm)))
  case announced =>
    have hkind : (if mv < 150 then 1 else if mv ≤ 1650 then 2 else 3) = 2 := (if_neg (by omega)).trans (if_pos hhi)
    rw [exec_slpClassify hd hp hk, hkind]
    exact congrArg ends (if_pos (by simp [hl]))
  case removal => exact congrArg ends (if_pos (by simp [hd, hp]))
  case press => exact congrArg ends (if_pos (by simp [hd, hk, hp]))
  case held => exact congrArg ends (if_pos (by simp [hp, hh]))
  case long => exact congrArg ends (if_pos (by simp [hp, hl]))
  case short =>
    refine (exec_slpPressRelease hp hl).trans (congrArg ends ((if_neg (by simp [hh])).trans ?_))
    simp only [modSlp, hl, hh]
  case heldEnds => exact (exec_slpPressRelease hp hl).trans (congrArg ends (if_pos hh))
  case single => rw [exec_slpSequenceReport hp, reportPresses_single hn hm]
  case double => rw [exec_slpSequenceReport hp, reportPresses_double hn]
  case multiple => rw [exec_slpSequenceReport hp, reportPresses_multiple hn]
  case nextTone => rw [exec_slpToneEnd ht, if_neg (by simpa using hn)]
  case lastTone => rw [exec_slpToneEnd ht, if_pos (by simp [hn])]
  case limp => exact congrArg ends (if_pos (by simp [hl, hk]))

end Sys2Proof.Proofs

namespace Sys2Proof.Proofs

open Sys2Proof.Machine Sys2Proof.Safety Sys2Proof.Laws

/-! ## The link, flow and service-network commands (10 R417-R426) -/

/-- Settles O31: the settings of ports, flows and AoIP channels have no effect before their binding, an outbound flow with the ports chosen
for it; every other plan gives a payload and an effect. -/
theorem linkOperations : Obligations.LinkOperations := by
  unfold Obligations.LinkOperations
  exact ⟨fun r s h => execOp_answered h rfl rfl, fun r s h => execOp_stagedOnly h rfl rfl, fun r s h => execOp_answered h rfl rfl,
    fun r s h => execOp_stagedAs h rfl rfl, fun r s h => execOp_stagedOnly h rfl rfl, fun r s h => execOp_stagedOnly h rfl rfl,
    fun r s h => execOp_stagedOnly h rfl rfl, fun r s h => execOp_answered h rfl rfl, fun r s h => execOp_answered h rfl rfl,
    fun r s h => execOp_answered h rfl rfl, fun r s h => execOp_answered h rfl rfl, fun r s h => execOp_answered h rfl rfl,
    fun r s h => execOp_answered h rfl rfl, fun r s h => execOp_stagedOnly h rfl rfl, fun r s h => execOp_stagedOnly h rfl rfl,
    fun r s h => execOp_answered h rfl rfl, fun r s h => execOp_answered h rfl rfl, fun r s h => execOp_answered h rfl rfl,
    fun r s h => execOp_answered h rfl rfl, fun r s h => execOp_answered h rfl rfl, fun r s h => execOp_answered h rfl rfl,
    fun r s h => execOp_answered h rfl rfl, fun r s h => execOp_answered h rfl rfl⟩

end Sys2Proof.Proofs

namespace Sys2Proof.Proofs

open Sys2Proof.Machine Sys2Proof.Safety Sys2Proof.Laws

/-! ## How a frame is forwarded (10 R378, R395, R402) -/

section
variable {p q n g : Nat} {f : List Byte} {good : Bool} {s : State}

/-- A frame on a port that is up, with no use for this node: counted and forwarded. -/
theorem exec_frameForward {c : Nat} (hu : linkUp s p = true) :
    exec (.frameForward p f c) s = ends (forward p f (fcsGood f c) (countFrame p (fcsGood f c) s)) :=
  congrArg ends ((if_neg (by simp [hu])).trans (ite_self _))

/-- A node that a unicast frame leaves for has its entry in the directory. -/
theorem thas_of_mem_routeTo (h : q ∈ routeTo s n) : thas s.links.dir n = true := by
  unfold routeTo at h
  unfold thas
  cases hd : tget s.links.dir n with
  | none => simp [hd] at h
  | some d => rfl

/-- The copy of a Sogus frame of a listed TYPE has HOP one higher; a bad one is cut short, and counted. -/
theorem sendCopy_of_known (hu : linkUp s q = true) (hs : isSogus s f = true) (hk : knownType f = true) :
    sendCopy f good q s =
      modLink q (fun l => { l with cutShort := if good then l.cutShort else inc16 l.cutShort })
        (egress q { kind := .sogus, a := frameType f, b := q, c := b2n (!good),
                    bytes := withFcs good (f.take 20 ++ toBE 2 (be f 20 2 + 1) ++ f.drop 22) } s) := by
  unfold sendCopy
  simp only [hu, Bool.not_true, Bool.false_eq_true, if_false, copyType, hs, hk, Bool.and_self, if_true]

section
variable (ho : ownFrame s f = false) (he : hopEnd s f = false) (hs : isSogus s f = true) (hk : knownType f = true)
include ho he hs hk

/-- A frame to another node leaves by the one port of its route that takes it. -/
theorem forward_unicast (hd : destNode f = some n) (hn : n ≠ s.links.node) (hr : (routeTo s n).filter (unicastOut s p) = [q]) :
    forward p f good s = sendCopy f good q s := by
  have hq : q ∈ (routeTo s n).filter (unicastOut s p) := hr ▸ List.mem_singleton_self q
  have hdir := thas_of_mem_routeTo (List.mem_filter.1 hq).1
  rw [forward_on ho he hs hk, hd]
  simp only [hn, and_false, hdir, hr, Bool.not_true, Bool.false_eq_true, if_false, List.foldl_cons, List.foldl_nil]

/-- A frame to a node without an entry goes no further. -/
theorem forward_no_entry (hd : destNode f = some n) (hn : n ≠ s.links.node) (ht : thas s.links.dir n = false) :
    forward p f good s = modLink p (fun l => { l with noEntry := inc16 l.noEntry }) s := by
  rw [forward_on ho he hs hk, hd]
  simp only [hn, and_false, ht, Bool.not_false, if_false, if_true]

/-- A frame to a group leaves by each of its ports but the one it came from. -/
theorem forward_group (hd : destNode f = none) (hg : destGroup f = some g) :
    forward p f good s = ((groupPorts s g).filter (· != p)).foldl (fun t q => sendCopy f good q t) s := by
  rw [forward_on ho he hs hk, hd, hg]

end

/-! ## Audio and control for this node (10 R387-R390, 13 R547) -/

/-- The least margin of arrival, once a block has come with margin `m` (10 R420). -/
def leastMargin (o : Option Int) (m : Int) : Int := match o with | some o => min o m | none => m

/-- A block of the right form, neither early nor late nor held already, is held for its tick. -/
theorem takeBlock_held {stamp ns key : Nat} {b : RxBlock} {x : FlowIn} (hb : blockOk x (tickN s) b = true) (hc : stamp ≤ cal s + 1)
    (hm : 0 ≤ blockMargin s x stamp ns)
    (hd : ((tgetD s.links.flows key {}).blocks.any fun h => h.1 == stamp && h.2.1 == b.first) = false) :
    takeBlock stamp ns false b key x s =
      { s with links := { s.links with flows := tset s.links.flows key { tgetD s.links.flows key {} with
        arrMax := some (leastMargin (tgetD s.links.flows key {}).arrMax (blockMargin s x stamp ns))
        blocks := (tgetD s.links.flows key {}).blocks ++ [(stamp, b.first, blockChannels b)] } } } := by
  unfold takeBlock
  simp only [hb, hd, Nat.not_lt.2 hc, Int.not_lt.2 hm, Bool.not_true, Bool.false_eq_true, if_false]
  rfl

/-- An audio frame of one block for one entry. -/
theorem audioIn_of_one {ns key : Nat} {b : RxBlock} {x : FlowIn} (hr : s.pipe.running = true)
    (hb : rxBlocks (byteAt f 32) (framePayload f) = [b]) (hx : entriesFor s (frameSource f) b.flow = [(key, x)]) :
    audioIn f ns s = takeBlock (be f 22 6) ns (bit (byteAt f 19) 0) b key x s := by
  unfold audioIn
  simp only [hr, hb, hx, Bool.not_true, Bool.false_eq_true, if_false, List.foldl_cons, List.foldl_nil]

theorem exec_audioFrame {ns : Nat} (h : consumes p 1 f s = true) :
    exec (.audioFrame p f (fcsOf f) ns) s = ends (audioIn f ns (passed p f s)) :=
  congrArg ends (frameIn_consumed h _)

theorem exec_controlFrame (h : consumes p 2 f s = true) (hd : destNode f = some (passed p f s).links.node) :
    exec (.controlFrame p f (fcsOf f)) s = ends (controlIn f (passed p f s)) :=
  congrArg ends ((frameIn_consumed h _).trans (if_pos (by simp [hd])))

/-- A packet that reception admits comes while the Command Processor listens. -/
theorem cpListens_of_admits {src : Src} {ret : Nat × Nat} {d : List Byte} (h : admits src ret d s = true) : cpListens s = true := by
  cases hl : cpListens s with
  | true => rfl
  | false => simp [admits, hl] at h

/-- A request is received like one of any other transport, an answer goes to its relay. -/
theorem controlIn_request (hl : cpListens s = true) (hb : bit (byteAt (framePayload f) 1) 0 = false) :
    controlIn f s = rxRequest .link (frameSource f, 0) (framePayload f) s :=
  (if_neg (by simp [hl])).trans (if_neg (by simp [hb]))

theorem controlIn_answer (hl : cpListens s = true) (hb : bit (byteAt (framePayload f) 1) 0 = true) :
    controlIn f s = relayIn (frameSource f) (framePayload f) s :=
  (if_neg (by simp [hl])).trans (if_pos hb)

/-- The answer that a relay waits for completes it. -/
theorem relayIn_of_waiting {node : Nat} {d : List Byte} {w : Waiting}
    (h : (s.cp.relays.find? fun w => w.node == node && be w.req.params 6 2 == be d 2 2 && be w.req.params 8 2 == be d 4 2) = some w) :
    relayIn node d s =
      let t := { s with cp := { s.cp with relays := s.cp.relays.filter fun x => x.req.acc != w.req.acc } }
      if w.req.src = .link ∧ 1440 < d.length then finish w.req BAD_PARAM 0xFFFF 0 false false [] t else finish w.req OK 0 0 false false d t := by
  unfold relayIn
  rw [h]

/-! ## The directory (10 R399) -/

theorem sendCopy_node (f : List Byte) (good : Bool) (q : Nat) (s : State) : (sendCopy f good q s).links.node = s.links.node := by
  unfold sendCopy
  split <;> rfl

/-- The node once it has flooded an Announce that it had not seen, and remembers it. -/
def flooded (p : Nat) (f : List Byte) (s : State) : State :=
  ((upPorts s).filter (· != p)).foldl (fun t q => sendCopy f true q t)
    { s with links := { s.links with
      seen := tset s.links.seen (frameSource f) ((be f 30 2 :: tgetD s.links.seen (frameSource f) []).take 16) } }

theorem flooded_node (p : Nat) (f : List Byte) (s : State) : (flooded p f s).links.node = s.links.node := by
  unfold flooded
  refine List.foldlRecOn (motive := fun t => t.links.node = s.links.node) _ _ ?_ fun t ht q _ => (sendCopy_node f true q t).trans ht
  rfl

theorem announceIn_first (ho : ownFrame s f = false) (he : hopEnd s f = false)
    (h : (tgetD s.links.seen (frameSource f) []).contains (be f 30 2) = false) :
    announceIn p f true s = recordAnn p f (flooded p f s) := by
  unfold announceIn flooded
  simp only [ho, he, h, Bool.false_eq_true, if_false, if_true]

/-- A directory with room takes the arrival port with its hops, and an entry that is not pinned takes its routes from them. -/
theorem recordAnn_learnt (hn : s.links.node ≠ 0) (hv : isNode (frameSource f) = true) (hl : s.links.dir.length < 4096)
    (hp : (tgetD s.links.dir (frameSource f) {}).pinned = false) :
    recordAnn p f s =
      let old := tgetD s.links.dir (frameSource f) {}
      let e := { old with learnt := true, die := be (framePayload f) 0 8, ports := tset old.ports p (frameHop f + 1) }
      { s with links := { s.links with dir := tset s.links.dir (frameSource f) (dirRoutes e) } } := by
  unfold recordAnn
  simp only [hn, hv, hp, Nat.not_le.2 hl, Bool.not_true, Bool.false_eq_true, or_self, decide_false, Bool.and_false, if_false]

theorem exec_announceFrame (ht : isType s f 4 = true) (hu : linkUp s p = true) :
    exec (.announceFrame p f (fcsOf f)) s = ends (announceIn p f true (countFrame p true s)) := by
  change execAnnounceFrame p f (fcsOf f) s = _
  unfold execAnnounceFrame
  rw [fcsGood_fcsOf]
  exact congrArg ends ((if_neg (by simp [ht])).trans (if_pos hu))

theorem exec_directoryEntryExpiry {node : Nat} {e : DirEnt} (h : tget s.links.dir node = some e) :
    exec (.directoryEntryExpiry node) s = ends { s with links := { s.links with
      dir := if e.pinned then tset s.links.dir node { e with learnt := false, ports := [] } else tdel s.links.dir node } } := by
  change execDirectoryEntryExpiry node s = _
  unfold execDirectoryEntryExpiry
  rw [h]
  rfl

/-! ## Rings (10 R401-R404) -/

section
variable {i : Nat} (hr : ringSide s p = some (i, q))
include hr

/-- A whole fault or restore message of another node goes on round the ring, and the ring obeys it. -/
theorem ringIn_obeyed (prot : Bool) (ht : isType s f 5 = true) (hu : linkUp s p = true) (hn : s.links.node ≠ 0) (ho : ownFrame s f = false)
    (he : hopEnd s f = false) : ringIn prot p f true s = setRingProt i prot (sendCopy f true q (countFrame p true s)) := by
  have ho' : ownFrame (countFrame p true s) f = false := ho
  have he' : hopEnd (countFrame p true s) f = false := he
  have hr' : ringSide (countFrame p true s) p = some (i, q) := hr
  have hn' : (sendCopy f true q (countFrame p true s)).links.node ≠ 0 := fun h => hn ((sendCopy_node f true q (countFrame p true s)).symm.trans h)
  unfold ringIn
  simp only [ht, hu, ho', he', hr', Bool.not_true, Bool.false_eq_true, if_false]
  exact if_pos (by simp [hn'])

theorem segmentLoss_of_alive (hl : (linkSt s p).lost = false) :
    segmentLoss p s = setRingProt i true (sendRing 2 q (modLink p (fun l => { l with lost := true }) s)) := by
  unfold segmentLoss
  rw [hr]
  exact if_neg (by simp [hl])

theorem exec_wtrExpiry (hl : (linkSt s p).lost = true) (hu : linkUp s p = true) :
    exec (.wtrExpiry p) s =
      ends (setRingProt i false (sendRing 3 q (sendRing 3 p (modLink p (fun l => { l with lost := false }) s)))) := by
  change execWtrExpiry p s = _
  unfold execWtrExpiry
  rw [hr]
  exact congrArg ends (if_pos (by simp [hl, hu]))

end

end

/-- Settles O50: a forwarded or consumed frame goes by the lemma of its address or TYPE; every timer and port event assumes its guard. -/
theorem linkFrameEvents : Obligations.LinkFrameEvents := by
  unfold Obligations.LinkFrameEvents
  refine ⟨fun p f c s hu => exec_frameForward hu, fun p f c n q good s hu hg hs hk ho he hd hn hr hq => ?unicast,
    fun p f c n good s hu hg hs hk ho he hd hn ht => ?noEntry, fun p f c g s hu hs hk ho he hd hg => ?group,
    fun p f c good s hu hg ho he => ?hopLimit, fun p f ns s h => exec_audioFrame h, fun p f ns b key x s => ?audio,
    fun p f s => ?request, fun p f w s => ?answer, fun p f s => ?announce, fun s hn => rfl,
    fun node e s h => exec_directoryEntryExpiry h, fun p f c s ht hu => ?hello, fun p f i q s hu ht hn ho he hr => ?ring,
    fun p s hr hu => ?helloTimer, fun p i q s hr hl => ?loss, fun p i q s hr hl hu => exec_wtrExpiry hr hl hu,
    fun p s hm hl => ?trained, fun p s h => ?down, fun p s hu hc => ?trip, fun p s hl => ?recovery⟩
  case unicast =>
    subst hg
    rw [exec_frameForward hu, forward_unicast (s := countFrame p _ s) ho he hs hk hd hn hr,
      sendCopy_of_known (s := countFrame p _ s) (by simp [hq]) hs hk]
  case noEntry =>
    subst hg
    rw [exec_frameForward hu, forward_no_entry (s := countFrame p _ s) ho he hs hk hd hn ht]
  case group =>
    rw [exec_frameForward hu, forward_group (s := countFrame p _ s) ho he hs hk hd hg]
    rfl
  case hopLimit =>
    subst hg
    rw [exec_frameForward hu, forward_hopEnd (s := countFrame p _ s) ho he]
  case audio =>
    intro u m h hr hb hx hs hk hc hm hd
    rw [exec_audioFrame h, audioIn_of_one hr hb hx, hs, takeBlock_held hk hc hm hd]
    rfl
  case request =>
    intro u d h hd hb ha
    rw [exec_controlFrame h hd, controlIn_request (cpListens_of_admits ha) hb, rxRequest_admitted ha]
  case answer =>
    intro u d h hd hb hl hw
    rw [exec_controlFrame h hd, controlIn_answer hl hb, relayIn_of_waiting hw]
  case announce =>
    intro v u old t e ht hu ho he hc hn hv hl hp
    have hf : t = flooded p f u := rfl
    clear_value t
    subst hf
    have hnode : (flooded p f u).links.node ≠ 0 := fun h => hn ((flooded_node p f u).symm.trans h)
    rw [exec_announceFrame ht hu, announceIn_first (s := u) ho he hc, recordAnn_learnt hnode hv hl hp]
  case hello => exact congrArg ends ((if_neg (by simp [ht])).trans (if_pos hu))
  case ring =>
    constructor
    · change ends (ringIn true p f (fcsGood f (fcsOf f)) s) = _
      rw [fcsGood_fcsOf, ringIn_obeyed hr true ht hu hn ho he]
    · change ends (ringIn false p f (fcsGood f (fcsOf f)) s) = _
      rw [fcsGood_fcsOf, ringIn_obeyed hr false ht hu hn ho he]
  case helloTimer => exact congrArg ends (if_pos (by simp [hr, hu]))
  case loss => exact congrArg ends (segmentLoss_of_alive hr hl)
  case trained => exact congrArg ends (if_pos (by simp [hm, hl]))
  case down => exact congrArg ends (if_pos (by simpa using h))
  case trip => exact congrArg ends (if_pos (by simp [hu, hc]))
  case recovery => exact congrArg ends (if_pos (by simp [hl]))

end Sys2Proof.Proofs

namespace Sys2Proof.Proofs

open Sys2Proof.Machine Sys2Proof.Safety Sys2Proof.Laws

/-! ## Frames and timers of the service network (10 R407-R416) -/

section
variable {p i dest target mac ip : Nat} {m rtp : List Byte} {x : Aoip} {s : State}

/-- Where a receiver has had no packet yet, or the one it expects next, the packet is not old and none is lost before it (10 R410). -/
theorem lost_of_in_order {a : AoSt} {seq : Nat} (h : a.got = false ∨ seq = a.seq) :
    (a.got && decide (32768 ≤ (seq + 65536 - a.seq) % 65536)) = false
      ∧ (if a.got then add16 ((seq + 65536 - a.seq) % 65536) a.lost else a.lost) = if a.got then add16 0 a.lost else a.lost := by
  rcases h with h | rfl
  · simp [h]
  · simp

/-- A packet in order that comes in time puts its samples at their place (10 R410). -/
theorem aoPacket_in_order (h : (tgetD s.links.aoRx i {}).got = false ∨ be rtp 2 2 = (tgetD s.links.aoRx i {}).seq)
    (ht : (cal s * tickN s : Int) ≤ mediaPos s x (mediaNear s (be rtp 4 4))) :
    aoPacket i x rtp s =
      let a := tgetD s.links.aoRx i {}
      let body := rtp.drop (12 + 4 * (byteAt rtp 0 % 16))
      let w := if bit x.flags 1 then 3 else 2
      { s with links := { s.links with aoRx := tset s.links.aoRx i { a with
        count := inc32 a.count, got := true, lost := if a.got then add16 0 a.lost else a.lost, seq := (be rtp 2 2 + 1) % 65536
        buf := tputs a.buf (mediaPos s x (mediaNear s (be rtp 4 4))).toNat ((List.range (body.length / (w * x.ch))).map fun j =>
          (List.range x.ch).map fun c => aoSample (w == 3) body (j * x.ch + c)) } } } := by
  obtain ⟨hold, hlost⟩ := lost_of_in_order h
  unfold aoPacket
  simp only [hold, Bool.not_false, Bool.and_true, Bool.false_eq_true, if_false, hlost, if_neg (Int.not_lt.2 ht)]

/-- The packets of a running node go to the receivers that they match (10 R426). -/
theorem exec_aoipPacket {source udp : Nat} (hu : linkUp s p = true) (hr : s.pipe.running = true) (hl : 12 ≤ rtp.length) :
    exec (.aoipPacket p dest source udp rtp) s =
      ends ((s.pipe.live.aoRx.filter fun x => aoMatch p dest source udp rtp x.2).foldl (fun t x => aoPacket x.1 x.2 rtp t) (countFrame p true s)) :=
  congrArg ends ((if_neg (by simp [hu])).trans (if_pos (by simp [hr, hl])))

/-- The answer to an ARP request that `mac` and `ip` send to a port with MAC address `m` and IP address `a` (10 R407, R412). -/
def arpAnswer (p : Nat) (m : List Byte) (a mac ip : Nat) : Out :=
  { kind := .echo, a := p, b := ip, bytes := m ++ toBE 4 a ++ toBE 6 mac ++ toBE 4 ip }

/-- A request for a port's own address is answered out of that port; a link port counts the frame first, which gives `u`. -/
theorem exec_arpRequest {u : State} (hc : (if p < 4 && linkUp s p then countFrame p true s else s) = u)
    (ha : portAddr u p = some (m, target)) (ht : macTaken m p dest = true) :
    exec (.arpRequest p (dest, target) mac ip) s =
      ends (if p < 4 then egress p (arpAnswer p m target mac ip) u else if p = 4 then emitMg (arpAnswer p m target mac ip) u
        else alSend (p - 5) (arpAnswer p m target mac ip) (modAl (p - 5) (fun a => { a with recv := inc16 a.recv }) u)) := by
  change execArpRequest p (dest, target) mac ip s = _
  unfold execArpRequest
  dsimp only
  rw [hc, ha]
  exact congrArg ends (if_pos (by simp [ht]))

/-- An echo to MG's own address is answered where MG_CONFIG enables it (10 R412, R425). -/
theorem exec_icmpEcho {data : List Byte} (ha : portAddr s 4 = some (m, target)) (hb : bit s.links.mg.flags 1 = true)
    (ht : macTaken m 4 dest = true) :
    exec (.icmpEcho (dest, target) ip data) s = ends (emitMg { kind := .echo, a := 4, b := ip, c := 1, bytes := data } s) := by
  change execIcmpEcho (dest, target) ip data s = _
  unfold execIcmpEcho
  rw [ha]
  exact congrArg ends (if_pos (by simp [hb, ht]))

/-- A running MG that is not paused sends at once (10 R413). -/
theorem emitMg_of_not_paused {o : Out} (hr : mgRuns s = true) (hp : s.links.mg.paused = false) : emitMg o s = emit o s :=
  (if_neg (by simp [hr])).trans (if_neg (by simp [hp]))

/-- A pause frame that MG obeys: a pause time of zero ends the pause, any other begins or keeps it (10 R413). -/
theorem exec_mgPauseFrame {quanta : Nat} (hr : mgRuns s = true) (hu : udpOn s 0 = true) (hi : s.links.mg.ignore = false) :
    exec (.mgPauseFrame quanta) s = ends (if quanta = 0 then resumeMg s else modMg (fun m => { m with paused := true }) s) :=
  congrArg ends (if_neg (by simp [hr, hu, hi]))

end

/-- Settles O51: every clause assumes its event's guard; packets, ARP requests, echoes and pauses go by their lemmas. -/
theorem networkEvents : Obligations.NetworkEvents := by
  unfold Obligations.NetworkEvents
  refine ⟨fun p dest source udp rtp s hu hr hl => exec_aoipPacket hu hr hl, fun p dest source udp rtp i x s => ?inOrder,
    fun p dest target mac ip m s hp ha hu ht => ?arpLink, fun dest target mac ip m s ha ht => ?arpMg,
    fun p dest target mac ip m s hp ha ht => ?arpAl, fun dest target ip data m s ha hb ht => exec_icmpEcho ha hb ht,
    fun o s hr hp => emitMg_of_not_paused hr hp, fun quanta s hr hu hi hq => ?pauses, fun s hr hu hi => ?resumes,
    fun s hr hp => ?limit, fun s hr => ?pauseEnd, fun s => rfl, fun p f s hp hm hb hd hg => ?frame, fun p s hp h0 h1 hf hn => ?beacon,
    fun s hr => ?stopped⟩
  case inOrder =>
    intro a u pos body w hu hr hl hx ho ht
    rw [exec_aoipPacket hu hr hl, hx]
    exact congrArg ends (aoPacket_in_order (s := u) ho ht)
  case arpLink => exact (exec_arpRequest (if_pos (by simp [hp, hu])) ha ht).trans (congrArg ends (if_pos hp))
  case arpMg => exact exec_arpRequest (p := 4) (if_neg (by simp)) ha ht
  case arpAl =>
    have hl : ¬ p < 4 := by omega
    exact (exec_arpRequest (if_neg (by simp [hl])) ha ht).trans (congrArg ends ((if_neg hl).trans (if_neg (by omega))))
  case pauses => rw [exec_mgPauseFrame hr hu hi, if_neg hq]
  case resumes => exact exec_mgPauseFrame hr hu hi
  case limit => exact congrArg ends (if_pos (by simp [hr, hp]))
  case pauseEnd => exact congrArg ends (if_pos hr)
  case frame => exact congrArg ends (if_pos ⟨hp, hm, hb, hd, hg⟩)
  case beacon => exact congrArg ends (if_pos (by simp [plcaOn, hp, h0, h1, hf, hn]))
  case stopped => exact congrArg ends (if_neg (by simp [hr]))

end Sys2Proof.Proofs

namespace Sys2Proof.Proofs

open Sys2Proof.Machine Sys2Proof.Safety Sys2Proof.Laws

/-! ## Every command and every step settles (16 R612) -/

/-- Every command of the table settles the state that it leaves, and none stops or is refused. -/
theorem exec_eq_ends (c : Instr) (s : State) : ∃ u, exec c s = ends u := by
  cases c <;> exact ⟨_, rfl⟩

/-- The end of a command carries out what faults asked for. -/
theorem quiet_of_ends {s t : State} (h : ends s = .next t) : Quiet t := by
  obtain rfl : settle s = t := by simpa only [ends, Host.Outcome.next.injEq] using h
  exact settle_quiet s

/-- Settles O23: a command answers the settled state, and settling leaves nothing outstanding. -/
theorem everyCommandCompletes : Obligations.EveryCommandCompletes := by
  unfold Obligations.EveryCommandCompletes
  intro c s
  obtain ⟨u, h⟩ := exec_eq_ends c s
  exact ⟨settle u, h, settle_quiet u⟩

/-- What the block does of its own accord settles, but for idling, which changes nothing. -/
theorem idle_eq_ends_or_idles (s : State) : (∃ u, idle s = ends u) ∨ idle s = .next s := by
  unfold idle
  split
  case h_1 r _ =>
    split
    case h_1 i _ => exact .inl (exec_eq_ends i s)
    case h_2 => exact .inl ⟨_, rfl⟩
  case h_2 =>
    split
    case h_1 => exact .inl ⟨_, rfl⟩
    case h_2 =>
      split
      · exact .inl ⟨_, rfl⟩
      · split
        case h_1 => exact .inl ⟨_, rfl⟩
        case h_2 => exact .inr rfl

/-- Settles O22: a step is a command or an act of the block's own; either settles, or it idles and leaves the state as it was. -/
theorem quietIsKept : Obligations.QuietIsKept := by
  unfold Obligations.QuietIsKept
  intro s t hq hs
  unfold step at hs
  split at hs
  case h_1 c rest _ =>
    obtain ⟨u, hu⟩ := exec_eq_ends c { s with pending := rest }
    exact quiet_of_ends (hu.symm.trans hs)
  case h_2 =>
    rcases idle_eq_ends_or_idles s with ⟨u, hu⟩ | hi
    · exact quiet_of_ends (hu.symm.trans hs)
    · obtain rfl : s = t := by simpa only [Host.Outcome.next.injEq] using hi.symm.trans hs
      exact hq

/-- Settles O21: the reset state asks for nothing, its memory lists no byte and its queue is empty. -/
theorem resetIsQuiet : Obligations.ResetIsQuiet := by
  unfold Obligations.ResetIsQuiet
  exact ⟨⟨rfl, rfl⟩, reset_memory, rfl⟩

/-! ## What a step takes up (13 R527, R528) -/

/-- Settles O1: a step looks at the front of the queue first. -/
theorem stepTakesTheFrontCommand : Obligations.StepTakesTheFrontCommand := by
  unfold Obligations.StepTakesTheFrontCommand
  intro c rest s h
  unfold step
  rw [h]

/-- P3 has waited through 64 executions: its oldest request comes first. -/
theorem nextRequest_of_p3_waited {c : Cp} {r : Req} {l : List Req} (hw : 64 ≤ c.p3Wait) (h3 : c.p3 = r :: l) : nextRequest c = some r := by
  unfold nextRequest
  rw [if_pos ⟨hw, by simp [h3]⟩, h3, List.head?_cons]

/-- Otherwise the oldest request of all queues in their order comes first. -/
theorem nextRequest_of_p3_not_waited {c : Cp} (h : c.p3Wait < 64 ∨ c.p3 = []) :
    nextRequest c = (c.p0 ++ c.p1 ++ c.p2 ++ c.p3).head? := by
  unfold nextRequest
  rw [if_neg]
  rintro ⟨hw, h3⟩
  rcases h with h | h
  · omega
  · simp [h] at h3

/-- With no command waiting, a listening Command Processor executes its next request. -/
theorem step_of_nextRequest {s : State} {r : Req} {i : Instr} (hp : s.pending = []) (hl : cpListens s = true) (hr : nextRequest s.cp = some r)
    (hi : instrOf r = some i) : step s = exec i s := by
  unfold step idle
  simp only [hp, hl, hr, hi, if_true]

/-- Settles O2: in each case of the queues the next request is the one named, and what its execution does to the count of P3 is what
taking it from its queue does. -/
theorem queueOrder : Obligations.QueueOrder := by
  unfold Obligations.QueueOrder
  intro s r i hp hl hi hq
  refine ⟨step_of_nextRequest hp hl ?_ hi, by simp [dequeue, sameReq]⟩
  rcases hq with ⟨hw, l, h3⟩ | ⟨hw, hq⟩
  · exact nextRequest_of_p3_waited hw h3
  · rw [nextRequest_of_p3_not_waited hw]
    rcases hq with ⟨l, h0⟩ | ⟨h0, ⟨l, h1⟩ | ⟨h1, ⟨l, h2⟩ | ⟨h2, l, h3⟩⟩⟩
    · simp [h0]
    · simp [h0, h1]
    · simp [h0, h1, h2]
    · simp [h0, h1, h2, h3]

/-! ## Mirrored operations (13 R534, R535, 15 R586) -/

/-- A paired Active node in Run-Active copies a mirrored operation that its partner has not sent. -/
theorem wantsMirror_of_active {r : Req} {u : State} (hp : paired u = true) (hm : u.mode.mode = 6) (ha : u.pair.state = 1)
    (hs : r.src ≠ .pair) (ho : isMirrored r.opcode = true) : wantsMirror u r = true := by
  simp [wantsMirror, hp, hm, ha, hs, ho]

/-- Settles O5: the operation wants its copy sent, so it is carried out after `sendMirror`. -/
theorem mirroredCopyComesFirst : Obligations.MirroredCopyComesFirst := by
  unfold Obligations.MirroredCopyComesFirst
  intro x hx r s ho u hc ha _ hm hp h6 h1 hs hi
  have hw : wantsMirror u r = true := wantsMirror_of_active hp h6 h1 hs (ho ▸ hi)
  rw [exec_operation x hx, execOp_mirrored ho hc ha (.inr hm) hw]
  rfl

end Sys2Proof.Proofs

namespace Sys2Proof.Proofs

open Sys2Proof.Machine Sys2Proof.Safety Sys2Proof.Laws

/-! ## The Calendar's count of a time (11 R454) -/

theorem rateHz_pos (rate : Nat) : 0 < rateHz rate := by
  unfold rateHz
  split <;> decide

/-- The start of the k-th tick is the first whole ns at which k ticks of n samples have passed. -/
theorem tickNs_le_iff (rate n k t : Nat) : tickNs rate n k ≤ t ↔ k * (n * 10 ^ 9) ≤ t * rateHz rate := by
  have hr := rateHz_pos rate
  have he : k * n * 1000000000 = k * (n * 10 ^ 9) := Nat.mul_assoc k n _
  unfold tickNs
  rw [← Nat.lt_succ_iff, Nat.div_lt_iff_lt_mul hr, Nat.succ_mul, he]
  omega

/-- Settles O15: the tick running at `t` is the last that starts by then, and its number is a quotient. -/
theorem calendarCount : Obligations.CalendarCount := by
  unfold Obligations.CalendarCount
  intro rate n k t hn
  have hd : 0 < n * 10 ^ 9 := Nat.mul_pos hn (by decide)
  have hle : tickNs rate n k ≤ t ↔ k ≤ t * rateHz rate / (n * 10 ^ 9) :=
    (tickNs_le_iff rate n k t).trans (Nat.le_div_iff_mul_le hd).symm
  have hlt : t < tickNs rate n (k + 1) ↔ t * rateHz rate / (n * 10 ^ 9) < k + 1 := by
    rw [← Nat.not_le, tickNs_le_iff, Nat.not_le, Nat.div_lt_iff_lt_mul hd]
  rw [hle, hlt]
  omega

/-! ## The cycles of the local clock (11 R428, R429) -/

/-- At a steering within 500 ppm the increment of a cycle is rounded down from an amount that is not negative. -/
theorem dcoInc_eq {w : Int} (h : -500000000 ≤ w) : (dcoInc w : Int) = 4 * 2 ^ 48 * (10 ^ 12 + w) / 10 ^ 12 := by
  unfold dcoInc
  exact Int.toNat_of_nonneg (Int.ediv_nonneg (by omega) (by decide))

theorem dcoInc_floor {w : Int} (h : -500000000 ≤ w) :
    (dcoInc w : Int) * 10 ^ 12 ≤ 4 * 2 ^ 48 * (10 ^ 12 + w) ∧ 4 * 2 ^ 48 * (10 ^ 12 + w) < ((dcoInc w : Int) + 1) * 10 ^ 12 := by
  rw [dcoInc_eq h]
  exact ⟨Int.ediv_mul_le _ (by decide), Int.lt_ediv_add_one_mul_self _ (by decide)⟩

theorem dcoInc_pos {w : Int} (h : -500000000 ≤ w) : 0 < dcoInc w := by
  have hfloor := (dcoInc_floor h).2
  omega

/-- What the 32.32 increment leaves out is the residue of the next cycle. -/
theorem dcoStep_sum (inc res : Nat) : (dcoStep inc res).1 * 65536 + (dcoStep inc res).2 = inc + res := by
  unfold dcoStep
  omega

/-- Increment and residue together advance the clock by the increment of 48 fraction bits. -/
theorem dcoStep_carry (inc sub : Nat) :
    (sub / 65536 + (dcoStep inc (sub % 65536)).1) * 65536 + (dcoStep inc (sub % 65536)).2 = sub + inc := by
  rw [Nat.add_mul, Nat.add_assoc, dcoStep_sum]
  omega

theorem dcoCycle_sub (k : Clock) : (dcoCycle k).sub = k.sub + dcoInc k.w := dcoStep_carry (dcoInc k.w) k.sub

/-- The least number of increments that covers a distance: the distance is covered, by less than one increment too much unless none was
needed. -/
theorem least_steps {inc d n : Nat} (hi : 0 < inc) (hn : n = (d + inc - 1) / inc) :
    d ≤ n * inc ∧ (0 < n → 0 < d ∧ n * inc < d + inc) := by
  subst hn
  have hsum := Nat.div_add_mod (d + inc - 1) inc
  have hmod := Nat.mod_lt (d + inc - 1) hi
  rw [Nat.mul_comm] at hsum
  refine ⟨by omega, fun h => ?_⟩
  have := (Nat.div_pos_iff.1 h).2
  omega

/-- The clock reaches a time `t` in the least number of cycles that does, and what these go beyond `t` is held. -/
theorem clockTo_least {t : Nat} {k : Clock} (hi : 0 < dcoInc k.w) :
    (clockTo t k).sub + (t - k.now) * 2 ^ 48 = k.sub + ((clockTo t k).cycles - k.cycles) * dcoInc k.w
      ∧ (k.cycles < (clockTo t k).cycles → (clockTo t k).sub < dcoInc k.w) := by
  obtain ⟨hcover, hleast⟩ := least_steps (d := (t - k.now) * 2 ^ 48 - k.sub) hi rfl
  simp only [clockTo, Nat.add_sub_cancel_left]
  refine ⟨by omega, fun h => ?_⟩
  have := hleast (by omega)
  omega

/-- Settles O20: a cycle's residue is what the 32.32 increment leaves out, the increment is a floor, and a time is reached in the least
number of increments. -/
theorem localClockCycles : Obligations.LocalClockCycles := by
  unfold Obligations.LocalClockCycles
  refine ⟨fun k => ⟨rfl, rfl, dcoCycle_sub k⟩, fun inc res _ => ⟨dcoStep_sum inc res, Nat.mod_lt _ (by decide)⟩,
    fun w h _ => dcoInc_floor h, fun t k h _ _ => ?_⟩
  obtain ⟨hsum, hlast⟩ := clockTo_least (t := t) (dcoInc_pos h)
  exact ⟨rfl, Nat.le_add_right _ _, hsum, hlast⟩

end Sys2Proof.Proofs

namespace Sys2Proof.Proofs

open Sys2Proof.Machine Sys2Proof.Safety Sys2Proof.Laws

/-! ## Bit sets as numbers -/

theorem bit_eq_testBit (v i : Nat) : bit v i = v.testBit i := by
  rw [Nat.testBit_eq_decide_div_mod_eq]
  rfl

/-- The number that lists a set of bits holds exactly those. -/
theorem bit_ofBits (l : List Nat) (i : Nat) : bit (ofBits l) i = decide (i ∈ l) := by
  have key : ∀ a, (l.foldl (fun a i => a ||| 2 ^ i) a).testBit i = (a.testBit i || decide (i ∈ l)) := by
    induction l with
    | nil => simp
    | cons j l ih =>
      intro a
      simp [ih, Nat.testBit_or, Nat.testBit_two_pow, Bool.or_assoc, eq_comm]
  simpa [bit_eq_testBit, ofBits] using key 0

theorem mem_bitList {v n i : Nat} : i ∈ bitList v n ↔ i < n ∧ bit v i = true := by
  simp [bitList]

/-! ## The first-error register (16 R617-R619) and the reset-cause register (17 R638, R639) -/

section
variable (id cls detail : Nat) (x : FAcc) {s : State}

/-- The register takes a fault when it is empty or holds one of lower class, and says in MORE whether it held one. -/
theorem capture_taken (h : s.flt.ff.valid = false ∨ s.flt.ff.cls < cls) :
    let f := (capture id cls detail x s).flt.ff
    f.valid = true ∧ f.id = id ∧ f.cls = cls ∧ f.more = s.flt.ff.valid := by
  have hc : (!s.flt.ff.valid || decide (s.flt.ff.cls < cls)) = true := by simpa using h
  simp only [capture, hc, if_true, and_self]

theorem capture_not_taken (hv : s.flt.ff.valid = true) (h : cls ≤ s.flt.ff.cls) :
    (capture id cls detail x s).flt.ff = { s.flt.ff with more := true } := by
  have hc : (!s.flt.ff.valid || decide (s.flt.ff.cls < cls)) = false := by simp [hv, h]
  simp only [capture, hc, Bool.false_eq_true, if_false]

end

/-- No depth of reset writes the register: the Fault Collector keeps it in every case (16 R617). -/
theorem resetFaults_ff (d : Nat) (f : Collector) : (resetFaults d f).ff = f.ff := by
  unfold resetFaults
  split
  · rfl
  · split <;> rfl

theorem bit_cause_clearCause (v : Nat) (s : State) {i : Nat} (hi : i < 16) :
    bit (clearCause v s).boot.cause i = (bit s.boot.cause i && !bit v i) := by
  simp [clearCause, bit_ofBits, mem_bitList, hi]

/-- Settles O19: a capture takes the fault or marks MORE, a reset keeps the first error and adds its cause, a power-on starts both anew. -/
theorem firstErrorAndResetCause : Obligations.FirstErrorAndResetCause := by
  unfold Obligations.FirstErrorAndResetCause
  refine ⟨fun id cls detail x s hv => ?empty, fun id cls detail x s hv hc => ?higher,
    fun id cls detail x s hv hc => capture_not_taken id cls detail x hv hc, fun bs cm te s => ?powerOn,
    fun s hw => congrArg ends (if_pos hw), fun d c s => resetFaults_ff d s.flt, fun d c s => ⟨rfl, rfl⟩, fun bs cm te s => rfl,
    fun v s i hw hi => ⟨congrArg ends (if_pos hw), bit_cause_clearCause v s hi⟩⟩
  case empty =>
    obtain ⟨h1, h2, -, h4⟩ := capture_taken id cls detail x (.inl hv)
    exact ⟨h1, h2, h4.trans hv⟩
  case higher =>
    obtain ⟨h1, h2, h3, h4⟩ := capture_taken id cls detail x (.inr hc)
    exact ⟨h1, h2, h3, h4.trans hv⟩
  case powerOn => exact resetFaults_ff depthCold (goOff s).flt

end Sys2Proof.Proofs

namespace Sys2Proof.Proofs

open Sys2Proof.Machine Sys2Proof.Safety Sys2Proof.Laws

/-! ## The clock, time and Almanac commands (11 R436-R473) -/

/-- Settles O32: a time step and a new epoch have no effect before their binding; every other plan gives a payload and an effect. -/
theorem clockOperations : Obligations.ClockOperations := by
  unfold Obligations.ClockOperations
  exact ⟨fun r s h => execOp_answered h rfl rfl, fun r s h => execOp_answered h rfl rfl, fun r s h => execOp_answered h rfl rfl,
    fun r s h => execOp_answered h rfl rfl, fun r s h => execOp_answered h rfl rfl, fun r s h => execOp_answered h rfl rfl,
    fun r s h => execOp_answered h rfl rfl, fun r s h => execOp_answered h rfl rfl, fun r s h => execOp_answered h rfl rfl,
    fun r s h => execOp_answered h rfl rfl, fun r s h => execOp_answered h rfl rfl, fun r s h => execOp_answered h rfl rfl,
    fun r s h => execOp_stagedOnly h rfl rfl, fun r s h => execOp_stagedOnly h rfl rfl, fun r s h => execOp_answered h rfl rfl⟩

/-! ## The commands of the Capture Store (12 R478-R508) -/

section
variable {r : Req} {u v : State} {t : Nat} {g : Seg} {x : Nat × Nat}

/-- The answer of CAP_FIND for a tick in a segment's run: the tick, its time, and the run (12 R504). -/
def foundAt (t : Nat) (g : Seg) (x : Nat × Nat) : List Byte := toBE 6 t ++ timeBytes (segTime g t).toNat ++ toBE 6 x.1 ++ toBE 4 x.2

/-- CAP_FIND by tick finds the run that holds it. -/
theorem capFind_by_tick (h0 : par r 0 1 = 0) (hr : runAt (segsOf v (par r 4 4)) (par r 12 6) = some (g, x)) :
    (planCapFind u r).act v = { st := v, payload := foundAt (par r 12 6) g x } := by
  simp only [planCapFind, h0, if_true, hr]
  rfl

/-- CAP_FIND by time finds the run of the first segment that has a tick for it. -/
theorem capFind_by_time (h1 : par r 0 1 = 1)
    (ht : findSome (fun g => segTick g ((par r 8 6 : Int) * 1000000000 + (par r 14 4 : Nat))) (segsOf v (par r 4 4)) = some t)
    (hr : runAt (segsOf v (par r 4 4)) t = some (g, x)) :
    (planCapFind u r).act v = { st := v, payload := foundAt t g x } := by
  simp only [planCapFind, h1, Nat.one_ne_zero, if_false, ht, hr]
  rfl

/-- CAP_READ of a tick that is recorded answers what of the run fits into the reply (12 R506). -/
theorem capRead_of_run (hr : runAt ((segsOf v (par r 0 4)).filter fun g => g.group == par r 4 2 / 64) (par r 8 6) = some (g, x)) :
    (planCapRead u r).act v =
      let k := min (min (x.1 + x.2 - par r 8 6) (par r 16 4)) (4092 / (4 * par r 6 2 * g.n))
      { st := v, payload := toBE 4 k ++ (List.range k).flatMap fun i =>
          (tickWords g (par r 8 6 + i) (par r 4 2 % 64) (par r 6 2)).flatMap fun w => toBE 4 w.toNat } := by
  simp only [planCapRead, hr]

end

/-- Settles O33: recording and replay have no effect before their binding, a find and a read answer the run that they meet, and every other
plan gives a payload and an effect. -/
theorem captureOperations : Obligations.CaptureOperations := by
  unfold Obligations.CaptureOperations
  refine ⟨fun r s h => execOp_answered h rfl rfl, fun r s h => execOp_answered h rfl rfl, fun r s h => execOp_answered h rfl rfl,
    fun r s h => execOp_answered h rfl rfl, fun r s h => execOp_answered h rfl rfl, fun r s h => execOp_answered h rfl rfl,
    fun r s h => execOp_stagedOnly h rfl rfl, fun r s h => execOp_stagedOnly h rfl rfl, fun r s h => execOp_answered h rfl rfl,
    fun r s h => execOp_stagedOnly h rfl rfl, fun r s h => execOp_stagedOnly h rfl rfl, fun r s t g x h h0 ht hr => ?findTick,
    fun r s t g x h h1 ht hr => ?findTime, fun r s g x h hr => ?read, fun r s h => execOp_answered h rfl rfl,
    fun r s h => execOp_answered h rfl rfl⟩
  case findTick =>
    subst ht
    exact execOp_answered h rfl (capFind_by_tick (r := asRun r (dequeue r s)) (v := dequeue r s) h0 hr)
  case findTime => exact execOp_answered h rfl (capFind_by_time (r := asRun r (dequeue r s)) (v := dequeue r s) h1 ht hr)
  case read => exact execOp_answered h rfl (capRead_of_run (r := asRun r (dequeue r s)) (v := dequeue r s) hr)

/-! ## The system commands (13 R548-R552, 01 R34-R50) -/

section
variable {r : Req} {u v : State}

/-- SYS_RESET of the node itself replies before it resets (01 R43, 15 R594). -/
theorem sysReset_own (h : par r 1 1 = 0) :
    (planSysReset u r).act v = {
      hold := true,
      st := commandReset (resetDepth (par r 0 1)) (finish r OK 0 0 false (forcedIn r v) [] (setForced (forcedIn r v) v)) } := by
  simp only [planSysReset, h, Nat.zero_ne_one, if_false]
  rfl

/-- SYS_RESET of the partner asks it and holds the reply (15 R605). -/
theorem sysReset_partner (h : par r 1 1 = 1) :
    (planSysReset u r).act v = { hold := true, st := { sendPair 8 (toBE 1 (par r 0 1)) v with
      cp := { v.cp with partner := v.cp.partner ++ [{ req := r, node := v.pair.seq, forced := forcedIn r v }] } } } := by
  simp only [planSysReset, h, if_true]
  rfl

end

/-- Settles O25: mode change, time base and mute-all have no effect before their binding, a reset goes by whom it resets, and every other
plan gives a payload and an effect or holds its reply. -/
theorem systemOperations : Obligations.SystemOperations := by
  unfold Obligations.SystemOperations
  exact ⟨fun r s h => execOp_answered h rfl rfl, fun r s h => execOp_answered h rfl rfl, fun r s h => execOp_stagedOnly h rfl rfl,
    fun r s h => execOp_stagedOnly h rfl rfl, fun r s h h0 => execOp_holding h rfl (sysReset_own (r := asRun r (dequeue r s)) h0),
    fun r s h h1 => execOp_holding h rfl (sysReset_partner (r := asRun r (dequeue r s)) h1),
    fun r s h => execOp_stagedOnly h rfl rfl, fun r s h => execOp_holding h rfl rfl⟩

/-! ## The power, pairing and fault commands (18 R668-R679, 15 R580-R604, 16 R611-R629) -/

/-- Settles O35: none of these operations is staged, and each plan is its payload and its effect. -/
theorem powerAndPairOperations : Obligations.PowerAndPairOperations := by
  unfold Obligations.PowerAndPairOperations
  exact ⟨fun r s h => execOp_answered h rfl rfl, fun r s h => execOp_answered h rfl rfl, fun r s h => execOp_answered h rfl rfl,
    fun r s h => execOp_answered h rfl rfl, fun r s h => execOp_answered h rfl rfl, fun r s h => execOp_answered h rfl rfl,
    fun r s h => execOp_answered h rfl rfl, fun r s h => execOp_answered h rfl rfl, fun r s h => execOp_answered h rfl rfl⟩

/-- Settles O36: none of these operations is staged, and each plan is its payload and its effect. -/
theorem faultOperations : Obligations.FaultOperations := by
  unfold Obligations.FaultOperations
  exact ⟨fun r s h => execOp_answered h rfl rfl, fun r s h => execOp_answered h rfl rfl, fun r s h => execOp_answered h rfl rfl,
    fun r s h => execOp_answered h rfl rfl, fun r s h => execOp_answered h rfl rfl, fun r s h => execOp_answered h rfl rfl,
    fun r s h => execOp_answered h rfl rfl, fun r s h => execOp_answered h rfl rfl⟩

/-! ## The firmware, settings and option commands (17 R645-R661) -/

section
variable {op : Nat} {plan : State → Req → Plan} {r : Req} {s : State}

/-- An accepted operation whose effect shows that it cannot be done: its effect, then the refusal. -/
theorem execOp_unsuccessful {st err : Nat} {effect : State → State} (h : accepts op plan r s = true) (hs : isStaged op = false)
    (ha : (plan (dequeue r s) (asRun r (dequeue r s))).act (dequeue r s) = { st := effect (dequeue r s), status := st, err := err })
    (hst : 0x100 ≤ st) :
    ends (execOp op plan r s) = ends (finish (asRun r (dequeue r s)) st err 0 false false [] (effect (dequeue r s))) := by
  have hlt : decide (st < 0x100) = false := decide_eq_false (by omega)
  rw [execOp_accepted h hs]
  simp [ha, hlt, setForced]

end

section
variable {r : Req} {v : State}

/-- The bytes of the image in the slot that is open (17 R653). -/
def openImage (s : State) : List Byte := memReads s (slotBase ((openSlot s).getD 0)) (imageAt s ((openSlot s).getD 0)).len

/-- FW_END keeps an image that is good and discards any other (17 R653). -/
theorem fwEnd_good (h : Config.imageGood (openImage v) = true) :
    (planFwEnd v r).act v = { st := modImage ((openSlot v).getD 0) (fun m => { m with
      state := 1, schema := Config.imageSchema (openImage v) % 65536 }) v } :=
  if_pos h

theorem fwEnd_bad (h : Config.imageGood (openImage v) = false) :
    (planFwEnd v r).act v = { st := modImage ((openSlot v).getD 0) (fun _ => {}) v, status := BAD_PARAM, err := 0xFFFF } :=
  if_neg (Bool.eq_false_iff.1 h)

end

/-- Settles O37: an activation and a fallback reply before they reset, the end of an image goes by whether it is good, and every other plan
gives a payload and an effect. -/
theorem firmwareAndOptionOperations : Obligations.FirmwareAndOptionOperations := by
  unfold Obligations.FirmwareAndOptionOperations
  refine ⟨fun r s h => execOp_answered h rfl rfl, fun r s h => execOp_answered h rfl rfl, fun r s h => ?fwEnd,
    fun r s h => execOp_holding h rfl rfl, fun r s h => execOp_answered h rfl rfl, fun r s h => execOp_holding h rfl rfl,
    fun r s h => execOp_answered h rfl rfl, fun r s h => execOp_answered h rfl rfl, fun r s h => execOp_answered h rfl rfl,
    fun r s h => execOp_answered h rfl rfl⟩
  case fwEnd =>
    cases hb : Config.imageGood (openImage s) with
    | true => exact (execOp_answered h rfl (fwEnd_good (v := dequeue r s) hb)).trans (if_pos hb).symm
    | false =>
      exact (execOp_unsuccessful h rfl (fwEnd_bad (v := dequeue r s) hb) (by decide)).trans (if_neg (Bool.eq_false_iff.1 hb)).symm

/-! ## The key, audit, life-cycle and tamper commands (14 R559-R576) -/

section
variable {r : Req} {u v : State}

/-- The key of another slot than the requester's own is answered like any other operation. -/
theorem credSet_other {k : List Byte} (hk : wrappedKey u r 4 = some k) (ho : ownSlot r (par r 0 1) (par r 1 1) = false) :
    (planCredSet u r).act v = { st := putKey (par r 0 1) (par r 1 1) (fit 32 k) v } := by
  simp only [planCredSet, credAct, ho, hk, Bool.false_eq_true, if_false, Option.getD_some]

theorem credClear_other (ho : ownSlot r (par r 0 1) (par r 1 1) = false) :
    (planCredClear u r).act v = { st := dropKeys (· == credIx (par r 0 1) (par r 1 1)) v } :=
  if_neg (by simp [ho])

/-- A request that clears its own key is answered under it first (14 R561). -/
theorem credClear_own (ho : ownSlot r (par r 0 1) (par r 1 1) = true) :
    (planCredClear u r).act v = { hold := true, st := dropKeys (· == credIx (par r 0 1) (par r 1 1)) (finish r OK 0 0 false false [] v) } :=
  if_pos ho

end

/-- Settles O38: keys go by whose they are, an advance of the life cycle replies first, and every other plan gives a payload and an
effect. -/
theorem securityOperations : Obligations.SecurityOperations := by
  unfold Obligations.SecurityOperations
  exact ⟨fun r s k h hk ho => execOp_answered h rfl (credSet_other (r := asRun r (dequeue r s)) hk ho),
    fun r s h ho => execOp_answered h rfl (credClear_other (r := asRun r (dequeue r s)) ho),
    fun r s h ho => execOp_holding h rfl (credClear_own (r := asRun r (dequeue r s)) ho),
    fun r s h => execOp_answered h rfl rfl, fun r s h => execOp_answered h rfl rfl, fun r s h => execOp_answered h rfl rfl,
    fun r s h => execOp_answered h rfl rfl, fun r s h => execOp_holding h rfl rfl, fun r s h => execOp_answered h rfl rfl,
    fun r s h => execOp_answered h rfl rfl, fun r s h => execOp_answered h rfl rfl⟩

/-! ## The commands of the Sealed Meter (19 R688-R712)

A powered meter takes a request out of its mailbox at once, so its plan is that of the operation itself. -/

section
variable {op : Nat} {plan : State → Req → Plan} {r : Req} {s : State}

theorem mailbox_powered (hv : s.meter.vmet = true) : mailbox plan s r = plan s r := if_pos hv

theorem execOp_mailbox {payload : State → List Byte} {effect : State → State} (h : accepts op (mailbox plan) r s = true)
    (hv : s.meter.vmet = true) (hs : isStaged op = false)
    (ha : (plan (dequeue r s) (asRun r (dequeue r s))).act (dequeue r s)
      = { st := effect (dequeue r s), payload := payload (dequeue r s) }) :
    ends (execOp op (mailbox plan) r s) = answered r s payload effect :=
  execOp_answered h hs (by rw [mailbox_powered (s := dequeue r s) hv, ha])

end

section
variable {r : Req} {u v : State}

/-- METER_FW_END keeps an image that is good for the next start and discards any other (19 R707). -/
theorem meterFwEnd_good (hv : u.meter.vmet = true) (h : Config.meterImageGood (imageBytes v.meter.image (par r 0 4)) = true) :
    (planMeterFwEnd u r).act v = { st := modMeter (fun m => { m with
      image := [(0, imageBytes v.meter.image (par r 0 4))], loading := false, imgNext := some true }) v } := by
  rw [planMeterFwEnd, mailbox_powered hv]
  exact if_pos h

/-- The meter without an image in its program memory, which the ring has again (19 R706, R707). -/
def imageGone (s : State) : State := exportAlarm (modMeter (fun m => { setRing 16384 m with image := [], loading := false }) s)

theorem meterFwEnd_bad (hv : u.meter.vmet = true) (h : Config.meterImageGood (imageBytes v.meter.image (par r 0 4)) = false) :
    (planMeterFwEnd u r).act v = { st := imageGone v, status := BAD_PARAM, err := 0xFFFF } := by
  rw [planMeterFwEnd, mailbox_powered hv]
  exact if_neg (Bool.eq_false_iff.1 h)

/-- METER_READ of a record that the meter has (19 R704). -/
theorem meterRead_of_ok (hv : u.meter.vmet = true) (h : (meterRead v.meter (par r 0 4) (par r 4 1)).1 = OK) :
    (planMeterRead u r).act v = { st := v, payload := (meterRead v.meter (par r 0 4) (par r 4 1)).2 } := by
  rw [planMeterRead, mailbox_powered hv]
  simp only [h, OK]

end

/-- Settles O34: an image's end goes by whether it is good; every other plan gives a payload and an effect, that of a read where the meter
has the record. -/
theorem sealedMeterOperations : Obligations.SealedMeterOperations := by
  unfold Obligations.SealedMeterOperations
  refine ⟨fun r s h hv => execOp_mailbox h hv rfl rfl, fun r s h hv => execOp_mailbox h hv rfl rfl, fun r s h hv => execOp_mailbox h hv rfl rfl,
    fun r s h hv => execOp_mailbox h hv rfl rfl, fun r s h hv => execOp_mailbox h hv rfl rfl, fun r s h hv hr => ?read,
    fun r s h hv => execOp_mailbox h hv rfl rfl, fun r s h hv => execOp_mailbox h hv rfl rfl, fun r s h hv => execOp_mailbox h hv rfl rfl,
    fun r s h hv => execOp_mailbox h hv rfl rfl, fun r s h hv => execOp_mailbox h hv rfl rfl, fun r s h hv => ?fwEnd,
    fun r s h hv => execOp_mailbox h hv rfl rfl⟩
  case read => exact execOp_answered h rfl (meterRead_of_ok (r := asRun r (dequeue r s)) (u := dequeue r s) (v := dequeue r s) hv hr)
  case fwEnd =>
    cases hb : Config.meterImageGood (imageBytes s.meter.image (par r 0 4)) with
    | true =>
      exact (execOp_answered h rfl (meterFwEnd_good (r := asRun r (dequeue r s)) (u := dequeue r s) (v := dequeue r s) hv hb)).trans
        (if_pos hb).symm
    | false =>
      have key := execOp_unsuccessful h rfl (meterFwEnd_bad (r := asRun r (dequeue r s)) (u := dequeue r s) (v := dequeue r s) hv hb)
        (by decide)
      exact key.trans (if_neg (Bool.eq_false_iff.1 hb)).symm

end Sys2Proof.Proofs

namespace Sys2Proof.Proofs

open Sys2Proof.Machine Sys2Proof.Safety Sys2Proof.Laws

/-! ## The stage write of one tick (12 R486, R488) -/

section
variable {s : State} {k c : Nat} {ws : List W32} {q : Nat × Nat} {y : Seg}

/-- Reading the group just changed. -/
theorem groupAt_modGroup (hk : thas s.cap.groups k = true) (f : Group → Group) : groupAt (modGroup k f s) k = f (groupAt s k) := by
  obtain ⟨g, hg⟩ := Option.isSome_iff_exists.1 hk
  simp [groupAt, modGroup, tgetD, tget_tupd_self, hg]

/-- Nothing is sent where every staged tick has been. -/
theorem sendTicks_of_none (ms fuel : Nat) (h : (groupAt s k).staged[(groupAt s k).sent]? = none) : sendTicks k ms fuel s = s := by
  cases fuel with
  | zero => rfl
  | succ n => simp only [sendTicks, h]

/-- A tick that has waited its time and fits into the open segment is sent to its place, and the next one is looked at. -/
theorem sendTicks_of_fits {ms fuel : Nat} (hc : (groupAt s k).staged[(groupAt s k).sent]? = some (c, ws))
    (ht : (groupAt s k).since.getD (groupAt s k).sent 0 + ms * 1000000 ≤ s.clock.now) (hq : (groupAt s k).seg = some q)
    (hm : (groupAt s k).mseg = none) (hy : segAt s q = some y) (hf : segFits (groupAt s k) y (groupAt s k).sent c = true) :
    sendTicks k ms (fuel + 1) s = sendTicks k ms fuel (modGroup k (fun g => { g with sent := g.sent + 1 })
      (nvmeFua q.1 (dataOff s q (tickBytes (groupAt s k)) (groupAt s k).sent) (tickData (groupAt s k) ws) s)) := by
  have hw : ¬ (ms ≠ 0 ∧ s.clock.now < (groupAt s k).since.getD (groupAt s k).sent 0 + ms * 1000000) := by omega
  simp only [sendTicks, hc, hq, hm, hy, hf, if_neg hw, if_true]

/-- The last staged tick is sent alone. -/
theorem sendTicks_last (hk : thas s.cap.groups k = true) (hc : (groupAt s k).staged[(groupAt s k).sent]? = some (c, ws))
    (hl : (groupAt s k).staged.length = (groupAt s k).sent + 1)
    (ht : (groupAt s k).since.getD (groupAt s k).sent 0 + 20 * 1000000 ≤ s.clock.now) (hq : (groupAt s k).seg = some q)
    (hm : (groupAt s k).mseg = none) (hy : segAt s q = some y) (hf : segFits (groupAt s k) y (groupAt s k).sent c = true) :
    sendTicks k 20 64 s = modGroup k (fun g => { g with sent := g.sent + 1 })
      (nvmeFua q.1 (dataOff s q (tickBytes (groupAt s k)) (groupAt s k).sent) (tickData (groupAt s k) ws) s) := by
  rw [sendTicks_of_fits hc ht hq hm hy hf]
  refine sendTicks_of_none 20 63 ?_
  rw [groupAt_modGroup (s := nvmeFua _ _ _ s) hk]
  exact List.getElem?_eq_none (Nat.le_of_eq hl)

end

/-! ## The events of the Capture Store (12 R476-R506) -/

section
variable {s : State} {d k : Nat}

/-- A drive of the node that has failed or left comes back, of the volume's state until it is looked at (12 R501). -/
theorem exec_driveReturn (hc : hasCap s = true) (hd : d < 4) (h4 : (driveAt s d).state = 4) :
    exec (.driveReturn d) s = ends (remount d (modDrive d (fun v => { v with state := if mounted s then 3 else 1 }) s)) :=
  congrArg ends (if_neg (by simp [hc, hd, h4]))

/-- Before mounting, what the drives hold decides the state of the volume. -/
theorem remount_unmounted (hm : mounted s = false) : remount d s = { s with cap := { s.cap with vol := preMount s.cap.drives } } :=
  (if_pos (by simp [hm])).trans (if_neg (by simp [hm]))

/-- A drive that is no member of the mounted volume stays outside it. -/
theorem remount_stranger (hm : mounted s = true) (hn : isMember s d = false) : remount d s = s :=
  (if_neg (by simp [hm])).trans (if_pos (by simp [hn]))

/-- A member is online again; the volume is whole once all are, and the segments that were open on it are closed. -/
theorem remount_member (hm : mounted s = true) (hn : isMember s d = true) :
    remount d s =
      let t := modDrive d (fun v => { v with state := 2, clean := v.clean && !s.cap.opened }) s
      { t with cap := { t.cap with
        vol := if allMembers t then 3 else 4,
        segs := t.cap.segs.map fun g => if g.drive = d ∧ g.st = 1 then { g with st := 2 } else g } } :=
  (if_neg (by simp [hm])).trans (if_neg (by simp [hn]))

/-- Changing one drive twice. -/
theorem modDrive_modDrive (f g : Drive → Drive) : modDrive d g (modDrive d f s) = modDrive d (fun v => g (f v)) s := by
  simp [modDrive]

theorem driveAt_modDrive (f : Drive → Drive) : driveAt (modDrive d f s) d = f (driveAt s d) := tgetD_tmod _ _ _ _

/-- Membership is by the volume, not by the state of the drive. -/
theorem isMember_modDrive_state (n : Nat) : isMember (modDrive d (fun v => { v with state := n }) s) d = isMember s d := by
  simp only [isMember, driveAt_modDrive]
  rfl

/-- The oldest request of a replay whose read-ahead is not filled is now. -/
theorem exec_readaheadFilled {i : Nat} {g : Staged} (h : unfilled s i = some g) :
    exec (.readaheadFilled i) s =
      ends { s with cap := { s.cap with replays := tmod s.cap.replays i {} fun x => { x with filled := x.filled ++ [reqKey g.req] } } } := by
  refine congrArg ends ?_
  rw [h]

end

/-- Settles O46: every clause assumes its event's guard; a stage write of one tick and the return of a drive go by their lemmas. -/
theorem captureEvents : Obligations.CaptureEvents := by
  unfold Obligations.CaptureEvents
  refine ⟨fun k s h => ?stage, fun k s c ws q y h hc hl ht hq hm hy hf => ?oneTick, fun k d s h => ?written, fun k d s h => ?writeError,
    fun d s hc hd => ?fails, fun d s hc hd h0 h4 => ?timeout, fun d s hc hd h4 hm => ?returnUnmounted, fun d s hc hd h4 hm hn => ?returnMember,
    fun d s hc hd h4 hm hn => ?returnStranger, fun i s g h => exec_readaheadFilled h, fun s hc h4 hm => ?mount,
    fun d link bytes wear written block rev a b map s hc hd hs => ?detected, fun d wear written warn s hc hd h0 => ?health⟩
  case stage => exact congrArg ends (if_pos h)
  case oneTick =>
    exact congrArg ends ((if_pos h).trans (sendTicks_last (Bool.and_eq_true_iff.1 h).1 hc hl ht hq hm hy hf))
  case written => exact congrArg ends ((if_neg (by simp [h])).trans (if_neg Bool.false_ne_true))
  case writeError => exact congrArg ends ((if_neg (by simp [h])).trans (if_pos rfl))
  case fails => exact congrArg ends (if_pos (by simp [hc, hd]))
  case timeout => exact congrArg ends (if_pos (by simp [hc, hd, h0, h4]))
  case returnUnmounted =>
    simp only [exec_driveReturn hc hd h4, hm, Bool.false_eq_true, if_false]
    exact congrArg ends (remount_unmounted (s := modDrive d _ s) hm)
  case returnMember =>
    simp only [exec_driveReturn hc hd h4, hm, if_true]
    rw [remount_member (s := modDrive d _ s) hm ((isMember_modDrive_state 3).trans hn), modDrive_modDrive]
    rfl
  case returnStranger =>
    simp only [exec_driveReturn hc hd h4, hm, if_true]
    exact congrArg ends (remount_stranger (s := modDrive d _ s) hm ((isMember_modDrive_state 3).trans hn))
  case mount => exact congrArg ends (if_pos (by simp [hc, h4, hm]))
  case detected => exact congrArg ends (if_neg (by rcases hs with h | h <;> simp [hc, hd, h]))
  case health => exact congrArg ends (if_neg (by simp [hc, hd, h0]))

end Sys2Proof.Proofs

namespace Sys2Proof.Proofs

open Sys2Proof.Machine Sys2Proof.Safety Sys2Proof.Laws

/-! ## Missing edges and the servo (11 R431-R444) -/

section
variable {s : State} {c i : Nat} {err steered : Int}

/-- Changing one candidate twice. -/
theorem modCand_modCand (f g : Cand → Cand) : modCand c g (modCand c f s) = modCand c (fun k => g (f k)) s := by
  simp [modCand]

/-- An edge that does not come counts as one more missing, the first of a run as the first. -/
theorem missEdge_of_edges (first : Bool) (ho : candOn s c = true) (he : edgesOut s c = false) :
    missEdge c first s =
      let t := modCand c (fun k => { dueEdges (rate s) 1 k with missed := if first then 1 else k.missed + 1, good := 0 }) s
      if (candAt t c).cfg.missE ≤ (candAt t c).missed then rejectCand c t else t := by
  unfold missEdge
  simp only [ho, he, Bool.not_true, Bool.false_eq_true, if_false]
  cases first with
  | true =>
    simp only [if_true, missEdges, modCand_modCand]
    rfl
  | false => rfl

/-- A candidate without lock misses each edge that its count has not seen come (log entry 68). -/
theorem missEdge_of_edgesOut (first : Bool) (ho : candOn s c = true) (he : edgesOut s c = true) :
    missEdge c first s = missEdges c 1 (modCand c (fun k => { k with came := k.came + 1 }) s) := by
  unfold missEdge
  simp only [ho, he, Bool.not_true, Bool.false_eq_true, if_false, if_true]

/-- The clock once the servo has taken a measurement: the error, since when it is small enough to lock, and lock lost by a large one
(11 R442, R444). -/
def measured (err : Int) (s : State) : State :=
  { s with clock := { s.clock with
    err := some err, fresh := false,
    within := if errWithin s 100 10 err then some (s.clock.within.getD s.clock.now) else none,
    phase := if phaseAligned s s.clock.sel then some err else s.clock.phase,
    state := if s.clock.state = 2 ∧ errWithin s 1000 100 err = false then 1 else s.clock.state } }

/-- Where the servo has its count and sees no jump, it takes the measurement and steers. -/
theorem exec_servoMeasurement_steers (hs : s.clock.sel < 13) (h : s.clock.state = 1 ∨ s.clock.state = 2) (hq : seqFirst s = true)
    (he : s.clock.estab = true) (hj : jumps s err steered = false) :
    exec (.servoMeasurement err steered) s = ends (steer (markSeq (measured err s))) := by
  have hgo : ¬ (!(decide (s.clock.sel < 13) && (s.clock.state == 1 || s.clock.state == 2) && seqFirst s)) = true := by
    rcases h with h | h <;> simp [hs, h, hq]
  have hest : ¬ (!s.clock.estab && s.clock.sel == 8 && !s.clock.stepped) = true := by simp [he]
  refine congrArg ends ((if_neg hgo).trans ((if_neg hest).trans (congrArg (fun t => steer (markSeq t)) ?_)))
  simp only [hj, Bool.false_eq_true, if_false]
  by_cases hl : s.clock.state = 2 ∧ errWithin s 1000 100 err = false
  · have hlost : (s.clock.state = 2 && !errWithin s 1000 100 err) = true := by simpa using hl
    rw [measured, if_pos hl]
    exact if_pos hlost
  · have hkept : ¬ (s.clock.state = 2 && !errWithin s 1000 100 err) = true := by simpa using hl
    rw [measured, if_neg hl]
    exact if_neg hkept

/-- PTP counts its first measurement from the master's time (11 R447). -/
theorem exec_servoMeasurement_steps (h : s.clock.state = 1 ∨ s.clock.state = 2) (he : s.clock.estab = false)
    (h8 : s.clock.sel = 8) (hn : s.clock.stepped = false) :
    exec (.servoMeasurement err steered) s = ends (stepToMaster err s) := by
  have hgo : ¬ (!(decide (s.clock.sel < 13) && (s.clock.state == 1 || s.clock.state == 2) && seqFirst s)) = true := by
    rcases h with h | h <;> simp [h, h8, seqFirst, videoAligned]
  exact congrArg ends ((if_neg hgo).trans (if_pos (by simp [he, h8, hn])))

/-- Of a phase-aligned video reference the edge just measured is the first of its sequence (11 R434). -/
theorem markSeq_measured_aligned (h : videoAligned s = true) :
    markSeq (measured err s) = modCand s.clock.sel (fun k => { k with frame := some 0 }) { s with clock := { s.clock with
      err := some err, fresh := false, phase := some err
      within := if err.natAbs ≤ 100 then some (s.clock.within.getD s.clock.now) else none
      state := if s.clock.state = 2 ∧ 1000 < err.natAbs then 1 else s.clock.state } } := by
  have hp : phaseAligned s s.clock.sel = true := (Bool.and_eq_true_iff.1 h).2
  refine (if_pos h).trans (congrArg (modCand s.clock.sel fun k => { k with frame := some 0 }) ?_)
  simp only [measured, errWithin, hp, if_true, decide_eq_true_eq, decide_eq_false_iff_not, Nat.not_le]

theorem markSeq_measured_of_not_aligned (h : videoAligned s = false) : markSeq (measured err s) = measured err s :=
  if_neg (Bool.eq_false_iff.1 h)

theorem seqFirst_of_aligned (h : videoAligned s = true) :
    seqFirst s = true ↔ (candAt s s.clock.sel).frame = none ∨ (candAt s s.clock.sel).frame = some 0 := by
  cases hf : (candAt s s.clock.sel).frame <;> simp [seqFirst, h, hf]

/-- Within a video sequence only its first edge is measured (11 R434). -/
theorem exec_servoMeasurement_of_not_first (h : seqFirst s = false) : exec (.servoMeasurement err steered) s = ends s :=
  congrArg ends (if_pos (by simp [h]))

end

/-! ## Time stamps and pulses (11 R447, R464) -/

section
variable {s : State} {i t pulse n : Nat}

/-- A candidate whose stamps are kept keeps every `stampDiv`-th, up to 16 of them. -/
theorem exec_refinTimestamp (hi : i < 4) (hp : s.clock.pll = true) :
    exec (.refinTimestamp i t) s =
      let u := modCand i (fun k => { dueEdges (rate s) 1 k with edges := k.edges + 1, missed := 0 })
        { s with clock := { s.clock with
          pulses := tmap (pulseSees i t) s.clock.pulses, pulseNew := tmap (fun x => (x.1, pulseSees i t x.2)) s.clock.pulseNew } }
      let k := candAt s i
      ends (if bit k.cfg.flags 3 && (k.edges + 1) % k.cfg.stampDiv == 0 then
          (if k.stamps.length < 16 then modCand i (fun k => { k with stamps := k.stamps ++ [t] }) u
           else setHist 0x200 (modCand i (fun k => { k with drops := inc16 k.drops }) u))
        else u) := by
  refine congrArg ends ((if_neg (by simp [hi, hp])).trans ?_)
  simp only [Bool.not_eq_true', ← Bool.not_eq_true, ite_not]
  rfl

/-- A pulse of the setting in force comes out where no other waits to replace it. -/
theorem exec_pulseEdge_of_current {v : Int} (hn : thas s.clock.pulseNew pulse = false)
    (hv : pulseTime s 0 (tgetD s.clock.pulses pulse {}) n = some v) :
    exec (.pulseEdge pulse n) s = ends (pulseOut pulse n v (tgetD s.clock.pulses pulse {}) s) := by
  have hnone : tget s.clock.pulseNew pulse = none := Option.not_isSome_iff_eq_none.1 (Bool.eq_false_iff.1 hn)
  have hf : pulseFirst s pulse n = none := by simp only [pulseFirst, hnone]
  refine congrArg ends ?_
  rw [hf]
  dsimp only
  rw [hv]

/-- The first pulse of a setting that waits brings it into force (log entry 59). -/
theorem exec_pulseEdge_of_new {v : Int} {x : Nat × Pulse} (hx : tget s.clock.pulseNew pulse = some x) (hv : pulseTime s x.1 x.2 n = some v) :
    exec (.pulseEdge pulse n) s = ends (pulseOut pulse n v x.2
      { s with clock := { s.clock with pulses := tset s.clock.pulses pulse x.2, pulseNew := tdel s.clock.pulseNew pulse } }) := by
  have hf : pulseFirst s pulse n = some (x.2, v) := by simp only [pulseFirst, hx, hv, Option.map_some]
  refine congrArg ends ?_
  rw [hf]

end

/-! ## Messages of the precision time protocol (11 R448-R451) -/

section
variable {s : State} {port t o c : Nat} {msg : PtpIn}

/-- Counting a frame leaves the clock as it is. -/
@[simp] theorem countPtp_clock (port : Nat) (s : State) : (countPtp port s).clock = s.clock := by
  unfold countPtp
  split <;> rfl

/-- A message that the PTP clock takes came on its own port, which is up. -/
theorem ptpPortUp_of_taken (h : ptpTaken s msg = true) : ptpPortUp s (ptpByte s 1) = true := by
  simp only [ptpTaken, Bool.and_eq_true] at h
  exact h.1.1.1

/-- A master answers a Delay_Req with the time at which it came. -/
theorem exec_ptpEventMessage_delayReq (h4 : s.clock.ptp.state = 4) (hp : port = ptpByte s 1) (hk : byteAt msg.body 0 % 16 = 1)
    (ht : ptpTaken s msg = true) :
    exec (.ptpEventMessage port t [] msg) s =
      let u := countPtp port s
      ends (sendPtpCorr (beS msg.body 8 8) 9 (ptpSeq msg.body) (ptpInterval u 8)
        (timeBytes (ptpTime u port t) ++ toBE 10 (ptpSender msg.body)) u) := by
  subst hp
  refine congrArg ends ((if_neg (by simp [ptpPortUp_of_taken ht])).trans ((if_neg (by simp [ht])).trans (if_pos ?_)))
  simp [h4, hk]

/-- A message in transit between two link ports carries the time of its passage, corrected for both ports, and is not taken. -/
theorem exec_ptpEventMessage_transit (hp : port < 4) (hu : linkUp s port = true) (ho : o < 4) (hne : o ≠ port) (huo : linkUp s o = true)
    (hm : port ≠ ptpByte s 1 ∨ ptpTaken s msg = false) :
    exec (.ptpEventMessage port t [(o, c)] msg) s = ends (egress o {
      kind := .ptp, a := byteAt msg.body 0 % 16, b := o, c := b2n msg.udp,
      bytes := msg.body.take 8 ++ toBES 8 (beS msg.body 8 8 + ((c : Int) + (linkCfg s o).asym - (linkCfg s port).asym) * 65536)
        ++ msg.body.drop 16 } (countFrame port true s)) := by
  have hup : ptpPortUp s port = true := (if_pos hp).trans hu
  have hnm : (port == ptpByte s 1 && ptpTaken s msg) = false := by rcases hm with h | h <;> simp [h]
  have hcount : countPtp port s = countFrame port true s := if_pos (by simp [hp, hu])
  refine congrArg ends ((if_neg (by simp [hup])).trans ((if_pos (by simp [hnm])).trans ?_))
  simp only [List.foldl_cons, List.foldl_nil, hcount]
  exact if_pos ⟨hp, ho, hne, (linkUp_countFrame port o true s).trans huo⟩

/-- A slave takes its master's Sync: a one-step one gives the offset, of a two-step one the time waits for its Follow_Up. -/
theorem exec_ptpSync (ht : ptpTaken s msg = true) (hs : s.clock.ptp.state = 2 ∨ s.clock.ptp.state = 3)
    (hm : ptpSender msg.body = s.clock.ptp.parent) :
    exec (.ptpSync t msg) s =
      let u := countPtp (ptpByte s 1) s
      let e := ptpTime u (ptpByte u 1) t
      let v := modCand 8 (fun k => { k with missed := 0, edges := k.edges + 1 }) u
      ends (if bit (byteAt msg.body 6) 1 then modPtp (fun p => { p with twoStep := some (ptpSeq msg.body, e, ptpCorr msg.body) }) v
        else ptpOffset (ptpStamp msg.body) e (ptpCorr msg.body) v) := by
  refine congrArg ends ((if_pos ht).trans (if_neg ?_))
  rcases hs with h | h <;> simp [h, hm]

/-- A general message that the clock takes goes by its type. -/
theorem exec_ptpGeneralMessage_announce (ht : ptpTaken s msg = true) (hk : byteAt msg.body 0 % 16 = 11) :
    exec (.ptpGeneralMessage msg) s = ends (announcePtp msg.body (countPtp (ptpByte s 1) s)) := by
  refine congrArg ends ((if_neg (by simp [ht])).trans ?_)
  rw [hk]
  rfl

theorem exec_ptpGeneralMessage_followUp {t2 : Nat} {r : Int} (ht : ptpTaken s msg = true) (hk : byteAt msg.body 0 % 16 = 8)
    (hm : ptpSender msg.body = s.clock.ptp.parent) (hw : s.clock.ptp.twoStep = some (ptpSeq msg.body, t2, r)) :
    exec (.ptpGeneralMessage msg) s =
      ends (ptpOffset (ptpStamp msg.body) t2 (r + ptpCorr msg.body) (countPtp (ptpByte s 1) s)) := by
  refine congrArg ends ((if_neg (by simp [ht])).trans ?_)
  rw [hk, hw]
  exact if_pos ⟨hm, rfl⟩

theorem exec_ptpGeneralMessage_delayResp (ht : ptpTaken s msg = true) (hk : byteAt msg.body 0 % 16 = 9)
    (hs : s.clock.ptp.state = 2 ∨ s.clock.ptp.state = 3) (hm : ptpSender msg.body = s.clock.ptp.parent)
    (ho : be msg.body 44 10 = ptpOwn s) :
    exec (.ptpGeneralMessage msg) s =
      ends (ptpState 3 (modPtp (fun p => { p with delay :=
        ((s.clock.ptp.t2 : Int) - s.clock.ptp.t1 - s.clock.ptp.corr + ((ptpStamp msg.body : Int) - ptpCorr msg.body - s.clock.ptp.t3)) / 2 })
        (countPtp (ptpByte s 1) s))) := by
  refine congrArg ends ((if_neg (by simp [ht])).trans ?_)
  rw [hk]
  exact if_pos ⟨hs, hm, ho⟩

/-- Sending a message leaves the clock as it is. -/
@[simp] theorem sendPtpCorr_clock (corr : Int) (ty seq log : Nat) (body : List Byte) (s : State) :
    (sendPtpCorr corr ty seq log body s).clock = s.clock := by
  unfold sendPtpCorr
  split
  · unfold emitMg
    split
    · rfl
    · split <;> rfl
  · split <;> rfl

/-- The interval of a message is that of the clock's configuration. -/
theorem ptpInterval_sendPtp (ty seq log j : Nat) (body : List Byte) : ptpInterval (sendPtp ty seq log body s) j = ptpInterval s j := by
  simp only [ptpInterval, ptpByte, sendPtp, sendPtpCorr_clock]

/-- A master's Sync is two-step out of MG and where it is not set one-step: its Follow_Up goes out with it. -/
theorem exec_ptpIntervalTimer_sync (hr : mgRuns s = true) (h4 : s.clock.ptp.state = 4) (h1 : ptpByte s 1 = 4 ∨ bit (ptpByte s 2) 2 = false) :
    exec (.ptpIntervalTimer 1 t) s =
      ends (modPtp (fun p => { p with seq := (s.clock.ptp.seq + 1) % 65536 })
        (sendPtp 8 s.clock.ptp.seq (ptpInterval s 7) (timeBytes (ptpTime s (ptpByte s 1) t))
          (sendPtp 0 s.clock.ptp.seq (ptpInterval s 7) (zeroBytes 10) s))) := by
  have hone : (ptpByte s 1 != 4 && bit (ptpByte s 2) 2) = false := by rcases h1 with h | h <;> simp [h]
  refine congrArg ends ((if_neg (by simp)).trans ((if_pos (by simp [hr, h4])).trans ?_))
  simp only [hone, Bool.false_eq_true, if_false, ptpInterval_sendPtp]

end

/-- Settles O47: every clause assumes its event's guard; missing edges, servo measurements, stamps, pulses and messages go by their
lemmas. -/
theorem clockEvents : Obligations.ClockEvents := by
  unfold Obligations.ClockEvents
  refine ⟨fun s hp => ?oscillator, fun c first s ho he => ?missing, fun c first s ho he => ?missingOut, fun c ppb s ho he => ?frequency,
    fun c s ho he hq hg => ?qualified, fun err steered s hs h he h8 hn => exec_servoMeasurement_steps h he h8 hn,
    fun err steered s hs h he hj hv hf => ?aligned, fun err steered n s hv hf => ?notFirst, fun err steered s hs h he hj hv => ?steers,
    fun s since h1 hw hl => ?lock, fun ns s h2 hn => ?mean, fun s h3 hd hl => ?holdover, fun i t s hi hp => exec_refinTimestamp hi hp,
    fun pulse n t s hn ht => exec_pulseEdge_of_current hn ht,
    fun port t msg s h4 hp hk ht => exec_ptpEventMessage_delayReq h4 hp hk ht,
    fun port t o c msg s hp hu ho hne huo hm => exec_ptpEventMessage_transit hp hu ho hne huo hm,
    fun t msg s ht hs hm => exec_ptpSync ht hs hm, fun s h1 h3 => ?announceTimeout,
    fun msg s ht hk => exec_ptpGeneralMessage_announce ht hk, fun msg t2 c s ht hk hm hw => exec_ptpGeneralMessage_followUp ht hk hm hw,
    fun msg s ht hk hs hm ho => exec_ptpGeneralMessage_delayResp ht hk hs hm ho, fun t s hr h4 => ?timerAnnounce,
    fun t s hr h4 h1 => exec_ptpIntervalTimer_sync hr h4 h1, fun t s hr hs => ?timerDelay,
    fun pulse n t x s hx ht => exec_pulseEdge_of_new hx ht⟩
  case oscillator => exact congrArg ends (if_pos hp)
  case missing => exact congrArg ends (missEdge_of_edges first ho he)
  case missingOut => exact congrArg ends (missEdge_of_edgesOut first ho he)
  case frequency => exact congrArg ends (if_neg (by simp [ho, he]))
  case qualified => exact congrArg ends (if_pos (by simp [ho, he, hq, hg]))
  case aligned =>
    rw [exec_servoMeasurement_steers hs h ((seqFirst_of_aligned hv).2 hf) he hj, markSeq_measured_aligned hv]
  case notFirst =>
    refine exec_servoMeasurement_of_not_first (Bool.eq_false_iff.2 fun hq => ?_)
    simpa [hf] using (seqFirst_of_aligned hv).1 hq
  case steers =>
    rw [exec_servoMeasurement_steers hs h (by simp [seqFirst, hv]) he hj, markSeq_measured_of_not_aligned hv]
    rfl
  case lock => exact congrArg ends (if_pos (by simp [h1, lockReady, hw, hl]))
  case mean => exact congrArg ends (if_pos (by simp [h2, hn]))
  case holdover => exact congrArg ends (if_pos (by simp [h3, hd, hl]))
  case announceTimeout => exact congrArg ends (if_pos ⟨h1, h3⟩)
  case timerAnnounce => exact congrArg ends (if_pos (by simp [hr, h4]))
  case timerDelay => exact congrArg ends ((if_neg (by simp)).trans ((if_neg (by simp)).trans (if_pos (by simpa [hr] using hs))))

end Sys2Proof.Proofs

namespace Sys2Proof.Proofs

open Sys2Proof.Machine Sys2Proof.Safety Sys2Proof.Laws

/-! ## The events of the Sealed Meter (19 R695-R710) -/

section
variable {s : State} {age : Nat}

/-- A request on METER_RX that carries its right check word has its answer and its effect (19 R704). -/
theorem serialOp_checked {op arg : Nat} (f : State → Nat × List Byte × State) (hm : hasMeter s = true) (hv : s.meter.vmet = true) :
    serialOp op arg (crc16 (toBE 1 0xA5 ++ toBE 1 op ++ toBE 4 arg)) f s = serialReply op (f s).1 (f s).2.1 (f s).2.2 :=
  (if_neg (by simp [hm, hv])).trans (if_neg fun h => h rfl)

theorem exec_meterMinuteBoundary (hm : hasMeter s = true) : exec (.meterMinuteBoundary age) s = ends (minuteEnd age s) :=
  congrArg ends (if_pos hm)

/-- Without power a minute only moves the meter's time on, and no record of it is whole (19 R697). -/
theorem minuteEnd_unpowered (hv : s.meter.vmet = false) :
    minuteEnd age s =
      let next := (s.meter.start / 60 + 1) * 60 % 2 ^ 48
      modMeter (fun m => { m with time := next, start := next, broken := true }) s :=
  if_pos (by simp [hv])

/-- The request that has waited longest is answered BUSY, with a line on the serial output (19 R710). -/
theorem exec_meterMailboxTimeout {r : Req} {rest : List Req} (h : s.cp.meterWait = r :: rest) :
    exec .meterMailboxTimeout s =
      ends (statusLine 6 (finish r BUSY 0 0 false false [] { s with cp := { s.cp with meterWait := rest } })) := by
  refine congrArg ends ?_
  rw [h]

end

/-- Settles O52: every clause assumes its event's guard; a serial command goes by its check word, and a minute and the mailbox by their
lemmas. -/
theorem meterEvents : Obligations.MeterEvents := by
  unfold Obligations.MeterEvents
  refine ⟨fun age s hm => exec_meterMinuteBoundary hm, fun age s hm hv => ?unpowered, fun s hm hv => ?sealInd,
    fun arg s hm hv => congrArg ends (serialOp_checked _ hm hv), fun arg s hm hv => congrArg ends (serialOp_checked _ hm hv),
    fun arg s hm hv => congrArg ends (serialOp_checked _ hm hv), fun arg s hm hv => congrArg ends (serialOp_checked _ hm hv),
    fun r rest s h => exec_meterMailboxTimeout h, fun code s hm hv hb => ?alarm, fun s hm => ?lossOnBattery, fun s hm => ?loss,
    fun s hm hv => ?powerReturn, fun s hm => ?batteryLow⟩
  case unpowered => rw [exec_meterMinuteBoundary hm, minuteEnd_unpowered hv]
  case sealInd => exact congrArg ends (if_pos (by simp [hm, hv]))
  case alarm => exact congrArg ends (if_pos (by simp [hm, hv, hb]))
  case lossOnBattery | loss | batteryLow => exact congrArg ends (if_pos hm)
  case powerReturn => exact congrArg ends (if_pos (by simp [hm, hv]))

end Sys2Proof.Proofs

namespace Sys2Proof.Proofs

open Sys2Proof.Machine Sys2Proof.Safety Sys2Proof.Laws

/-! ## The mailbox rings (13 R541-R543) -/

section
variable {v : Nat} {s : State}

theorem exec_winReqProdWrite (mem : List (List Byte × Option (List Byte))) (hm : 2 ≤ s.mode.mode) (hh : s.boot.halted = false) :
    exec (.winReqProdWrite v mem) s = ends (reqDoorbell v mem s) :=
  congrArg ends (if_pos ⟨hm, by simp [hh]⟩)

theorem exec_winRplProdWrite (bufs : List (List Byte × Bool)) (hm : 2 ≤ s.mode.mode) (hh : s.boot.halted = false) :
    exec (.winRplProdWrite v bufs) s = ends (rplDoorbell v bufs s) :=
  congrArg ends (if_pos ⟨hm, by simp [hh]⟩)

/-- A Command Processor that listens belongs to a node that is up. -/
theorem up_of_cpListens (h : cpListens s = true) : 2 ≤ s.mode.mode ∧ s.boot.halted = false := by
  simp only [cpListens, Bool.and_eq_true, decide_eq_true_eq, Bool.not_eq_true'] at h
  exact h.1

/-- Descriptors within an enabled ring join those that wait to be fetched. -/
theorem reqDoorbell_within (mem : List (List Byte × Option (List Byte))) (he : s.win.reqEn = true)
    (hl : (v % 65536 + 65536 - s.win.reqCons) % 65536 ≤ 2 ^ s.win.reqSize) :
    reqDoorbell v mem s =
      let lead := (v % 65536 + 65536 - s.win.reqCons) % 65536
      fetchAll { s with win := { s.win with
        reqProd := v % 65536, fetched := (s.win.fetched ++ mem ++ List.replicate lead ([], none)).take lead } } :=
  (if_neg (Nat.not_lt.2 hl)).trans (if_neg (by simp [he]))

theorem reqDoorbell_beyond (mem : List (List Byte × Option (List Byte)))
    (hl : 2 ^ s.win.reqSize < (v % 65536 + 65536 - s.win.reqCons) % 65536) : reqDoorbell v mem s = ringErr s := if_pos hl

/-- The reply ring once a doorbell has posted the buffers that it announces. -/
def postBuffers (v : Nat) (bufs : List (List Byte × Bool)) (s : State) : State :=
  { s with win := { s.win with
    rplProd := v % 65536,
    posted := (s.win.posted ++ bufs.map postedOf).take ((v % 65536 + 65536 - s.win.rplDone) % 65536) } }

/-- Buffers within an enabled ring are posted, replies that wait go into them, and descriptors that waited for that are fetched. -/
theorem rplDoorbell_within (bufs : List (List Byte × Bool)) (he : s.win.rplEn = true)
    (hl : (v % 65536 + 65536 - s.win.rplDone) % 65536 ≤ 2 ^ s.win.rplSize) :
    rplDoorbell v bufs s =
      fetchAll (drainReplies (postBuffers v bufs s).win.posted.length (postBuffers v bufs s)) :=
  (if_neg (Nat.not_lt.2 hl)).trans (if_neg (by simp [he]))

theorem rplDoorbell_beyond (bufs : List (List Byte × Bool))
    (hl : 2 ^ s.win.rplSize < (v % 65536 + 65536 - s.win.rplDone) % 65536) : rplDoorbell v bufs s = ringErr s := if_pos hl

/-- With nothing announced nothing is fetched. -/
theorem fetchAll_of_none (h : s.win.fetched = []) : fetchAll s = s := by
  rw [fetchAll, h]
  rfl

/-- The one descriptor announced is fetched, and the packet in its buffer received. -/
theorem fetchAll_of_one {d : List Byte × Option (List Byte)} {p : List Byte} (hf : s.win.fetched = [d]) (hl : cpListens s = true)
    (he : s.win.reqEn = true) (hw : s.win.waiting.length < 256) (hp : packetOf d = some p) :
    fetchAll s = rxRequest .pcie (0, 0) p
      (emit { kind := .ringRead, a := descAddr s.win.reqBase s.win.reqSize s.win.reqCons, b := le d.1 0 8, c := le d.1 8 4 }
        { s with win := { s.win with fetched := [], reqCons := (s.win.reqCons + 1) % 65536 } }) := by
  simp only [fetchAll, hf, List.length_cons, List.length_nil, fetchReqs, hl, he, Nat.not_le.2 hw, Bool.not_true, decide_false,
    Bool.or_self, Bool.false_eq_true, if_false, hp]

/-- With no reply waiting nothing is delivered. -/
theorem drainReplies_of_none (n : Nat) (h : s.win.waiting = []) : drainReplies n s = s := by
  cases n with
  | zero => rfl
  | succ n =>
    unfold drainReplies
    rw [h]
    cases s.win.posted <;> rfl

/-- The one reply that waits goes into the one buffer posted, which is large enough and can be written. -/
theorem drainReplies_of_one {addr size : Nat} {p : List Byte} (hb : s.win.posted = [(addr, size, true)]) (hp : s.win.waiting = [p])
    (hl : p.length ≤ size) :
    drainReplies 1 s = msixFrom (intStat s) (rplDescOut addr p.length 1
      (emit { kind := .hostReply, a := addr, bytes := p } { s with win := { s.win with waiting := [] } })) := by
  simp only [drainReplies, hb, hp, Nat.not_lt.2 hl, if_false, Bool.not_true, Bool.false_eq_true]

/-- Sending interrupt vectors leaves the window as it is. -/
@[simp] theorem msixFrom_win (before : Nat) (s : State) : (msixFrom before s).win = s.win := by
  unfold msixFrom
  split
  · refine List.foldlRecOn (motive := fun t : State => t.win = s.win) _ _ rfl fun t ht i _ => ?_
    split
    · exact ht
    · exact ht
  · rfl

end

/-! ## Datagrams and relays (13 R546, R548) -/

section
variable {port dest ip sport ident off : Nat} {more : Bool} {b : List Byte} {s : State}

/-- Counting a datagram of an Array Link changes none of the link's settings. -/
theorem udpOn_counted (q : Nat) : udpOn (modAl q (fun a => { a with recv := inc16 a.recv }) s) port = udpOn s port := by
  unfold udpOn modAl
  by_cases hq : q = 0
  · by_cases h1 : port = 1 <;> simp [hq, h1]
  · by_cases h1 : port = 1 <;> simp [hq, h1]

theorem udpTaken_counted (q : Nat) : udpTaken (modAl q (fun a => { a with recv := inc16 a.recv }) s) port dest = udpTaken s port dest := by
  by_cases hq : q = 0 <;> simp only [udpTaken, modAl, hq, if_true, if_false]

/-- A whole datagram that a listening node takes is a request packet; an Array Link counts it. -/
theorem udpIn_whole (hl : cpListens s = true) (ho : udpOn s port = true) (ht : udpTaken s port dest = true) (hb : b.length ≤ 4140) :
    udpIn port dest ip sport ident 0 false b s =
      rxRequest (udpSrc port) (ip, sport) b (if port = 0 then s else modAl (port - 1) (fun a => { a with recv := inc16 a.recv }) s) := by
  have hrun : mgRuns s = true := by
    obtain ⟨hm, hh⟩ := up_of_cpListens hl
    simp [mgRuns, hm, hh]
  by_cases hp : port = 0
  · subst hp
    simp [udpIn, hl, ho, ht, hb]
  · have hcount : 0 < port ∧ mgRuns s = true ∧ udpOn s port = true ∧ udpTaken s port dest = true := ⟨by omega, hrun, ho, ht⟩
    have hl' : cpListens (modAl (port - 1) (fun a => { a with recv := inc16 a.recv }) s) = true := hl
    rw [if_neg hp, udpIn, if_pos hcount]
    simp only [hl', udpOn_counted, udpTaken_counted, ho, ht, hb, Bool.not_true, Bool.or_self, Bool.false_eq_true, Bool.not_false, and_self,
      if_false, if_true]

/-- The reassembly of a datagram at MG once one more fragment has come (13 R546). -/
def withFragment (ip ident off : Nat) (more : Bool) (b : List Byte) (s : State) : Reasm :=
  let old := (s.cp.reasm.find? (isReasm 0 ip ident)).getD { port := .mg, ident := ip * 65536 + ident }
  { old with
    got := if old.got.any (fun g => g.1 == off) then old.got else old.got ++ [(off, b)],
    last := if more then old.last else some (off + b.length) }

/-- A fragment that leaves its datagram incomplete waits, where its reassembly has begun or there is room for one more. -/
theorem udpIn_fragment (hl : cpListens s = true) (ho : udpOn s 0 = true) (ht : udpTaken s 0 dest = true) (hf : off ≠ 0 ∨ more = true)
    (hb : off + b.length ≤ 4140)
    (hr : (s.cp.reasm.find? (isReasm 0 ip ident)).isSome = true ∨ (s.cp.reasm.filter fun x => decide (x.port = .mg)).length < 8)
    (hw : whole (withFragment ip ident off more b s) = none) :
    udpIn 0 dest ip sport ident off more b s = { s with cp := { s.cp with
      reasm := (s.cp.reasm.filter fun x => !isReasm 0 ip ident x) ++ [withFragment ip ident off more b s] } } := by
  have hfrag : ¬ (off = 0 ∧ (!more) = true) := by
    rcases hf with h | h <;> simp [h]
  have hroom : ¬ ((s.cp.reasm.find? (isReasm 0 ip ident)).isNone
      && decide (8 ≤ (s.cp.reasm.filter fun x => decide (x.port = udpSrc 0)).length)) = true := by
    rcases hr with h | h
    · simp [Option.isNone_eq_false_iff.2 h]
    · simp [udpSrc, h]
  unfold udpIn
  simp only [Nat.lt_irrefl, false_and, if_false, hl, ho, ht, Bool.not_true, Bool.or_self, Bool.false_eq_true]
  refine (if_neg hfrag).trans ((if_neg hroom).trans ((if_neg (Nat.not_lt.2 hb)).trans ?_))
  change (match whole (withFragment ip ident off more b s) with | some p => _ | none => _) = _
  rw [hw]
  rfl

theorem exec_relayReply {node : Nat} {w : Waiting} (hl : cpListens s = true) (hs : w.req.src = .link → b.length ≤ 1440)
    (h : (s.cp.relays.find? fun w => w.node == node && be w.req.params 6 2 == be b 2 2 && be w.req.params 8 2 == be b 4 2) = some w) :
    exec (.relayReply node b) s = ends (finish w.req OK 0 0 false false b
      { s with cp := { s.cp with relays := s.cp.relays.filter fun x => x.req.acc != w.req.acc } }) := by
  refine congrArg ends ((if_pos hl).trans ((relayIn_of_waiting h).trans (if_neg fun hlong => ?_)))
  have := hs hlong.1
  omega

theorem exec_relayTimeout {acc : Nat} {w : Waiting} (hl : cpListens s = true)
    (h : (s.cp.relays.find? fun w => w.req.acc == acc) = some w) :
    exec (.relayTimeout acc) s = ends (finish w.req BUSY 0 0 false false []
      { s with cp := { s.cp with relays := s.cp.relays.filter fun x => x.req.acc != acc } }) := by
  refine congrArg ends ((if_pos hl).trans ?_)
  unfold relayLate
  rw [h]

end

/-- Settles O60: a request that is admitted is received as such, doorbells go by their leads, datagrams and relays by their lemmas. -/
theorem transportEvents : Obligations.TransportEvents := by
  unfold Obligations.TransportEvents
  refine ⟨fun src ret bytes s => rfl, fun src ret bytes s h => congrArg ends (rxRequest_admitted h), fun v mem s => ?announced, ?oneRequest,
    fun v mem s hm hh hl => ?reqBeyond, fun v bufs s => ?posted, ?oneReply, fun v bufs s hm hh hl => ?rplBeyond, ?datagram, ?fragment,
    fun p ip ident s => rfl, fun node bytes w s hl hs h => exec_relayReply hl hs h, fun acc w s hl h => exec_relayTimeout hl h⟩
  case announced =>
    intro lead hm hh he hl
    rw [exec_winReqProdWrite mem hm hh, reqDoorbell_within mem he hl]
  case oneRequest =>
    intro v d p rest s u hp h1 he hf hw hl ha
    obtain ⟨hm, hh⟩ := up_of_cpListens hl
    have hroom : (v % 65536 + 65536 - s.win.reqCons) % 65536 ≤ 2 ^ s.win.reqSize := h1 ▸ Nat.one_le_two_pow
    rw [exec_winReqProdWrite (d :: rest) hm hh, reqDoorbell_within (d :: rest) he hroom, ← rxRequest_admitted ha]
    refine congrArg ends (fetchAll_of_one ?_ hl he hw hp)
    simp [h1, hf]
  case reqBeyond => rw [exec_winReqProdWrite mem hm hh, reqDoorbell_beyond mem hl]
  case posted =>
    intro lead hm hh he hl hw hf
    rw [exec_winRplProdWrite bufs hm hh, rplDoorbell_within bufs he hl]
    have hdrain := drainReplies_of_none (s := postBuffers v bufs s) (postBuffers v bufs s).win.posted.length hw
    exact congrArg ends ((congrArg fetchAll hdrain).trans (fetchAll_of_none hf))
  case oneReply =>
    intro v d rest p s addr at_ t hm hh he h1 hb hw hf hl hd
    have hroom : (v % 65536 + 65536 - s.win.rplDone) % 65536 ≤ 2 ^ s.win.rplSize := h1 ▸ Nat.one_le_two_pow
    have ht : postBuffers v (d :: rest) s = t := by simp [postBuffers, postedOf, h1, hb, hd, t, addr]
    rw [exec_winRplProdWrite (d :: rest) hm hh, rplDoorbell_within (d :: rest) he hroom, ht]
    have hdrain := drainReplies_of_one (s := t) rfl hw hl
    exact congrArg ends ((congrArg fetchAll hdrain).trans (fetchAll_of_none ((congrArg Win.fetched (msixFrom_win _ _)).trans hf)))
  case rplBeyond => rw [exec_winRplProdWrite bufs hm hh, rplDoorbell_beyond bufs hl]
  case datagram =>
    intro port dest ip sport ident bytes s u hl ho ht hb ha
    exact congrArg ends ((udpIn_whole hl ho ht hb).trans (rxRequest_admitted ha))
  case fragment =>
    intro dest ip sport ident off more bytes s old y hl ho ht hf hb hr hw
    exact congrArg ends (udpIn_fragment hl ho ht hf hb hr hw)

end Sys2Proof.Proofs

namespace Sys2Proof.Proofs

open Sys2Proof.Machine Sys2Proof.Safety Sys2Proof.Laws

/-! ## A Beat of the partner (15 R577, R582-R592)

`beatIn` is the five stages below, one after the other; a Beat that a stage does not concern passes it unchanged. -/

/-- What bring-up and the pair's state machine go by: the mode, the listening at start and the pair's state. -/
def seat (s : State) : Nat × Nat × Nat := (s.mode.mode, s.pair.listen, s.pair.state)

/-- What a Beat shows of the partner. -/
def beatShown (b : List Byte) (s : State) : State :=
  modPair (fun q => { q with
    pMode := byteAt b 0, pState := byteAt b 1, actIn := q.actIn || byteAt b 0 == 6
    pCheck := if byteAt b 16 = 1 then some (be b 17 6, be b 23 4) else q.pCheck }) s

/-- A Beat of another variant or firmware has the partner refused. -/
def beatMatched (b : List Byte) (s : State) : State :=
  if s.pair.state ≠ 5 ∧ (byteAt b 2 ≠ variantCode s.part.variant ∨ be b 3 4 ≠ s.boot.fwVer) then raise 0x0F01 0 (setPair 5 0 s) else s

/-- A Beat of an Active node ends the listening at start. -/
def beatAwaited (b : List Byte) (s : State) : State := if s.pair.listen ≠ 0 ∧ byteAt b 0 = 6 then beginShadow s else s

/-- A Beat of an Active node tells an Active node that its relinquishment failed. -/
def beatRival (b : List Byte) (s : State) : State :=
  if s.mode.mode = 6 ∧ byteAt b 0 = 6 ∧ s.pair.noRel ∧ !s.pair.fallBack then
    raise 0x0F05 0 (modPair (fun p => { p with fallBack := true }) s)
  else s

/-- A Beat may tell a Shadow node that it is no longer synchronous. -/
def beatUnsynced (b : List Byte) (s : State) : State :=
  if byteAt b 11 = 1 ∧ s.mode.mode = 7 ∧ (s.pair.state = 2 ∨ s.pair.state = 3) then unsynced 1 s else s

section
variable {s : State} {b : List Byte}

theorem beatIn_stages (b : List Byte) (s : State) :
    beatIn b s = compareCheck (beatUnsynced b (beatRival b (beatAwaited b (beatMatched b (beatShown b s))))) := rfl

theorem seat_msixFrom (before : Nat) (s : State) : seat (msixFrom before s) = seat s := by
  unfold msixFrom
  split
  · refine List.foldlRecOn (motive := fun t : State => seat t = seat s) _ _ rfl fun t ht i _ => ?_
    split
    · exact ht
    · exact ht
  · rfl

/-- Raising a fault leaves the seat: what it asks for is carried out later, by `settle`. -/
theorem seat_raise (id detail : Nat) (s : State) : seat (raise id detail s) = seat s := by
  unfold raise raiseX
  split
  · rfl
  · rw [seat_msixFrom, apply_ite seat]
    exact ite_self _

theorem beatAwaited_of_settled (h : s.pair.listen = 0) : beatAwaited b s = s := if_neg fun hc => hc.1 h

theorem beatRival_of_alone (h : s.mode.mode ≠ 6 ∨ byteAt b 0 ≠ 6) : beatRival b s = s :=
  if_neg fun hc => h.elim (fun hm => hm hc.1) fun hb => hb hc.2.1

/-- With nothing to listen for, no second Active node and no report of a lost state, a Beat of the same variant and firmware (or at a
node that refuses its partner already) only shows the partner. -/
theorem beatIn_known (hk : s.pair.state = 5 ∨ byteAt b 2 = variantCode s.part.variant ∧ be b 3 4 = s.boot.fwVer) (hl : s.pair.listen = 0)
    (hm : s.mode.mode ≠ 6 ∨ byteAt b 0 ≠ 6) (h1 : byteAt b 11 ≠ 1) : beatIn b s = compareCheck (beatShown b s) := by
  have hmatch : beatMatched b (beatShown b s) = beatShown b s := if_neg fun ⟨h5, hv⟩ =>
    hk.elim h5 fun ⟨hvar, hfw⟩ => hv.elim (fun h => h hvar) fun h => h hfw
  have hlisten : (beatShown b s).pair.listen = 0 := hl
  have hmode : (beatShown b s).mode.mode ≠ 6 ∨ byteAt b 0 ≠ 6 := hm
  rw [beatIn_stages, hmatch, beatAwaited_of_settled hlisten, beatRival_of_alone hmode]
  exact congrArg compareCheck (if_neg fun h => h1 h.1)

/-- A Beat of another variant or firmware has the node refuse its partner. -/
theorem beatIn_foreign (h5 : s.pair.state ≠ 5) (hk : byteAt b 2 ≠ variantCode s.part.variant ∨ be b 3 4 ≠ s.boot.fwVer)
    (hl : s.pair.listen = 0) (hm : s.mode.mode ≠ 6) : beatIn b s = compareCheck (raise 0x0F01 0 (setPair 5 0 (beatShown b s))) := by
  have hmatch : beatMatched b (beatShown b s) = raise 0x0F01 0 (setPair 5 0 (beatShown b s)) := if_pos ⟨h5, hk⟩
  have hseat : seat (raise 0x0F01 0 (setPair 5 0 (beatShown b s))) = (s.mode.mode, s.pair.listen, 5) := seat_raise ..
  obtain ⟨hmode, hlisten, hstate⟩ : (raise 0x0F01 0 (setPair 5 0 (beatShown b s))).mode.mode = s.mode.mode
      ∧ (raise 0x0F01 0 (setPair 5 0 (beatShown b s))).pair.listen = s.pair.listen
      ∧ (raise 0x0F01 0 (setPair 5 0 (beatShown b s))).pair.state = 5 := by simpa [seat] using hseat
  rw [beatIn_stages, hmatch, beatAwaited_of_settled (hlisten.trans hl), beatRival_of_alone (.inl (hmode ▸ hm))]
  refine congrArg compareCheck (if_neg fun h => ?_)
  rw [hstate] at h
  omega

end

/-! ## The other messages (15 R586, R593-R605) -/

section
variable {s : State} {b : List Byte} {seq : Nat}

/-- A mirrored request that is new, not late and has room is queued. -/
theorem mirrorIn_new (hm : s.mode.mode = 7) (ho : isMirrored (mirrorReq seq b).opcode = true)
    (hd : tget s.pair.doneMir (mirrorReq seq b).acc = none)
    (hq : ((s.cp.p0 ++ s.cp.p1 ++ s.cp.p2 ++ s.cp.p3).any fun x => x.src == .pair && x.acc == (mirrorReq seq b).acc) = false)
    (ht : (mirrorReq seq b).applyAt = 0 ∨ bit (mirrorReq seq b).applyAt 63 = true ∨ cal s < (mirrorReq seq b).applyAt)
    (hr : queueLen s (queueOf (mirrorReq seq b)) < queueCap (queueOf (mirrorReq seq b))) :
    mirrorIn seq b s = enqueueMirror (mirrorReq seq b) s := by
  have hlate : ((mirrorReq seq b).applyAt != 0 && !bit (mirrorReq seq b).applyAt 63 && decide ((mirrorReq seq b).applyAt ≤ cal s)
      && (s.pair.state == 2 || s.pair.state == 3)) = false := by
    rcases ht with h | h | h
    · simp [h]
    · simp [h]
    · simp [Nat.not_le.2 h]
  unfold mirrorIn
  simp only [hm, ho, hd, hq, hlate, Nat.not_le.2 hr, ne_eq, not_true, Bool.not_true, Bool.false_eq_true, or_self, if_false]

/-- A mirrored request that was carried out before is acknowledged again with its status. -/
theorem mirrorIn_done {st : Nat} (hm : s.mode.mode = 7) (ho : isMirrored (mirrorReq seq b).opcode = true)
    (hd : tget s.pair.doneMir (mirrorReq seq b).acc = some st) : mirrorIn seq b s = sendAck (mirrorReq seq b) st s := by
  unfold mirrorIn
  simp only [hm, ho, hd, ne_eq, not_true, Bool.not_true, Bool.false_eq_true, or_self, if_false]

/-- An acknowledgement of a partner reset answers the request that waits for it. -/
theorem ackIn_partner {w : Waiting} (h : (s.cp.partner.find? fun w => w.node == be b 0 4) = some w) :
    ackIn b s = finish w.req (if be b 4 2 = OK then OK else MODE_DENIED) 0 0 false (w.forced && be b 4 2 == OK) []
      { s with cp := { s.cp with partner := s.cp.partner.filter fun x => x.req.acc != w.req.acc } } := by
  unfold ackIn
  simp only [h]

/-- The pair once the mirrored request `m`, sent under `seq`, is acknowledged with status `st` (15 R586, R588). -/
def mirrorAcked (seq st : Nat) (m : MirrorOut) (q : Pair) : Pair :=
  { q with
    out := q.out.filter fun x => x.seq != seq
    diff := match m.status with | some a => if a = st then q.diff else some seq | none => q.diff }

/-- An acknowledgement of a mirrored request ends its resends, and marks a status that differs from this node's own. -/
theorem ackIn_mirror {m : MirrorOut} (hp : (s.cp.partner.find? fun w => w.node == be b 0 4) = none)
    (h : (s.pair.out.find? fun m => m.seq == be b 0 4) = some m) :
    ackIn b s = modPair (mirrorAcked (be b 0 4) (be b 4 2) m) s := by
  simp only [ackIn, hp, h]
  rfl

end

/-! ## Which messages reach their use -/

section
variable {p : Nat} {f : List Byte} {s : State}

theorem exec_beat (h : message p 1 f s = true) : exec (.beat p f (fcsOf f)) s = ends (beatIn (messageBody f) (heard p 1 f s)) :=
  congrArg ends (pairFrame_message h _)

theorem exec_mirror (h : message p 2 f s = true) :
    exec (.mirror p f (fcsOf f)) s = ends (mirrorIn (messageSeq f) (messageBody f) (heard p 2 f s)) := congrArg ends (pairFrame_message h _)

theorem exec_ack (h : message p 3 f s = true) : exec (.ack p f (fcsOf f)) s = ends (ackIn (messageBody f) (heard p 3 f s)) :=
  congrArg ends (pairFrame_message h _)

theorem exec_relinquish (h : message p 4 f s = true) :
    exec (.relinquish p f (fcsOf f)) s = ends (relinquishIn (messageBody f) (heard p 4 f s)) := congrArg ends (pairFrame_message h _)

theorem exec_vigil (h : message p 5 f s = true) (hm : (heard p 5 f s).mode.mode = 6) : exec (.vigil p f (fcsOf f)) s =
    ends (modPair (fun q => { q with vigil := fit 24 (messageBody f), vigilOk := true, absent := false }) (heard p 5 f s)) :=
  congrArg ends ((pairFrame_message h _).trans (if_pos hm))

theorem exec_resyncRequest (h : message p 6 f s = true) (hm : (heard p 6 f s).mode.mode = 6) (hs : (heard p 6 f s).pair.state = 1) :
    exec (.resyncRequest p f (fcsOf f)) s = ends (serveJoin (heard p 6 f s)) :=
  congrArg ends ((pairFrame_message h _).trans (if_pos ⟨hm, hs⟩))

theorem exec_resyncData {part : Resync} (h : message p 7 f s = true) (hm : (heard p 7 f s).mode.mode = 7)
    (hs : (heard p 7 f s).pair.state = 2 ∨ (heard p 7 f s).pair.state = 4) (hp : (heard p 7 f s).pair.paused = false) :
    exec (.resyncData p f (fcsOf f) part) s = ends (loadPart part (heard p 7 f s)) :=
  congrArg ends ((pairFrame_message h _).trans (if_pos ⟨hm, hs, by simp [hp]⟩))

theorem exec_partnerReset (h : message p 8 f s = true) :
    exec (.partnerReset p f (fcsOf f)) s = ends (partnerResetIn (messageSeq f) (messageBody f) (heard p 8 f s)) :=
  congrArg ends (pairFrame_message h _)

end

/-! ## The timers of a pair -/

section
variable {s : State}

/-- A mirrored request whose tick has not passed is sent again under a new number. -/
theorem exec_mirrorResend {seq : Nat} {m : MirrorOut} (h : (s.pair.out.find? fun m => m.seq == seq) = some m) (hd : m.due = 0 ∨ cal s < m.due) :
    exec (.mirrorResend seq) s = ends (modPair (fun p => { p with
        lastMir := s.pair.seq, out := p.out.map fun x => if x.seq = seq then { x with seq := s.pair.seq } else x }) (sendPair 2 m.bytes s)) := by
  have hdue : ¬ (m.due ≠ 0 ∧ bit m.due 63 = false ∧ m.due ≤ cal s) := by omega
  refine congrArg ends ?_
  rw [h]
  exact if_neg hdue

/-- Losing path A while path B stands loses no partner. -/
theorem exec_pathA (hp : paired s = true) (hb : s.pair.pathUpB = true) :
    exec (.pairPathTimeout false) s = ends (modPair (fun p => { p with pathUpA := false }) s) :=
  congrArg ends ((if_neg (by simp [hp])).trans (if_neg (by simp [hb])))

/-- Losing the second path of a Shadow node makes it unsynchronous. -/
theorem exec_paths (hp : paired s = true) (ha : s.pair.pathUpA = false) (hm : s.mode.mode = 7) (hs : s.pair.state = 2 ∨ s.pair.state = 3) :
    exec (.pairPathTimeout true) s = ends (unsynced 4 (modPair (fun p => { p with pathUpB := false }) s)) :=
  congrArg ends ((if_neg (by simp [hp])).trans (if_pos (by simp [ha, hm, hs])))

theorem exec_partnerResetTimeout {acc : Nat} {w : Waiting} (h : (s.cp.partner.find? fun w => w.req.acc == acc) = some w) :
    exec (.partnerResetTimeout acc) s = ends (finish w.req BUSY 0 0 false false []
      { s with cp := { s.cp with partner := s.cp.partner.filter fun x => x.req.acc != acc } }) := by
  refine congrArg ends ?_
  rw [h]

theorem serveNext_first (h : s.pair.step = 1) : serveNext s =
    sendPair 7 (toBE 1 2 ++ toBE 6 s.pair.snap ++ toBE 2 0 ++ toBE 6 0) (modPair (fun p => { p with step := 2 }) s) := by
  unfold serveNext
  simp only [h]

end

/-! ## The tables of a resynchronisation (15 R601) -/

/-- What restoring the lines and joining the ports leaves: the pipe and the gate. -/
def pipeGate (s : State) : Pipe × Gate := (s.pipe, s.gate)

section
variable {s : State}

theorem pipeGate_restoreLines (l : Tab Line) (s : State) : pipeGate (restoreLines l s) = pipeGate s := by
  unfold restoreLines
  refine List.foldlRecOn (motive := fun t : State => pipeGate t = pipeGate s) _ _ rfl fun t ht x _ => ?_
  split
  · exact ht
  · split
    · exact ht
    · exact ht

/-- A node whose chains are all named frees none. -/
theorem unnamed_none {hs : List Nat} (hc : (s.eng.chains.all fun c => hs.contains c.1) = true) :
    ((s.eng.chains.map (·.1)).filter fun h => !hs.contains h) = [] := by
  simpa [List.filter_eq_nil_iff] using hc

end

/-- Settles O54: a message that is heard goes to its use, and each use and timer to the branch that its conditions name. -/
theorem pairEvents : Obligations.PairEvents := by
  unfold Obligations.PairEvents
  refine ⟨?known, ?foreign, ?mirrored, ?done, ?partnerAck, ?mirrorAck, ?relinquish, ?vigil, ?request, ?data, ?tables, ?reset, ?denied, ?frames,
    ?resend, ?vigilTimer, ?absent, ?pathA, ?paths, ?takeNow, ?lowEarly, ?activeHeard, ?again, ?alone, ?late, ?ask, ?served, ?first, ?step,
    ?joined, ?failed⟩
  case known =>
    intro p f s u b h hk hl hm h1
    exact (exec_beat h).trans (congrArg ends (beatIn_known hk hl hm h1))
  case foreign =>
    intro p f s u b h h5 hk hl hm
    exact (exec_beat h).trans (congrArg ends (beatIn_foreign h5 hk hl hm))
  case mirrored =>
    intro p f s u r h hm ho hd hq ht hr
    exact (exec_mirror h).trans (congrArg ends (mirrorIn_new hm ho hd hq ht hr))
  case done =>
    intro p f st s u r h hm ho hd
    exact (exec_mirror h).trans (congrArg ends (mirrorIn_done hm ho hd))
  case partnerAck =>
    intro p f w s u b h hw
    exact (exec_ack h).trans (congrArg ends (ackIn_partner hw))
  case mirrorAck =>
    intro p f m s u b h hp ho
    exact (exec_ack h).trans (congrArg ends (ackIn_mirror hp ho))
  case relinquish =>
    intro p f s u k h hm hs
    exact (exec_relinquish h).trans (congrArg ends (if_pos ⟨hm, hs⟩))
  case vigil =>
    intro p f s u h hm
    exact exec_vigil h hm
  case request =>
    intro p f s u h hm hs
    exact exec_resyncRequest h hm hs
  case data =>
    intro p f part s u h hm hs hp
    exact exec_resyncData h hm hs hp
  case tables =>
    intro snap cfg set hs nodes staged s t hc hr hn
    have hkept : pipeGate (restoreLines set.lines (joinPorts s.pipe.live cfg s)) = pipeGate s := pipeGate_restoreLines ..
    obtain ⟨hpipe, hgate⟩ := Prod.mk.inj hkept
    have ht : t = loadPart (.tables snap cfg set hs nodes staged) s := rfl
    simp only [loadPart, unnamed_none hc, List.foldl_nil, if_pos (And.intro hr hn), modPair_gate, modPair_pipe, hgate, hpipe] at ht
    rw [ht]
    exact ⟨rfl, rfl, rfl, rfl, rfl, rfl, rfl, rfl, rfl, rfl⟩
  case reset =>
    intro p f s u h hm
    exact (exec_partnerReset h).trans (congrArg ends (if_pos hm))
  case denied =>
    intro p f s u h hm
    exact (exec_partnerReset h).trans (congrArg ends (if_neg hm))
  case frames => exact fun p f c s => ⟨rfl, rfl, rfl, rfl, rfl⟩
  case resend =>
    intro seq m s hm hd
    exact exec_mirrorResend hm hd
  case vigilTimer => exact fun s hm => congrArg ends (if_pos hm)
  case absent => exact fun s hm hs ha => congrArg ends (if_pos (by simp [hm, hs, ha]))
  case pathA => exact fun s hp hb => exec_pathA hp hb
  case paths => exact fun s hp ha hm hs => exec_paths hp ha hm hs
  case takeNow =>
    intro s ha hm hs
    exact congrArg ends ((if_neg (by simp [ha])).trans ((if_neg (by simp [hm])).trans (if_pos hs)))
  case lowEarly =>
    intro s ha hm hs
    exact congrArg ends ((if_neg (by simp [ha])).trans ((if_neg (by simp [hm])).trans (if_neg hs)))
  case activeHeard => exact fun s hl => congrArg ends ((if_neg hl).trans (if_pos rfl))
  case again =>
    intro s hl hr
    exact congrArg ends ((if_neg (by simp [hl])).trans ((if_neg (by simp)).trans (if_pos ⟨hl, hr⟩)))
  case alone =>
    intro s hl hr
    exact congrArg ends ((if_neg hl).trans ((if_neg (by simp)).trans (if_neg fun h => hr.elim (absurd h.1) (absurd h.2))))
  case late =>
    intro acc w s h
    exact exec_partnerResetTimeout h
  case ask => exact fun s hm hs hp => congrArg ends (if_pos ⟨hm, hs, by simp [hp]⟩)
  case served => exact fun s hm hs => congrArg ends (if_pos ⟨hm, hs⟩)
  case first => exact fun s h => serveNext_first h
  case step =>
    intro s hm hs hc h5
    exact congrArg ends ((if_neg (by omega)).trans ((if_pos ⟨hm, hs, hc⟩).trans (if_neg h5)))
  case joined =>
    intro s hm hs hc h5
    exact congrArg ends ((if_neg (by omega)).trans ((if_pos ⟨hm, hs, hc⟩).trans (if_pos h5)))
  case failed => exact fun s hm hs => congrArg ends (if_neg (by simp [hm, hs]))

end Sys2Proof.Proofs
